-- ==== Sys2Proof/Word.lean ====
section
/-!
DEFINITION. The word types of the model and nothing else: a byte of memory, a 32-bit register word, a 64-bit bus word.
-/
namespace Sys2Proof

/-- A byte of memory. -/
abbrev Byte := BitVec 8

/-- A register word (R10). -/
abbrev Word := BitVec 32

/-- A Side's 64-bit memory word. -/
abbrev DWord := BitVec 64

end Sys2Proof
end

