-- ==== Sys2Proof/Syntax.lean ====
section
/-!
DEFINITION. The commands of the block: `Instr`, one constructor for each row of the spec's table of operations and events,
and the operand types they carry. A command says what arrives from outside the block (an access, a message's turn, a
pin, an end of a wait, a measurement) with the values that come with it.
-/
namespace Sys2Proof

/-- The two Sides of the device. -/
inductive SideId where
  | s0 | s1
  deriving DecidableEq, Repr

/-- The number of a Side. -/
def SideId.num : SideId → Nat
  | .s0 => 0
  | .s1 => 1

/-- The other Side. -/
def SideId.other : SideId → SideId
  | .s0 => .s1
  | .s1 => .s0

/-- Who writes a register: host software through BAR0, or the Side's firmware. -/
inductive Writer where
  | host | firmware
  deriving DecidableEq, Repr

/-- A Collector: the host region's or a Side's Dorden Collector. -/
inductive ColId where
  | host
  | dorden (sd : SideId)
  deriving DecidableEq, Repr

/-! ### Stitch instruction fields (chapter Stitch Instruction Set) -/

/-- SP of a memory operand (Table SI-2): X, Y, C, C broadcast. -/
inductive Space where
  | x | y | c | cb
  deriving DecidableEq, Repr

/-- MODE of a memory operand with the fields it uses (Tables SI-2, SI-3). -/
inductive MofMode where
  | ind (p : Fin 8)
  | postMod (p : Fin 8)
  | postInc (p : Fin 8)
  | postDec (p : Fin 8)
  | off (p : Fin 8) (u : Fin 64)
  | abs (a : Fin 8192)
  | regOff (p : Fin 8) (g : Fin 8) (u : Fin 64)
  | regInc (p : Fin 8) (g : Fin 8)
  deriving DecidableEq, Repr

/-- A memory operand field, MOF (R103). -/
structure Mof where
  sp : Space
  mode : MofMode
  deriving DecidableEq, Repr

/-- F of the multiply formats (Table SI-4). -/
inductive FSel where
  | add | sub | load | neg
  deriving DecidableEq, Repr

/-- FN of Format A (Table SI-8). -/
inductive AFn where
  | add | sub | neg | abs | ash | max | min | reserved
  deriving DecidableEq, Repr

/-- Fields of Format M besides OP and F (Table SI-5). -/
structure FmtM where
  le : Fin 16
  mofa : Mof
  mofb : Mof
  acc : Fin 4
  s : Fin 4
  deriving DecidableEq, Repr

/-- Fields of Format R besides OP and F (Table SI-6). -/
structure FmtR where
  le : Fin 16
  da : Fin 8
  csel : Bool
  db : Fin 8
  mof : Mof
  dm : Fin 8
  mdir : Fin 4
  acc : Fin 4
  s : Fin 4
  deriving DecidableEq, Repr

/-- Fields of Format D besides OP and F (Table SI-7). -/
structure FmtD where
  le : Fin 16
  dsrc : Bool
  n : Fin 4
  mofa : Mof
  mofb : Mof
  acc : Fin 4
  s : Fin 4
  deriving DecidableEq, Repr

/-- Fields of Format A besides OP and FN (Table SI-8). -/
structure FmtA where
  le : Fin 16
  ad : Fin 4
  aa : Fin 4
  ab : Fin 4
  k : Fin 16
  deriving DecidableEq, Repr

/-- Fields of the LDA family besides F (Tables SI-9, SI-10). -/
structure LdaF where
  le : Fin 16
  mof : Mof
  dr : Fin 8
  acc : Fin 4
  src : Bool
  dbl : Bool
  deriving DecidableEq, Repr

/-- Fields of LDW. -/
structure LdwF where
  le : Fin 16
  mof : Mof
  dr : Fin 8
  acc : Fin 4
  k : Fin 16
  dest : Bool
  deriving DecidableEq, Repr

/-- Fields of LD and ST. -/
structure LdF where
  le : Fin 16
  mof : Mof
  dr : Fin 8
  deriving DecidableEq, Repr

/-- Fields of STA. -/
structure StaF where
  le : Fin 16
  mof : Mof
  acc : Fin 4
  k : Fin 16
  deriving DecidableEq, Repr

/-- Fields of MVA. -/
structure MvaF where
  le : Fin 16
  dr : Fin 8
  acc : Fin 4
  k : Fin 16
  deriving DecidableEq, Repr

/-- Fields of DSTA; Table SI-10 names DR[32:31], which its effect does not use. -/
structure DstaF where
  le : Fin 16
  mof : Mof
  n : Fin 4
  acc : Fin 4
  k : Fin 16
  deriving DecidableEq, Repr

/-- Fields of DMVA. -/
structure DmvaF where
  le : Fin 16
  n : Fin 4
  acc : Fin 4
  k : Fin 16
  deriving DecidableEq, Repr

/-- Fields of MOV. -/
structure MovF where
  le : Fin 16
  dr : Fin 8
  dr2 : Fin 8
  deriving DecidableEq, Repr

/-- Fields of CMOV. -/
structure CmovF where
  le : Fin 16
  dr : Fin 8
  dr2 : Fin 8
  cond : Fin 8
  deriving DecidableEq, Repr

/-- Fields of PSET (Table SI-11). -/
structure PsetF where
  cls : Fin 8
  idx : Fin 8
  imm : Fin 65536
  deriving DecidableEq, Repr

/-- Fields of PADD. -/
structure PaddF where
  idx : Fin 8
  imm : Fin 65536
  deriving DecidableEq, Repr

/-- Fields of PMOV. -/
structure PmovF where
  cls : Fin 8
  idx : Fin 8
  scls : Fin 8
  sidx : Fin 8
  deriving DecidableEq, Repr

/-- Fields of LOOP. -/
structure LoopF where
  csrc : Bool
  idx : Fin 8
  stop : Fin 16384
  count : Fin 65536
  deriving DecidableEq, Repr

/-- Fields of JMP. -/
structure JmpF where
  le : Fin 16
  cond : Fin 8
  target : Fin 16384
  deriving DecidableEq, Repr

/-- Fields of FLD and FST. -/
structure FarF where
  le : Fin 16
  dr : Fin 8
  j : Fin 4
  post : Bool
  deriving DecidableEq, Repr

/-- One Stitch instruction, decoded. -/
inductive StOp where
  | tap (f : FSel) (m : FmtM)
  | macm (f : FSel) (m : FmtM)
  | macr (f : FSel) (r : FmtR)
  | dmac (f : FSel) (d : FmtD)
  | arith (fn : AFn) (a : FmtA)
  | lda (f : FSel) (l : LdaF)
  | ldw (l : LdwF)
  | ld (l : LdF)
  | st (l : LdF)
  | sta (l : StaF)
  | mva (l : MvaF)
  | dsta (l : DstaF)
  | dmva (l : DmvaF)
  | mov (l : MovF)
  | cmov (l : CmovF)
  | pset (p : PsetF)
  | padd (p : PaddF)
  | pmov (p : PmovF)
  | loop (p : LoopF)
  | jmp (p : JmpF)
  | eor
  | nop
  | clrf (mask : Fin 8)
  | fld (p : FarF)
  | fst (p : FarF)
  | reserved (op : Fin 64)
  deriving DecidableEq, Repr

/-! ### Clocks, supplies and resets -/

/-- Why the clock start-up begins again (R252). -/
inductive StartCause where
  | noEdge | calibration | unlocked
  deriving DecidableEq, Repr
/-! ### Ethernet and Shemas arrivals -/

/-- A PTP message as it is received. Times and corrections are in units of 2^−16 ns; `source` names the sender, `rank` holds the
values that the best master clock algorithm compares, most significant first, `utc` is currentUtcOffset in seconds where the Announce says
that it is valid, and `interval` is logSyncInterval. -/
inductive PtpMsg where
  | announce (source : Nat) (rank : List Nat) (clockClass : Nat) (utc : Option Int)
  | sync (source seq : Nat) (interval : Int) (twoStep : Bool) (origin corr : Int)
  | followUp (source seq : Nat) (origin corr : Int)
  | delayResp (seq : Nat) (receipt corr : Int)
  | pdelayReq (source seq : Nat)
  | pdelayResp (seq : Nat) (receipt corr : Int)
  | pdelayRespFollowUp (seq : Nat) (origin corr : Int)
  deriving DecidableEq, Repr

/-- What a received Ethernet frame carries: a media packet (addresses, UDP ports, RTP payload type, SSRC and timestamp,
payload), a PTP message with whether it came on Layer 2 and its domain, ARP, an ICMPv4 echo request, an IGMP query (whether of version 2, and
its group, 0 for all), a kind that R343 discards, or anything else. -/
inductive EthFrame where
  | media (dst src dport sport pt ssrc ts : Nat) (payload : List Byte)
  | ptp (layer2 : Bool) (domain : Nat) (m : PtpMsg)
  | arpRequest (target sender mac : Nat)
  | arpReply (sender mac : Nat)
  | echo (dst src : Nat) (data : List Byte)
  | igmpQuery (v2 : Bool) (group : Nat)
  | ipv6
  | fragment
  | other
  deriving DecidableEq, Repr

/-- A skein block of a row frame (Table NW-5). -/
structure SkeinBlock where
  skein : Nat
  channels : Nat
  hops : Nat
  held : Bool
  words : List (BitVec 24)
  crcOk : Bool
  deriving DecidableEq, Repr

/-- What a control cell carries (R366, R368): a fragment of a relayed message, or a broadcast. -/
inductive CellBody where
  | fragment (dst sel msgId frag : Nat) (last : Bool) (payload : List Byte)
  | broadcast (bid row hops : Nat)
  deriving DecidableEq, Repr

/-- A control cell: its sequence number, the originating device and its contents. -/
structure Cell where
  seq : Nat
  src : Nat
  body : CellBody
  crcOk : Bool
  deriving DecidableEq, Repr

/-- A row frame (Table NW-5). -/
structure RowFrame where
  row : Nat
  devid : Nat
  side : Nat
  link : Nat
  keepalive : Bool
  rate : Nat
  skeins : List SkeinBlock
  cells : List Cell
  credit : Nat
  txPrev : Nat
  rxPrev : Nat
  rxPrevRow : Nat
  ack : Nat
  hcrcOk : Bool
  deriving DecidableEq, Repr

/-! ### The host port -/

/-- Who asks the boot flash master (R390). -/
inductive FlashUser where
  | side (sd : SideId)
  | host
  deriving DecidableEq, Repr


/-! ### Accesses -/

/-- What comes with a register write from its surroundings, for the actions that need it: the media-clock cycles since the row
boundary, the steps that the Cross array's refill or collapse had taken, and the frequency error and the end of its
millisecond that a pushed measurement carries. -/
structure BusEnv where
  cycles : Nat
  reached : Nat
  freq : Int
  last : Bool
  deriving DecidableEq, Repr

/-- Where a fabric request goes: an address of the Side's memory space, host memory or the partner (R423). -/
inductive FabDest where
  | space (a : BitVec 32)
  | host (a : BitVec 64)
  | partner (a : BitVec 32)
  deriving DecidableEq, Repr

/-- A fabric request (R424): its master and ID, its direction, its destination, its number of 32-byte beats minus 1 (with
`narrow`, one aligned 32-bit word), the bytes and byte strobes of a write, and the 64-bit words of a write, from its start, that
lose to a real-time port (R449). -/
structure FabReq where
  master : Fin 12
  id : Fin 16
  write : Bool
  dest : FabDest
  narrow : Bool
  beats : Fin 16
  data : List Byte
  strobes : List Bool
  collide : List Nat
  deriving DecidableEq, Repr

/-! ### The row pulse -/

/-- An island that takes the row pulse and works by it (Table AR-2). -/
inductive Island where
  | core (k : Fin 32)
  | cross | gauge | port | network | shemas
  deriving DecidableEq, Repr

/-- PDMCLK as the board supplies it (R331, R332): absent or beyond ±1,000 ppm of the rate selected, within it, or locked to the
media clock besides. -/
inductive PdmClock where
  | absent | free | locked
  deriving DecidableEq, Repr

/-- What comes with an island's receipt of the row pulse: the publishing units whose work of the row that starts does not finish,
the delivery writes that lose to a core's port A, the steps that an abandoned refill or collapse of the Cross array had taken, the
samples that the decimators take in within the row before (microphone, how long before the boundary in units of the counter, density), the
board's PDMCLK, the slave halves whose bit clock is absent (R318), and the starts of the Shemas frames after the boundary. -/
structure PulseEnv where
  unfinished : List Nat
  lost : List Nat
  reached : Nat
  mics : List (Nat × Nat × Nat)
  pdm : PdmClock
  unclocked : List Nat
  starts : List Nat
  deriving DecidableEq, Repr

/-- How a host access of a Side ends (R34): whether it is one of the aperture, and whether a response came in time. -/
structure AccessEnd where
  aperture : Bool
  answered : Bool
  deriving DecidableEq, Repr

/-- A step of the islands' source switch (R255): the Side, and whether it is the edge with which the switch ends. -/
structure MuxStep where
  side : SideId
  edge : Bool
  deriving DecidableEq, Repr

/-- A row of the blend stream as its receiver takes it (R205, R234): the Side, and whether its CRC is right. -/
structure StreamRow where
  side : SideId
  crcOk : Bool
  deriving DecidableEq, Repr

/-- An edge of a Side's word clock input (R335), `time` units of the counter after the boundary of the Side's row. -/
structure WordEdge where
  side : SideId
  time : Nat
  deriving DecidableEq, Repr

/-- The edges of a pin or clock, in units of the counter from the boundary of the Side's row. -/
structure PinEdges where
  rise : Int
  fall : Int
  deriving DecidableEq, Repr

/-- What a TDM half's pins bring for a frame: the edges of its frame
sync, the edges of the bit clock in which the last data bit of its last slot is sent, the bit clock's period, the bit clocks from the
frame sync's active edge to the next, and the data pin at the rising and at the falling edge of each bit clock from that edge on. A master
half makes its clocks itself and takes from the frame sync's time only whether it is a frame of this row or of the one before. -/
structure TdmFrame where
  fs : PinEdges
  last : PinEdges
  clock : Nat
  bits : Nat
  line : List (Bool × Bool)
  deriving DecidableEq, Repr

/-- The commands: one constructor for each row of the table of operations and events. -/
inductive Instr where
  /-- REGISTER_WRITE (R12). -/
  | registerWrite (u : FlashUser) (word : Fin 4194304) (be : Fin 16) (v : BitVec 32) (env : BusEnv)
  /-- SIDE_ACCESS_TIMEOUT (R34). -/
  | sideAccessTimeout (sd : SideId) (off : Fin 4194304) (write : Bool) (e : AccessEnd)
  /-- APERTURE_READ (R36). -/
  | apertureRead (sd : SideId) (word : Fin 4194304) (n : Fin 65)
  /-- QSPI_READ0 (R378). -/
  | qspiRead0 (a : BitVec 32)
  /-- QSPI_READ2 (R378). -/
  | qspiRead2 (a : BitVec 32) (n : Nat)
  /-- QSPI_WRITE0 (R379). -/
  | qspiWrite0 (a : BitVec 32) (data : List Byte) (late : Bool)
  /-- QSPI_WRITE2 (R379). -/
  | qspiWrite2 (a : BitVec 32) (data : List Byte) (late : Bool)
  /-- QSPI_STATUS (R377). -/
  | qspiStatus (busy : Bool)
  /-- QSPI_TRANSACTION_END (R379). -/
  | qspiTransactionEnd (env : BusEnv)
  /-- PCIE_D3HOT_ENTRY (R376). -/
  | pcieD3hotEntry
  /-- PCIE_UNSUPPORTED_REQUEST (R375). -/
  | pcieUnsupportedRequest
  /-- PORT_DOMAIN_RESET (R20). -/
  | portDomainReset
  /-- HOST_POWER_ON_RESET (R468). -/
  | hostPowerOnReset
  /-- HOST_RESET_RELEASE (R468). -/
  | hostResetRelease (hostsel : Bool) (devid : Fin 64)
  /-- INBOUND_SLOT_WRITE (R381). -/
  | inboundSlotWrite (sd : SideId) (slot : Fin 64) (off : Fin 4096) (data : List Byte)
  /-- TWIN_POST_WRITE (R206). -/
  | twinPostWrite (slot : Fin 64) (off : Fin 4096) (data : List Byte)
  /-- INBOUND_DOORBELL (R382). -/
  | inboundDoorbell (sd : SideId) (v : Fin 128)
  /-- OUTBOUND_DOORBELL (R383). -/
  | outboundDoorbell (sd : SideId) (v : Fin 128)
  /-- OUTBOUND_CONSUMER_WRITE (R383). -/
  | outboundConsumerWrite (sd : SideId) (v : Fin 128)
  /-- TWIN_DOORBELL (R207). -/
  | twinDoorbell (v : Fin 128)
  /-- RELAY_INSERT (R387). -/
  | relayInsert
  /-- RELAY_HOLD_TIMEOUT (R389). -/
  | relayHoldTimeout (d : Fin 64)
  /-- BOOT_FLASH_CLAIM (R390). -/
  | bootFlashClaim (u : FlashUser)
  /-- BOOT_FLASH_RELEASE (R390). -/
  | bootFlashRelease (u : FlashUser)
  /-- BOOT_FLASH_GO (R391). -/
  | bootFlashGo (u : FlashUser)
  /-- BOOT_FLASH_COMMAND_DONE (R391). -/
  | bootFlashCommandDone (data : List Byte)
  /-- COLLECTOR_SOURCE_TRIGGER (R393). -/
  | collectorSourceTrigger (c : ColId) (k : Fin 256) (rises falls : Nat) (level : Bool)
  /-- COLLECTOR_RATE_WINDOW_END (R399). -/
  | collectorRateWindowEnd (c : ColId)
  /-- COLLECTOR_CLAIM (R396). -/
  | collectorClaim (c : ColId)
  /-- COLLECTOR_EOI (R397). -/
  | collectorEoi (c : ColId) (v : BitVec 8)
  /-- COLLECTOR_SENSE_WRITE (R400). -/
  | collectorSenseWrite (c : ColId) (k : Fin 256) (sense : Fin 8)
  /-- COLLECTOR_CLEAR_COALESCED (R400). -/
  | collectorClearCoalesced (c : ColId) (k : Fin 256)
  /-- COLLECTOR_STORM_CLEAR (R399). -/
  | collectorStormClear (c : ColId) (k : Fin 256)
  /-- SEAM_GRANT (R218). -/
  | seamGrant (sd : SideId) (met : Bool)
  /-- SEAM_SEIZE (R218). -/
  | seamSeize (sd : SideId) (met : Bool)
  /-- SEAM_TRANSFER (R218). -/
  | seamTransfer (sd : SideId) (met : Bool)
  /-- SEAM_RELEASE (R218). -/
  | seamRelease (sd : SideId) (met : Bool)
  /-- SEAM_CLEAR (R218). -/
  | seamClear
  /-- SUPPLY_SWITCH_TO_BACKUP (R462). -/
  | supplySwitchToBackup (sd : SideId) (pair : Fin 4)
  /-- SUPPLY_RETURN_TO_MAIN (R462). -/
  | supplyReturnToMain (sd : SideId) (pair : Fin 4)
  /-- SUPPLY_BACKUP_LOW (R462). -/
  | supplyBackupLow (sd : SideId) (pair : Fin 4)
  /-- SUPPLY_LOSS (R464). -/
  | supplyLoss (sd : SideId) (rail : Option (Fin 4))
  /-- SUPPLY_RETURN (R464). -/
  | supplyReturn (sd : SideId) (main backup : Fin 16)
  /-- SIDE_RESET_PIN (R466). -/
  | sideResetPin (sd : SideId) (ns : Nat)
  /-- PW_RESET_WRITE (R468). -/
  | pwResetWrite (sd : SideId) (key : BitVec 16)
  /-- SIDE_RESET_RELEASE (R466). -/
  | sideResetRelease (sd : SideId) (oscw : Fin 4) (mtest : Bool)
  /-- JTAG_SIDE_RESET (R466). -/
  | jtagSideReset (sd : SideId)
  /-- JTAG_LC_RETIRE (R477). -/
  | jtagLcRetire
  /-- START_WAIT_EXPIRY (R250). -/
  | startWaitExpiry (sd : SideId)
  /-- XIN_CALIBRATION_DONE (R264). -/
  | xinCalibrationDone (sd : SideId) (counts : Vector Nat 16)
  /-- SYSPLL_LOCK (R251). -/
  | syspllLock (sd : SideId)
  /-- SERPLL_LOCK (R251). -/
  | serpllLock (sd : SideId) (n : Fin 3)
  /-- STARTUP_RETRY (R252). -/
  | startupRetry (sd : SideId) (cause : StartCause)
  /-- ISLAND_MUX_SWITCH (R255). -/
  | islandMuxSwitch (m : MuxStep)
  /-- MUX_FORCED_SWITCH (R256). -/
  | muxForcedSwitch (sd : SideId) (obs : Bool)
  /-- FROG_ENTRY (R469). -/
  | frogEntry (sd : SideId)
  /-- FROG_COMPLETE (R459). -/
  | frogComplete (sd : SideId)
  /-- XIN_NO_EDGE (R263). -/
  | xinNoEdge (sd : SideId)
  /-- XIN_WINDOW_END (R263). -/
  | xinWindowEnd (sd : SideId) (count : Nat)
  /-- XIN_GLITCH (R263). -/
  | xinGlitch (sd : SideId) (tenths : Nat)
  /-- SYSPLL_UNLOCK (R263). -/
  | syspllUnlock (sd : SideId)
  /-- GATE_SOFT_CLOSE_REQUEST (R258). -/
  | gateSoftCloseRequest (sd : SideId) (w : Writer) (gate : Fin 41)
  /-- GATE_SOFT_CLOSE (R258). -/
  | gateSoftClose (sd : SideId) (gate : Fin 41) (reached : Nat)
  /-- GATE_SOFT_CLOSE_TIMEOUT (R258). -/
  | gateSoftCloseTimeout (sd : SideId) (gate : Fin 41)
  /-- GATE_HARD_CLOSE (R259). -/
  | gateHardClose (sd : SideId) (w : Writer) (gate : Fin 41) (reached : Nat)
  /-- GATE_OPEN (R261). -/
  | gateOpen (sd : SideId) (w : Writer) (gate : Fin 41)
  /-- CLKOBS_SELECT (R262). -/
  | clkobsSelect (sd : SideId) (w : Writer) (sel : Fin 32)
  /-- CLKOBS_DIVIDER_CHANGE (R262). -/
  | clkobsDividerChange (sd : SideId)
  /-- ROW_BOUNDARY (R40). -/
  | rowBoundary (sd : SideId) (missed : Bool)
  /-- ROW_PULSE_RECEIPT (R24). -/
  | rowPulseReceipt (sd : SideId) (island : Island) (e : PulseEnv)
  /-- PUBLICATION_ANNOUNCE (R87). -/
  | publicationAnnounce (sd : SideId) (d : Fin 257)
  /-- C_REFILL_DONE (R85). -/
  | cRefillDone (sd : SideId) (k : Fin 32)
  /-- TAP (R108). -/
  | tap (sd : SideId) (k : Fin 32) (m : FmtM)
  /-- TAPS (R108). -/
  | taps (sd : SideId) (k : Fin 32) (m : FmtM)
  /-- TAPL (R108). -/
  | tapl (sd : SideId) (k : Fin 32) (m : FmtM)
  /-- TAPN (R108). -/
  | tapn (sd : SideId) (k : Fin 32) (m : FmtM)
  /-- MACM_MAC (R109). -/
  | macmMac (sd : SideId) (k : Fin 32) (m : FmtM)
  /-- MACM_MSU (R109). -/
  | macmMsu (sd : SideId) (k : Fin 32) (m : FmtM)
  /-- MACM_MPY (R109). -/
  | macmMpy (sd : SideId) (k : Fin 32) (m : FmtM)
  /-- MACM_MPYN (R109). -/
  | macmMpyn (sd : SideId) (k : Fin 32) (m : FmtM)
  /-- MACR_MAC (R110). -/
  | macrMac (sd : SideId) (k : Fin 32) (r : FmtR)
  /-- MACR_MSU (R110). -/
  | macrMsu (sd : SideId) (k : Fin 32) (r : FmtR)
  /-- MACR_MPY (R110). -/
  | macrMpy (sd : SideId) (k : Fin 32) (r : FmtR)
  /-- MACR_MPYN (R110). -/
  | macrMpyn (sd : SideId) (k : Fin 32) (r : FmtR)
  /-- DMAC (R111). -/
  | dmac (sd : SideId) (k : Fin 32) (d : FmtD)
  /-- DMSU (R111). -/
  | dmsu (sd : SideId) (k : Fin 32) (d : FmtD)
  /-- DMPY (R111). -/
  | dmpy (sd : SideId) (k : Fin 32) (d : FmtD)
  /-- DMPYN (R111). -/
  | dmpyn (sd : SideId) (k : Fin 32) (d : FmtD)
  /-- ADD (R112). -/
  | add (sd : SideId) (k : Fin 32) (a : FmtA)
  /-- SUB (R112). -/
  | sub (sd : SideId) (k : Fin 32) (a : FmtA)
  /-- NEG (R112). -/
  | neg (sd : SideId) (k : Fin 32) (a : FmtA)
  /-- ABS (R112). -/
  | abs (sd : SideId) (k : Fin 32) (a : FmtA)
  /-- ASH (R112). -/
  | ash (sd : SideId) (k : Fin 32) (a : FmtA)
  /-- MAX (R112). -/
  | max (sd : SideId) (k : Fin 32) (a : FmtA)
  /-- MIN (R112). -/
  | min (sd : SideId) (k : Fin 32) (a : FmtA)
  /-- ACC_RESERVED_FN (R112). -/
  | accReservedFn (sd : SideId) (k : Fin 32) (a : FmtA)
  /-- ADA (R114). -/
  | ada (sd : SideId) (k : Fin 32) (l : LdaF)
  /-- SBA (R114). -/
  | sba (sd : SideId) (k : Fin 32) (l : LdaF)
  /-- LDA (R114). -/
  | lda (sd : SideId) (k : Fin 32) (l : LdaF)
  /-- LDAN (R114). -/
  | ldan (sd : SideId) (k : Fin 32) (l : LdaF)
  /-- LDW (R76). -/
  | ldw (sd : SideId) (k : Fin 32) (l : LdwF)
  /-- LD (R114). -/
  | ld (sd : SideId) (k : Fin 32) (l : LdF)
  /-- ST (R114). -/
  | st (sd : SideId) (k : Fin 32) (l : LdF)
  /-- STA (R73). -/
  | sta (sd : SideId) (k : Fin 32) (l : StaF)
  /-- MVA (R73). -/
  | mva (sd : SideId) (k : Fin 32) (l : MvaF)
  /-- DSTA (R74). -/
  | dsta (sd : SideId) (k : Fin 32) (l : DstaF)
  /-- DMVA (R74). -/
  | dmva (sd : SideId) (k : Fin 32) (l : DmvaF)
  /-- MOV (R114). -/
  | mov (sd : SideId) (k : Fin 32) (l : MovF)
  /-- CMOV (R114). -/
  | cmov (sd : SideId) (k : Fin 32) (l : CmovF)
  /-- PSET (R116). -/
  | pset (sd : SideId) (k : Fin 32) (p : PsetF)
  /-- PADD (R116). -/
  | padd (sd : SideId) (k : Fin 32) (p : PaddF)
  /-- PMOV (R116). -/
  | pmov (sd : SideId) (k : Fin 32) (p : PmovF)
  /-- LOOP (R117). -/
  | loop (sd : SideId) (k : Fin 32) (p : LoopF)
  /-- JMP (R118). -/
  | jmp (sd : SideId) (k : Fin 32) (p : JmpF)
  /-- EOR (R119). -/
  | eor (sd : SideId) (k : Fin 32)
  /-- EOR_RETIRE (R92). -/
  | eorRetire (sd : SideId) (k : Fin 32) (cycles : Nat)
  /-- NOP (R116). -/
  | nop (sd : SideId) (k : Fin 32)
  /-- CLRF (R116). -/
  | clrf (sd : SideId) (k : Fin 32) (mask : Fin 8)
  /-- FLD (R120). -/
  | fld (sd : SideId) (k : Fin 32) (p : FarF)
  /-- FST (R120). -/
  | fst (sd : SideId) (k : Fin 32) (p : FarF)
  /-- FAR_ACCESS_COMPLETE (R83). -/
  | farAccessComplete (sd : SideId) (k : Fin 32)
  /-- RESERVED_OPCODE (R101). -/
  | reservedOpcode (sd : SideId) (k : Fin 32) (op : Fin 64)
  /-- BREAKPOINT_HALT (R98). -/
  | breakpointHalt (sd : SideId) (k : Fin 32)
  /-- CORE_RUN (R90). -/
  | coreRun (sd : SideId) (w : Writer) (k : Fin 32) (run : Bool)
  /-- CORE_HALT (R98). -/
  | coreHalt (sd : SideId) (w : Writer) (k : Fin 32) (halt : Bool)
  /-- CORE_STEP (R98). -/
  | coreStep (sd : SideId) (w : Writer) (k : Fin 32)
  /-- CORE_CLEAR_HWM (R46). -/
  | coreClearHwm (sd : SideId) (w : Writer) (k : Fin 32)
  /-- CORE_CLEAR_FLAGS (R79). -/
  | coreClearFlags (sd : SideId) (w : Writer) (k : Fin 32)
  /-- CROSS_ROW_COMPLETE (R130). -/
  | crossRowComplete (sd : SideId) (cycles : Nat)
  /-- CROSS_RUN (R148). -/
  | crossRun (sd : SideId) (w : Writer) (run : Bool)
  /-- PATCHBAY_REFILL_DONE (R159). -/
  | patchbayRefillDone (sd : SideId)
  /-- PATCHBAY_RUN (R160). -/
  | patchbayRun (sd : SideId) (w : Writer) (run : Bool)
  /-- METER_FRAME_CAPTURE (R167). -/
  | meterFrameCapture (sd : SideId)
  /-- TAKE_ACK (R181). -/
  | takeAck (sd : SideId) (u : Fin 40)
  /-- FLOATED_TAKE_ROW_RECEIVE (R187). -/
  | floatedTakeRowReceive (sd : SideId)
  /-- CUE_LOADER_START (R193). -/
  | cueLoaderStart (sd : SideId)
  /-- CUE_LOADER_DONE (R192). -/
  | cueLoaderDone (sd : SideId)
  /-- HEARTBEAT_RECEIVE (R210). -/
  | heartbeatReceive (sd : SideId) (crcOk : Bool)
  /-- LINK_PATH_JUDGEMENT (R216). -/
  | linkPathJudgement (sd : SideId)
  /-- SEAM_PATH_READ (R216). -/
  | seamPathRead (sd : SideId) (answered : Bool)
  /-- LEAD_TOKEN_POLL (R220). -/
  | leadTokenPoll (sd : SideId) (answered : Bool)
  /-- TWIN_LIVE_REFRESH (R213). -/
  | twinLiveRefresh (sd : SideId) (w : Writer)
  /-- TWIN_REFRESH_EXPIRY (R213). -/
  | twinRefreshExpiry (sd : SideId)
  /-- BLEND_STREAM_RECEIVE (R234). -/
  | blendStreamReceive (r : StreamRow)
  /-- BLEND_STREAM_MISSING (R237). -/
  | blendStreamMissing (sd : SideId)
  /-- MIRROR_WRITE (R242). -/
  | mirrorWrite (sd : SideId) (page : BitVec 20)
  /-- REJOIN_PASS_COMPLETE (R240). -/
  | rejoinPassComplete (sd : SideId)
  /-- REJOIN_WAIT_END (R243). -/
  | rejoinWaitEnd (sd : SideId)
  /-- CANDIDATE_MEASUREMENT (R290). -/
  | candidateMeasurement (sd : SideId) (c : Fin 8) (e freq : Int) (last : Bool)
  /-- CANDIDATE_QUALIFY (R282). -/
  | candidateQualify (sd : SideId) (c : Fin 8)
  /-- CANDIDATE_LOSS (R282). -/
  | candidateLoss (sd : SideId) (c : Fin 8)
  /-- SETTLE_TIMEOUT (R287). -/
  | settleTimeout (sd : SideId)
  /-- HOLDOFF_EXPIRY (R287). -/
  | holdoffExpiry (sd : SideId)
  /-- MEASUREMENT_PUSH (R283). -/
  | measurementPush (sd : SideId) (w : Writer) (c : Fin 8) (freq : Int) (last : Bool)
  /-- SOFTWARE_WORD_LOAD (R295). -/
  | softwareWordLoad (sd : SideId) (w : Writer) (hi : BitVec 16)
  /-- PPT_WRITE (R297). -/
  | pptWrite (sd : SideId) (w : Writer) (v : BitVec 32)
  /-- STEERING_DEFERRED_APPLY (R296). -/
  | steeringDeferredApply (sd : SideId)
  /-- LOOP_OPEN (R295). -/
  | loopOpen (sd : SideId) (w : Writer)
  /-- LOOP_CLOSE (R295). -/
  | loopClose (sd : SideId) (w : Writer)
  /-- TIME_SNAPSHOT (R280). -/
  | timeSnapshot (sd : SideId) (w : Writer) (cycles : Nat)
  /-- STEP_FROM_REF (R301). -/
  | stepFromRef (sd : SideId) (w : Writer)
  /-- STEP_SECONDS (R301). -/
  | stepSeconds (sd : SideId) (w : Writer)
  /-- TRIGGER_FIRE (R307). -/
  | triggerFire (sd : SideId)
  /-- CAPTURE_POP (R311). -/
  | capturePop (sd : SideId) (w : Writer)
  /-- FRAME_SYNC_CAPTURE_ARM (R310). -/
  | frameSyncCaptureArm (sd : SideId) (w : Writer) (ports : BitVec 16)
  /-- TDM_HALF_START (R325). -/
  | tdmHalfStart (sd : SideId) (w : Writer) (h : Fin 32) (cycles : Nat)
  /-- TDM_HALF_STOP (R325). -/
  | tdmHalfStop (sd : SideId) (w : Writer) (h : Fin 32)
  /-- TDM_HALF_STOPPED (R325). -/
  | tdmHalfStopped (sd : SideId) (h : Fin 32)
  /-- TDM_APPLY (R326). -/
  | tdmApply (sd : SideId) (w : Writer) (h : Fin 32) (t : Nat)
  /-- PORT_SHADOW_APPLY (R326). -/
  | portShadowApply (sd : SideId)
  /-- TDM_RECEIVE_FRAME (R319). -/
  | tdmReceiveFrame (sd : SideId) (p : Fin 16) (fs last : PinEdges) (clock bits : Nat) (line : List (Bool × Bool))
  /-- TDM_TRANSMIT_FRAME (R320). -/
  | tdmTransmitFrame (sd : SideId) (p : Fin 16) (fs : PinEdges) (clock bits : Nat)
  /-- BRIDGE_LOCK (R329). -/
  | bridgeLock (sd : SideId) (c : Fin 128) (ratio : BitVec 32)
  /-- BRIDGE_UNLOCK (R329). -/
  | bridgeUnlock (sd : SideId) (c : Fin 128)
  /-- PDM_SLIP (R333). -/
  | pdmSlip (sd : SideId)
  /-- WORD_CLOCK_EDGE (R335). -/
  | wordClockEdge (e : WordEdge)
  /-- WORD_CLOCK_ABSENT (R335). -/
  | wordClockAbsent (sd : SideId)
  /-- GPIO_EDGE (R336). -/
  | gpioEdge (sd : SideId) (g : Fin 16) (rising : Bool) (held t : Nat)
  /-- ETH_FRAME_RECEIVE (R343). -/
  | ethFrameReceive (sd : SideId) (p : Fin 2) (fcsOk : Bool) (len t : Nat) (freq : Int) (last : Bool) (f : EthFrame)
  /-- PTP_ANNOUNCE_TIMEOUT (R347). -/
  | ptpAnnounceTimeout (sd : SideId) (p : Fin 2)
  /-- ETH_LINK_UP (R344). -/
  | ethLinkUp (sd : SideId) (p : Fin 2)
  /-- ETH_LINK_DOWN (R344). -/
  | ethLinkDown (sd : SideId) (p : Fin 2)
  /-- SHEMAS_HELLO_RECEIVE (R359). -/
  | shemasHelloReceive (sd : SideId) (l : Fin 4) (dev : Fin 64) (side : Fin 2) (link : Fin 4) (rate : Fin 8) (sees : Bool)
  /-- ROW_FRAME_RECEIVE (R362). -/
  | rowFrameReceive (sd : SideId) (l : Fin 4) (t : Nat) (f : RowFrame) (freq : Int) (last : Bool)
  /-- SKEIN_MISSED (R362). -/
  | skeinMissed (sd : SideId) (l : Fin 4) (skein : Fin 16)
  /-- SHEMAS_LINK_LOSS (R364). -/
  | shemasLinkLoss (sd : SideId) (l : Fin 4)
  /-- CONTROL_CELL_RESEND (R366). -/
  | controlCellResend (sd : SideId) (l : Fin 4)
  /-- SYS_NOP (R412). -/
  | sysNop (sd : SideId)
  /-- SYS_INFO (R412). -/
  | sysInfo (sd : SideId)
  /-- SYS_SESSION_OPEN (R408). -/
  | sysSessionOpen (sd : SideId)
  /-- SYS_SESSION_CLOSE (R408). -/
  | sysSessionClose (sd : SideId)
  /-- SYS_RUN (R469). -/
  | sysRun (sd : SideId)
  /-- SYS_BIND_OFF (R473). -/
  | sysBindOff (sd : SideId)
  /-- SYS_RESET_SIDE (R466). -/
  | sysResetSide (sd : SideId)
  /-- PAT_BEGIN (R469). -/
  | patBegin (sd : SideId) (flash : List Byte)
  /-- PAT_DATA (R43). -/
  | patData (sd : SideId)
  /-- PAT_END (R44). -/
  | patEnd (sd : SideId)
  /-- PAT_INFO (R412). -/
  | patInfo (sd : SideId)
  /-- PAT_LATENCY (R59). -/
  | patLatency (sd : SideId)
  /-- OBJ_WRITE (R411). -/
  | objWrite (sd : SideId)
  /-- OBJ_DESCRIBE (R412). -/
  | objDescribe (sd : SideId)
  /-- OBJ_CLEAR_HWM (R46). -/
  | objClearHwm (sd : SideId)
  /-- XP_STAGE (R135). -/
  | xpStage (sd : SideId)
  /-- XP_STAGE_ROW (R135). -/
  | xpStageRow (sd : SideId)
  /-- XP_DESC (R173). -/
  | xpDesc (sd : SideId)
  /-- TAKE_POST (R175). -/
  | takePost (sd : SideId)
  /-- TAKE_CANCEL (R178). -/
  | takeCancel (sd : SideId)
  /-- CUE_BEGIN (R188). -/
  | cueBegin (sd : SideId)
  /-- CUE_ADD (R188). -/
  | cueAdd (sd : SideId)
  /-- CUE_END (R189). -/
  | cueEnd (sd : SideId)
  /-- CUE_ARM (R190). -/
  | cueArm (sd : SideId)
  /-- CUE_DISARM (R497). -/
  | cueDisarm (sd : SideId)
  /-- CUE_FIRE (R191). -/
  | cueFire (sd : SideId)
  /-- CUE_ABORT (R196). -/
  | cueAbort (sd : SideId)
  /-- CUE_CLEAR (R497). -/
  | cueClear (sd : SideId)
  /-- CUE_MARGIN (R197). -/
  | cueMargin (sd : SideId)
  /-- MTR_POINT (R164). -/
  | mtrPoint (sd : SideId)
  /-- MTR_RESET (R165). -/
  | mtrReset (sd : SideId)
  /-- MTR_GROUP (R166). -/
  | mtrGroup (sd : SideId)
  /-- CLK_CAND (R281). -/
  | clkCand (sd : SideId)
  /-- CLK_LOOP (R290). -/
  | clkLoop (sd : SideId)
  /-- CLK_OPEN (R295). -/
  | clkOpen (sd : SideId)
  /-- CLK_FW (R295). -/
  | clkFw (sd : SideId)
  /-- CLK_PPT (R297). -/
  | clkPpt (sd : SideId)
  /-- CLK_PUSH (R283). -/
  | clkPush (sd : SideId) (freq : Int) (last : Bool)
  /-- CLK_OBS (R262). -/
  | clkObs (sd : SideId)
  /-- TIME_SNAP (R280). -/
  | timeSnap (sd : SideId) (cycles : Nat)
  /-- TIME_STEP (R301). -/
  | timeStep (sd : SideId)
  /-- TIME_TRIGGER (R307). -/
  | timeTrigger (sd : SideId)
  /-- TIME_CAPTURE_SET (R310). -/
  | timeCaptureSet (sd : SideId)
  /-- TIME_PHY (R306). -/
  | timePhy (sd : SideId)
  /-- TIME_ASYM (R306). -/
  | timeAsym (sd : SideId)
  /-- TIME_UTC (R274). -/
  | timeUtc (sd : SideId)
  /-- PORT_HALF_CFG (R326). -/
  | portHalfCfg (sd : SideId)
  /-- PORT_HALF_START (R325). -/
  | portHalfStart (sd : SideId) (cycles : Nat)
  /-- PORT_HALF_STOP (R325). -/
  | portHalfStop (sd : SideId)
  /-- PORT_APPLY (R326). -/
  | portApply (sd : SideId) (cycles : Nat)
  /-- PORT_PDM (R331). -/
  | portPdm (sd : SideId)
  /-- PORT_WCLK (R334). -/
  | portWclk (sd : SideId)
  /-- PORT_GPIO (R336). -/
  | portGpio (sd : SideId)
  /-- PORT_BRIDGE (R328). -/
  | portBridge (sd : SideId)
  /-- NET_PORT (R346). -/
  | netPort (sd : SideId)
  /-- NET_FLOW_SET (R348). -/
  | netFlowSet (sd : SideId)
  /-- NET_FLOW_TAKE (R356). -/
  | netFlowTake (sd : SideId)
  /-- NET_FLOW_EN (R349). -/
  | netFlowEn (sd : SideId)
  /-- NET_CHSTATUS (R351). -/
  | netChstatus (sd : SideId)
  /-- NET_BUFFER (R357). -/
  | netBuffer (sd : SideId)
  /-- LINK_SKEIN (R363). -/
  | linkSkein (sd : SideId)
  /-- LINK_ASYM (R365). -/
  | linkAsym (sd : SideId)
  /-- LINK_ROUTE (R367). -/
  | linkRoute (sd : SideId)
  /-- LINK_RELAY (R388). -/
  | linkRelay (sd : SideId)
  /-- TWIN_START (R222). -/
  | twinStart (sd : SideId)
  /-- TWIN_CABLE (R229). -/
  | twinCable (sd : SideId)
  /-- TWIN_BLEND (R233). -/
  | twinBlend (sd : SideId)
  /-- TWIN_REWORK (R222). -/
  | twinRework (sd : SideId)
  /-- TWIN_REJOIN (R238). -/
  | twinRejoin (sd : SideId)
  /-- TWIN_SPLIT (R245). -/
  | twinSplit (sd : SideId)
  /-- TWIN_JOIN (R245). -/
  | twinJoin (sd : SideId)
  /-- TWIN_CONFIG (R222). -/
  | twinConfig (sd : SideId)
  /-- MEM_BANK (R445). -/
  | memBank (sd : SideId)
  /-- MEM_SWATCH (R454). -/
  | memSwatch (sd : SideId)
  /-- MEM_ECC_CLEAR (R451). -/
  | memEccClear (sd : SideId)
  /-- DMA_LEND (R438). -/
  | dmaLend (sd : SideId)
  /-- DMA_RETURN (R438). -/
  | dmaReturn (sd : SideId)
  /-- DMA_RESUME (R438). -/
  | dmaResume (sd : SideId)
  /-- DMA_COPY (R438). -/
  | dmaCopy (sd : SideId)
  /-- READ_OBJECT (R420). -/
  | readObject (sd : SideId)
  /-- READ_RANGE (R420). -/
  | readRange (sd : SideId)
  /-- READ_LIST (R412). -/
  | readList (sd : SideId)
  /-- EVT_ACK (R418). -/
  | evtAck (sd : SideId)
  /-- EVT_ATTN (R419). -/
  | evtAttn (sd : SideId)
  /-- EVT_LOST (R417). -/
  | evtLost (sd : SideId)
  /-- FABRIC_REQUEST (R426). -/
  | fabricRequest (sd : SideId) (q : FabReq) (upset : Option (BitVec 32 × Bool)) (env : BusEnv)
  /-- FABRIC_RESPONSE (R431). -/
  | fabricResponse (sd : SideId) (m : Fin 12) (id : Fin 16) (stalled : Nat) (env : BusEnv)
  /-- MASTER_RESET (R430). -/
  | masterReset (sd : SideId) (m : Fin 12) (burst : Option (FabReq × Fin 17)) (env : BusEnv)
  /-- DMA_REQUEST (R433). -/
  | dmaRequest (sd : SideId) (line : Fin 48) (src : BitVec 32) (len : Fin 16777216)
  /-- DMA_SOFTWARE_REQUEST (R433). -/
  | dmaSoftwareRequest (sd : SideId) (w : Writer) (c : Fin 16)
  /-- DMA_JOB_START (R434). -/
  | dmaJobStart (sd : SideId)
  /-- DMA_JOB_COMPLETE (R435). -/
  | dmaJobComplete (sd : SideId)
  /-- DMA_JOB_ABANDON (R434). -/
  | dmaJobAbandon (sd : SideId)
  /-- DMA_CHANNEL_PARK (R439). -/
  | dmaChannelPark (sd : SideId) (c : Fin 16)
  /-- DMA_RECORD_CONSUME (R438). -/
  | dmaRecordConsume (sd : SideId) (w : Writer) (c : Fin 16) (v : BitVec 16)
  /-- BANK_STATE_WRITE (R444). -/
  | bankStateWrite (sd : SideId) (w : Writer) (b : Fin 52) (v : Fin 4)
  /-- BANK_STATE_CHANGE_DONE (R444). -/
  | bankStateChangeDone (sd : SideId) (b : Fin 52)
  /-- SWATCH_GO (R454). -/
  | swatchGo (sd : SideId) (w : Writer) (bank : Fin 64) (all kind repair : Bool)
  /-- SWATCH_MACRO_DONE (R453). -/
  | swatchMacroDone (sd : SideId) (m : Fin 649) (fails : List (Nat × Nat × Nat))
  /-- SWATCH_RUN_DONE (R456). -/
  | swatchRunDone (sd : SideId)
  /-- TAMPER_ASSERT (R460). -/
  | tamperAssert (sd : SideId) (ns : Nat)
  /-- CAST_ON_ENTRY (R471). -/
  | castOnEntry (sd : SideId) (directory : List Byte)
  /-- FIRMWARE_IMAGE_READ_DONE (R471). -/
  | firmwareImageReadDone (sd : SideId) (image : List Byte)
  /-- BOOT_PATTERN_LOAD (R472). -/
  | bootPatternLoad (sd : SideId) (image : List Byte)
  /-- WATCHDOG_ENABLE (R499). -/
  | watchdogEnable (sd : SideId) (w : Writer)
  /-- WATCHDOG_KICK (R499). -/
  | watchdogKick (sd : SideId) (w : Writer)
  /-- WATCHDOG_EXPIRY (R499). -/
  | watchdogExpiry (sd : SideId)
  /-- FIRMWARE_FATAL_FAULT (R474). -/
  | firmwareFatalFault (sd : SideId)
  /-- LIFE_CYCLE_CHANGE_REQUEST (R477). -/
  | lifeCycleChangeRequest (sd : SideId) (target : Fin 4) (key : BitVec 16)
  /-- LIFE_CYCLE_CHANGE_DONE (R478). -/
  | lifeCycleChangeDone
  /-- PCIE_CONFIG_WRITE (R421). -/
  | pcieConfigWrite (bme msi d0 : Bool)
  /-- PCIE_LINK_DOWN (R436). -/
  | pcieLinkDown (link : Option (Fin 4 × Fin 3))
  /-- TAMPER_RELEASE (R460). -/
  | tamperRelease (sd : SideId)
  /-- ETH_FRAME_TRANSMIT (R305). -/
  | ethFrameTransmit (sd : SideId) (p : Fin 2) (t : Nat)
  /-- ARP_REFRESH (R357). -/
  | arpRefresh (sd : SideId)
  /-- TWIN_STEP_PLAN_RECEIVE (R303). -/
  | twinStepPlanReceive (sd : SideId)
  deriving DecidableEq, Repr

end Sys2Proof
end

