-- ==== Sys2Proof/WellFormed.lean ====
section
/-!
DEFINITION. Which commands can arise: the spec's limits on what a command carries, beyond those its operand types hold already.
-/
namespace Sys2Proof

/-- Whether an opcode is one Table SI-1 reserves. -/
def opReserved (op : Nat) : Bool := decide (op = 0 ∨ 0x1A ≤ op)

/-- R424: a request of whole beats has all of their bytes at an address of a beat and does not cross 4 KiB; a narrow one has the
4 bytes of a word. -/
def FabReq.fits (q : FabReq) : Bool :=
  let a := match q.dest with
    | .space a => a.toNat
    | .host a => a.toNat
    | .partner a => a.toNat
  let n := if q.narrow then 4 else 32 * (q.beats.val + 1)
  decide (a % (if q.narrow then 4 else 32) = 0 ∧ a % 4096 + n ≤ 4096) &&
    (!q.write || decide (q.data.length = n ∧ q.strobes.length = n)) && (!q.narrow || decide (q.beats.val = 0))

/-- Table NW-5: a block has one word for each of its channels. -/
def SkeinBlock.fits (b : SkeinBlock) : Bool :=
  decide (b.skein < 16 ∧ 1 ≤ b.channels ∧ b.channels ≤ 256 ∧ b.hops < 16 ∧ b.words.length = b.channels)

/-- Table NW-5: the fields of a row frame. -/
def RowFrame.fits (f : RowFrame) : Bool :=
  decide (f.row < 2 ^ 64 ∧ f.devid < 64 ∧ f.side < 2 ∧ f.link < 4 ∧ f.skeins.length ≤ 16) && f.skeins.all SkeinBlock.fits

/-- R340: the numbers of a media packet. -/
def EthFrame.fits (f : EthFrame) : Bool :=
  match f with
  | .media dst src dport sport pt ssrc ts _ =>
    decide (dst < 2 ^ 32 ∧ src < 2 ^ 32 ∧ dport < 2 ^ 16 ∧ sport < 2 ^ 16 ∧ pt < 128 ∧ ssrc < 2 ^ 32 ∧ ts < 2 ^ 32)
  | .ptp _ domain _ => decide (domain < 128)
  | .arpRequest target sender mac => decide (target < 2 ^ 32 ∧ sender < 2 ^ 32 ∧ mac < 2 ^ 48)
  | .arpReply sender mac => decide (sender < 2 ^ 32 ∧ mac < 2 ^ 48)
  | .echo dst src _ => decide (dst < 2 ^ 32 ∧ src < 2 ^ 32)
  | .igmpQuery _ group => decide (group < 2 ^ 32)
  | .ipv6 | .fragment | .other => true

/-- Whether a command is well formed. -/
def Instr.wellFormed (i : Instr) : Bool :=
  match i with
  | .apertureRead _ word n => decide (1 ≤ n.val ∧ word.val + n.val ≤ 4194304)
  | .inboundSlotWrite _ _ off data | .twinPostWrite _ off data => decide (off.val + data.length ≤ 4096)
  | .ethFrameReceive _ _ _ _ _ _ _ f => f.fits
  | .rowFrameReceive _ _ _ f _ _ => f.fits
  | .fabricRequest _ q _ _ => q.fits
  | .reservedOpcode _ _ op => opReserved op.val
  | _ => true

end Sys2Proof
end

