-- ==== Sys2Proof/Decode.lean ====
section
/-!
DEFINITION. Decoding. The spec's table of operations gives its rows no bits, so `decodeTableWord` reads no command from a
word. The Stitch cores do decode 64-bit words from program memory (R100): `decodeStitch` reads every word, `encodeStitch`
writes a decoded instruction, both from the format tables of chapter Stitch Instruction Set.
-/
namespace Sys2Proof

/-- The command that a word spells by the table's bits: the table gives no row any bits, so none. -/
def decodeTableWord (_nbits _w : Nat) : Option Instr := none

/-- Bits [lo + n − 1 : lo] of a word. -/
def fieldOf (w lo n : Nat) : Nat := w / 2 ^ lo % 2 ^ n

/-- A field as a number below its bound; out of range counts as zero and does not arise for a field of its width. -/
def finField (n : Nat) (h : 0 < n) (x : Nat) : Fin n := if hx : x < n then ⟨x, hx⟩ else ⟨0, h⟩

/-- A three-bit register or class field. -/
def f8 (w lo : Nat) : Fin 8 := finField 8 (by omega) (fieldOf w lo 3)

/-- A two-bit field. -/
def f4 (w lo : Nat) : Fin 4 := finField 4 (by omega) (fieldOf w lo 2)

/-- A four-bit field. -/
def f16 (w lo : Nat) : Fin 16 := finField 16 (by omega) (fieldOf w lo 4)

/-- A 14-bit program address. -/
def f14 (w lo : Nat) : Fin 16384 := finField 16384 (by omega) (fieldOf w lo 14)

/-- A 16-bit immediate. -/
def fImm (w lo : Nat) : Fin 65536 := finField 65536 (by omega) (fieldOf w lo 16)

/-- SP of a memory operand. -/
def decodeSpace (n : Nat) : Space :=
  match n with
  | 0 => .x
  | 1 => .y
  | 2 => .c
  | _ => .cb

/-- The code of a space. -/
def encodeSpace : Space → Nat
  | .x => 0
  | .y => 1
  | .c => 2
  | .cb => 3

/-- Tables SI-2 and SI-3: the mode of a 20-bit memory operand. -/
def decodeMode (w : Nat) : MofMode :=
  let p := f8 w 12
  let g := f8 w 9
  let u := finField 64 (by omega) (fieldOf w 0 6)
  match fieldOf w 15 3 with
  | 0 => .ind p
  | 1 => .postMod p
  | 2 => .postInc p
  | 3 => .postDec p
  | 4 => .off p u
  | 5 => .abs (finField 8192 (by omega) (fieldOf w 0 13))
  | 6 => .regOff p g u
  | _ => .regInc p g

/-- The 18 low bits of a memory operand. -/
def encodeMode : MofMode → Nat
  | .ind p => p.val * 4096
  | .postMod p => 1 * 32768 + p.val * 4096
  | .postInc p => 2 * 32768 + p.val * 4096
  | .postDec p => 3 * 32768 + p.val * 4096
  | .off p u => 4 * 32768 + p.val * 4096 + u.val
  | .abs a => 5 * 32768 + a.val
  | .regOff p g u => 6 * 32768 + p.val * 4096 + g.val * 512 + u.val
  | .regInc p g => 7 * 32768 + p.val * 4096 + g.val * 512

/-- A memory operand from its 20 bits (R103). -/
def decodeMof (w : Nat) : Mof := { sp := decodeSpace (fieldOf w 18 2), mode := decodeMode w }

/-- The 20 bits of a memory operand. -/
def encodeMof (o : Mof) : Nat := encodeSpace o.sp * 262144 + encodeMode o.mode

/-- A memory operand at a bit of the word. -/
def mofAt (w lo : Nat) : Mof := decodeMof (fieldOf w lo 20)

/-- F (Table SI-4). -/
def decodeF (n : Nat) : FSel :=
  match n with
  | 0 => .add
  | 1 => .sub
  | 2 => .load
  | _ => .neg

/-- The code of F. -/
def encodeF : FSel → Nat
  | .add => 0
  | .sub => 1
  | .load => 2
  | .neg => 3

/-- FN (Table SI-8). -/
def decodeFn (n : Nat) : AFn :=
  match n with
  | 0 => .add
  | 1 => .sub
  | 2 => .neg
  | 3 => .abs
  | 4 => .ash
  | 5 => .max
  | 6 => .min
  | _ => .reserved

/-- The code of FN. -/
def encodeFn : AFn → Nat
  | .add => 0
  | .sub => 1
  | .neg => 2
  | .abs => 3
  | .ash => 4
  | .max => 5
  | .min => 6
  | .reserved => 7

/-- A one-bit field. -/
def flagAt (w lo : Nat) : Bool := decide (fieldOf w lo 1 = 1)

/-- Table SI-5. -/
def decodeM (w : Nat) : FmtM :=
  { le := f16 w 54, mofa := mofAt w 34, mofb := mofAt w 14, acc := f4 w 12, s := f4 w 10 }

/-- Table SI-6. -/
def decodeR (w : Nat) : FmtR :=
  { le := f16 w 54, da := f8 w 51, csel := flagAt w 50, db := f8 w 47, mof := mofAt w 27, dm := f8 w 24, mdir := f4 w 22
    acc := f4 w 20, s := f4 w 18 }

/-- Table SI-7. -/
def decodeD (w : Nat) : FmtD :=
  { le := f16 w 54, dsrc := flagAt w 52, n := f4 w 50, mofa := mofAt w 30, mofb := mofAt w 10, acc := f4 w 8
    s := f4 w 6 }

/-- Table SI-8. -/
def decodeA (w : Nat) : FmtA := { le := f16 w 54, ad := f4 w 52, aa := f4 w 50, ab := f4 w 48, k := f16 w 41 }

/-- R100: the instruction of a 64-bit program word. Reserved opcodes decode to `reserved` with their opcode (R101). -/
def decodeStitch (w : Nat) : StOp :=
  let le := f16 w 54
  let mof := mofAt w 34
  let dr := f8 w 31
  let acc := f4 w 29
  let k := f16 w 25
  let n := f4 w 31
  match fieldOf w 58 6 with
  | 0x01 => .tap (decodeF (fieldOf w 8 2)) (decodeM w)
  | 0x02 => .macm (decodeF (fieldOf w 8 2)) (decodeM w)
  | 0x03 => .macr (decodeF (fieldOf w 16 2)) (decodeR w)
  | 0x04 => .dmac (decodeF (fieldOf w 4 2)) (decodeD w)
  | 0x05 => .arith (decodeFn (fieldOf w 45 3)) (decodeA w)
  | 0x06 => .lda (decodeF (fieldOf w 23 2)) { le := le, mof := mof, dr := dr, acc := acc, src := flagAt w 22, dbl := flagAt w 15 }
  | 0x07 => .ldw { le := le, mof := mof, dr := dr, acc := acc, k := k, dest := flagAt w 24 }
  | 0x08 => .ld { le := le, mof := mof, dr := dr }
  | 0x09 => .st { le := le, mof := mof, dr := dr }
  | 0x0A => .sta { le := le, mof := mof, acc := acc, k := k }
  | 0x0B => .mva { le := le, dr := dr, acc := acc, k := k }
  | 0x0C => .dsta { le := le, mof := mof, n := n, acc := acc, k := k }
  | 0x0D => .dmva { le := le, n := n, acc := acc, k := k }
  | 0x0E => .mov { le := le, dr := dr, dr2 := f8 w 19 }
  | 0x0F => .cmov { le := le, dr := dr, dr2 := f8 w 19, cond := f8 w 16 }
  | 0x10 => .pset { cls := f8 w 51, idx := f8 w 48, imm := fImm w 0 }
  | 0x11 => .padd { idx := f8 w 48, imm := fImm w 0 }
  | 0x12 => .pmov { cls := f8 w 51, idx := f8 w 48, scls := f8 w 45, sidx := f8 w 42 }
  | 0x13 => .loop { csrc := flagAt w 53, idx := f8 w 48, stop := f14 w 32, count := fImm w 0 }
  | 0x14 => .jmp { le := le, cond := f8 w 51, target := f14 w 32 }
  | 0x15 => .eor
  | 0x16 => .nop
  | 0x17 => .clrf (f8 w 0)
  | 0x18 => .fld { le := le, dr := f8 w 51, j := f4 w 49, post := flagAt w 48 }
  | 0x19 => .fst { le := le, dr := f8 w 51, j := f4 w 49, post := flagAt w 48 }
  | op => .reserved (finField 64 (by omega) op)

/-- OP and LE at the head of a word. -/
def headOf (op : Nat) (le : Nat) : Nat := op * 2 ^ 58 + le * 2 ^ 54

/-- Table SI-5 for a word with opcode `op`. -/
def encodeM (op : Nat) (f : FSel) (m : FmtM) : Nat :=
  headOf op m.le.val + encodeMof m.mofa * 2 ^ 34 + encodeMof m.mofb * 2 ^ 14 + m.acc.val * 2 ^ 12 + m.s.val * 2 ^ 10 +
    encodeF f * 2 ^ 8

/-- The 64-bit program word of an instruction; fields it does not use are zero, and LE is 0b1111 where it has no part. -/
def encodeStitch : StOp → Nat
  | .tap f m => encodeM 0x01 f m
  | .macm f m => encodeM 0x02 f m
  | .macr f r =>
    headOf 0x03 r.le.val + r.da.val * 2 ^ 51 + r.csel.toNat * 2 ^ 50 + r.db.val * 2 ^ 47 + encodeMof r.mof * 2 ^ 27 +
      r.dm.val * 2 ^ 24 + r.mdir.val * 2 ^ 22 + r.acc.val * 2 ^ 20 + r.s.val * 2 ^ 18 + encodeF f * 2 ^ 16
  | .dmac f d =>
    headOf 0x04 d.le.val + d.dsrc.toNat * 2 ^ 52 + d.n.val * 2 ^ 50 + encodeMof d.mofa * 2 ^ 30 + encodeMof d.mofb * 2 ^ 10 +
      d.acc.val * 2 ^ 8 + d.s.val * 2 ^ 6 + encodeF f * 2 ^ 4
  | .arith fn a =>
    headOf 0x05 a.le.val + a.ad.val * 2 ^ 52 + a.aa.val * 2 ^ 50 + a.ab.val * 2 ^ 48 + encodeFn fn * 2 ^ 45 + a.k.val * 2 ^ 41
  | .lda f l =>
    headOf 0x06 l.le.val + encodeMof l.mof * 2 ^ 34 + l.dr.val * 2 ^ 31 + l.acc.val * 2 ^ 29 + encodeF f * 2 ^ 23 +
      l.src.toNat * 2 ^ 22 + l.dbl.toNat * 2 ^ 15
  | .ldw l =>
    headOf 0x07 l.le.val + encodeMof l.mof * 2 ^ 34 + l.dr.val * 2 ^ 31 + l.acc.val * 2 ^ 29 + l.k.val * 2 ^ 25 +
      l.dest.toNat * 2 ^ 24
  | .ld l => headOf 0x08 l.le.val + encodeMof l.mof * 2 ^ 34 + l.dr.val * 2 ^ 31
  | .st l => headOf 0x09 l.le.val + encodeMof l.mof * 2 ^ 34 + l.dr.val * 2 ^ 31
  | .sta l => headOf 0x0A l.le.val + encodeMof l.mof * 2 ^ 34 + l.acc.val * 2 ^ 29 + l.k.val * 2 ^ 25
  | .mva l => headOf 0x0B l.le.val + l.dr.val * 2 ^ 31 + l.acc.val * 2 ^ 29 + l.k.val * 2 ^ 25
  | .dsta l =>
    headOf 0x0C l.le.val + encodeMof l.mof * 2 ^ 34 + l.n.val * 2 ^ 31 + l.acc.val * 2 ^ 29 + l.k.val * 2 ^ 25
  | .dmva l => headOf 0x0D l.le.val + l.n.val * 2 ^ 31 + l.acc.val * 2 ^ 29 + l.k.val * 2 ^ 25
  | .mov l => headOf 0x0E l.le.val + l.dr.val * 2 ^ 31 + l.dr2.val * 2 ^ 19
  | .cmov l => headOf 0x0F l.le.val + l.dr.val * 2 ^ 31 + l.dr2.val * 2 ^ 19 + l.cond.val * 2 ^ 16
  | .pset p => headOf 0x10 15 + p.cls.val * 2 ^ 51 + p.idx.val * 2 ^ 48 + p.imm.val
  | .padd p => headOf 0x11 15 + p.idx.val * 2 ^ 48 + p.imm.val
  | .pmov p => headOf 0x12 15 + p.cls.val * 2 ^ 51 + p.idx.val * 2 ^ 48 + p.scls.val * 2 ^ 45 + p.sidx.val * 2 ^ 42
  | .loop p => headOf 0x13 15 + p.csrc.toNat * 2 ^ 53 + p.idx.val * 2 ^ 48 + p.stop.val * 2 ^ 32 + p.count.val
  | .jmp p => headOf 0x14 p.le.val + p.cond.val * 2 ^ 51 + p.target.val * 2 ^ 32
  | .eor => headOf 0x15 15
  | .nop => headOf 0x16 15
  | .clrf m => headOf 0x17 15 + m.val
  | .fld p => headOf 0x18 p.le.val + p.dr.val * 2 ^ 51 + p.j.val * 2 ^ 49 + p.post.toNat * 2 ^ 48
  | .fst p => headOf 0x19 p.le.val + p.dr.val * 2 ^ 51 + p.j.val * 2 ^ 49 + p.post.toNat * 2 ^ 48
  | .reserved op => headOf op.val 15

end Sys2Proof
end

