-- ==== Sys2Proof/Config.lean ====
section
/-!
DEFINITION. What the spec leaves open, as constants without a body: nothing can be proved of their values, so a statement
holds whatever the part does there. Each is named in the assumption log.
-/
namespace Sys2Proof

/-- A value the spec leaves open after the n-th use (log entry 1). -/
opaque Config.freeWord : Nat → BitVec 64

/-- A yes-or-no outcome the spec leaves open after the n-th use (log entry 1). -/
opaque Config.freeChoice : Nat → Bool

/-- The signature of a page of the mirror set that holds control state or the Dorden state area, whose layout the spec does
not give, from its number and its contents (R239, R240; log entry 23). -/
opaque Config.areaSig : Nat → List Nat → Nat

/-- The longest delay line in long memory, in rows, that a Pattern's long-memory plan allows, from the Pattern's header
(R243; log entry 24). -/
opaque Config.longestDelay : List Byte → Nat

/-- The loop's new estimate of the reference's frequency, as a frequency word, from the bandwidth used in mHz, the estimate before, V and
the phase error in units of 2^−16 ns (R290 gives the loop's order, damping and bandwidth, not its arithmetic; log entry 27). -/
opaque Config.loopEstimate : Nat → Int → Int → Int → Int

/-- The loop's phase correction, as a frequency word, from the same (log entry 27). -/
opaque Config.loopCorrection : Nat → Int → Int → Int → Int

/-- The measurement rate of a candidate whose measurements come when a packet, a push or a port's clock brings them, in mHz, from the
candidate and its UPDATES (R290; log entry 126). -/
opaque Config.measureRate : Nat → Nat → Nat

/-- How long after the last instant the model knows of, within its row, something happened whose command carries no instant, in units of
the counter, from the row and what happened (R279, R310; log entry 127). -/
opaque Config.someTime : Nat → Nat → Nat

/-- The Dorden Collector source of a sticky bit of TM_STICKY, from the bit (R298), which the spec does not number (log entry 29). -/
opaque Config.stickySource : Nat → Nat

/-- Whether a quotient that the spec does not say how to round is rounded up (log entry 28). -/
opaque Config.roundUp : Nat → Nat → Bool

/-- The Dorden Collector source of a member of the time-trigger group (Table TM-5), which the spec does not number (log
entry 29). -/
opaque Config.timeTriggerSource : Nat → Nat

/-- A rate bridge's output at an instant, from RATIO and the bridged input's frames, newest first, each with the time of its
block stamp before that instant if it has one (R328, R53 give its accuracy, not its arithmetic; log entry 31). -/
opaque Config.bridgeValue : Nat → List (Option Int × BitVec 24) → BitVec 24

/-- PDM_PHASE in units of 2^−8 ns before it is cut to one row, from the counter at the boundary at which the decimators start
(R333 gives its range; log entry 32). -/
opaque Config.pdmPhase : Nat → Nat

/-- What a microphone's own source point carries where the spec has it pass through a bridge, from the microphone and its
decimated sample (R332; log entry 33). -/
opaque Config.unbridgedMic : Nat → BitVec 24 → BitVec 24

/-- The MAC address of Ethernet port `p` of Side `n`, which the spec does not give (R345, R355; log entry 34). -/
opaque Config.portMac : Nat → Nat → Nat

/-- The TTL and the IPv4 identification word of a media packet of a flow, which the spec does not give (R351, R357; log entry
34). -/
opaque Config.mediaIp : Nat → Nat × Nat

/-- WORST_TX in ns from the port's RATE and FEC and the bytes, P and SPREAD of its flows (R352 says what it bounds, not how it is
reckoned; log entry 35). -/
opaque Config.worstTx : Nat → Bool → List (Nat × Nat × Nat) → Nat

/-- CREDIT of a link from the number of messages the relay holds (R366, R367; log entry 36). -/
opaque Config.linkCredit : Nat → Nat

/-- The Dorden Collector source of a DMA channel (R435), which the spec does not number (log entry 29). -/
opaque Config.dmaSource : Nat → Nat

/-- The device identity key, private and public part, that the identity array gives (R470; log entry 40). -/
opaque Config.identityKey : Nat
opaque Config.identityPublic : Nat

/-- Where the Gauge engine keeps the frame of a group, in 32-byte units of long memory, from the group and the buffer (R423; log
entry 41). -/
opaque Config.frameArea : Nat → Nat → Nat

/-- An ECDSA signature on P-256 of a digest with a key: 64 bytes (R408; the spec gives neither the key nor the random number a
signature takes; log entry 49). -/
opaque Config.ecdsaSign : Nat → List Byte → Nat → List Byte

/-- Whether a signature of a digest is good under a public key (R475; ECDSA on P-256; log entry 49). -/
opaque Config.ecdsaGood : List Byte → List Byte → List Byte → Bool

/-- The Knasal key hash in mask ROM (R475; log entry 49). -/
opaque Config.knasalHash : List Byte

/-- A byte of an image that no PAT DATA has brought, from its offset (log entry 50). -/
opaque Config.unsentByte : Nat → Byte

/-- FW_BUILD of a firmware image, whose body is Knasal's own (R475; log entry 50). -/
opaque Config.fwBuild : List Byte → Nat

/-- Whether a firmware image is too large for the Dorden memory (Table PW-11, FW_RESULT 4; log entry 50). -/
opaque Config.fwTooLarge : List Byte → Bool

/-- Whether the memory plan of a Pattern image overruns a memory or gives a bank two owners (Table PL-5, check 0x06), from its
sections (type, body), whose layouts the spec does not give (log entry 51). -/
opaque Config.planBad : List (Nat × List Byte) → Bool

/-- Whether a section that an image must have is missing, from the section types it has (Table PL-5, check 0x08; log entry 51). -/
opaque Config.sectionMissing : List Nat → Bool

/-- The words that a section puts in place (address in the Side's memory space, words), from its type and body (Table PL-4; log
entry 51). -/
opaque Config.sectionWrites : Nat → List Byte → List (Nat × List Nat)

/-- What the sections of a Pattern image fix for a core besides memory (R42, R86; log entry 51): item 0 ENTRY, item 1 INIT, and from item
2 + 3n the BASE, LEN and KIND of region n. -/
opaque Config.coreLayout : List (Nat × List Byte) → Nat → Nat → Nat

/-- Where each Cross sum is delivered (core, region, vector word, lane), from the Cross map (section 0x0006; log entry 51). -/
opaque Config.crossMap : List Byte → List (Nat × Nat × Nat × Nat × Nat)

/-- The owners of the long-memory banks, from the long-memory plan (section 0x0007): bank and owner, 1 + g for group g, 9 for the
DMA engine (log entry 51). -/
opaque Config.bankOwners : List Byte → List (Nat × Nat)

/-- The meter points and the SOURCE and WIDE bits of each, from the Gauge plan (section 0x0008; log entry 51). -/
opaque Config.gaugePlan : List Byte → List (Nat × Nat)

/-- What the object map (section 0x0009) says of a parameter of a strip, bus or effect engine: core, lane, format, C vector word,
least and greatest value (R410, Table IB-5; log entry 52). -/
opaque Config.objectParam : List Byte → Nat → Nat → Nat → Option (Nat × Nat × Nat × Nat × Nat × Nat)

/-- The indices of a class that the object map uses, ascending (R410; log entry 52). -/
opaque Config.objectIndices : List Byte → Nat → List Nat

/-- Whether a value lies in a parameter's range, from its format, its least and greatest value (R411; log entry 52). -/
opaque Config.valueFits : Nat → Nat → Nat → Nat → Bool

/-- The coefficient words of a parameter, from the object map, class, index and parameter: core, vector word and lane of each (R410;
log entry 52). -/
opaque Config.coefPlaces : List Byte → Nat → Nat → Nat → List (Nat × Nat × Nat)

/-- What firmware makes of a value for a parameter's n-th coefficient word, from the object map, class, index, parameter, value and n
(R410, R411; log entry 52). -/
opaque Config.coefValue : List Byte → Nat → Nat → Nat → Nat → Nat → Nat

/-- A parameter's record in READ OBJECT, from the object map, class, index, parameter and its coefficient words (Table IB-4; log
entry 52). -/
opaque Config.paramRecord : List Byte → Nat → Nat → Nat → List Nat → List Byte

/-- What TIME UTC answers while the reference has announced no UTC offset: the offset in seconds, and whether it is valid (R274; log entry
53). -/
opaque Config.utcOffset : Nat → Nat × Bool

end Sys2Proof
end

