-- ==== Sys2Proof/Machine/Sparse.lean ====
section
/-!
DEFINITION. Sparse data in one canonical form: key and value pairs, keys strictly rising, no entry equal to what an
unlisted key reads as. Registers and memory are kept this way, so equal contents are equal data.
-/
namespace Sys2Proof.Machine

/-- Key and value pairs; what an unlisted key reads as is an argument of each operation. -/
abbrev Sparse (β : Type) := List (Nat × β)

/-- The value at a key: the listed one, else the default. -/
def Sparse.get {β : Type} (d : Nat → β) : Sparse β → Nat → β
  | [], k => d k
  | p :: m, k => if p.1 = k then p.2 else Sparse.get d m k

/-- The data without a key's entry. -/
def Sparse.erase {β : Type} : Sparse β → Nat → Sparse β
  | [], _ => []
  | p :: m, k => if p.1 = k then Sparse.erase m k else p :: Sparse.erase m k

/-- Puts an entry before the first greater key. -/
def Sparse.insert {β : Type} : Sparse β → Nat → β → Sparse β
  | [], k, v => [(k, v)]
  | p :: m, k, v => if k < p.1 then (k, v) :: p :: m else p :: Sparse.insert m k v

/-- Writes a key: writing what an unlisted key reads as removes the entry. -/
def Sparse.set {β : Type} [DecidableEq β] (d : Nat → β) (m : Sparse β) (k : Nat) (v : β) : Sparse β :=
  if v = d k then Sparse.erase m k else Sparse.insert (Sparse.erase m k) k v

/-- Every key of the data is above a bound. -/
def Sparse.above {β : Type} (k : Nat) (m : Sparse β) : Bool := m.all (fun p => decide (k < p.1))

/-- The canonical form. -/
def Sparse.wf {β : Type} [DecidableEq β] (d : Nat → β) : Sparse β → Bool
  | [] => true
  | p :: m => decide (p.2 ≠ d p.1) && Sparse.above p.1 m && Sparse.wf d m

end Sys2Proof.Machine
end

