-- ==== Sys2Proof/Machine/RegMap.lean ====
section
/-!
DEFINITION. The register map: every register field of the spec's register tables, as data.
A Side-window register is named by its offset in the Side window (R32, Table AR-7); a host-region register by its
BAR0 offset plus 0x100_0000, so that one key space serves both (R31).
The named constants follow the spec's names: `F.TM_STAT_LOCK` is field LOCK of TM_STAT; an array takes its index.
-/
namespace Sys2Proof.Machine

/-- Access codes of Table GN-5. -/
inductive Access where
  | rw | ro | w1c | wt | ra
  deriving DecidableEq, Repr

/-- One field of one register: the register's offset, the field's lowest bit and its length. -/
structure Fld where
  off : Nat
  lo : Nat
  len : Nat
  deriving DecidableEq, Repr

/-- The store's key of a field: the bit address of its lowest bit. -/
def Fld.key (f : Fld) : Nat := 32 * f.off + f.lo

/-- One row of the register tables: `count` registers from `base`, `stride` bytes apart, each with this field. -/
structure FieldRow where
  base : Nat
  count : Nat
  stride : Nat
  lo : Nat
  len : Nat
  acc : Access
  deriving DecidableEq, Repr

/-- Whether the row gives a field to the register at `off`. -/
def FieldRow.hits (r : FieldRow) (off : Nat) : Bool :=
  decide (r.base ≤ off) && decide ((off - r.base) % r.stride = 0) && decide ((off - r.base) / r.stride < r.count)

/-- The field that the row gives to the register at `off`. -/
def FieldRow.at (r : FieldRow) (off : Nat) : Fld := ⟨off, r.lo, r.len⟩

abbrev F.HP_ID_PART : Fld := ⟨0x1000000, 16, 16⟩
abbrev F.HP_ID_REV : Fld := ⟨0x1000000, 8, 8⟩
abbrev F.HP_ID_DEVID : Fld := ⟨0x1000000, 0, 6⟩
abbrev F.HP_STRAP_HOSTSEL : Fld := ⟨0x1000004, 0, 1⟩
abbrev F.HP_MODE_MODE0 : Fld := ⟨0x1000008, 0, 4⟩
abbrev F.HP_MODE_MODE1 : Fld := ⟨0x1000008, 4, 4⟩
abbrev F.HP_ACC_ERR_SIDE0 : Fld := ⟨0x100000C, 0, 1⟩
abbrev F.HP_ACC_ERR_SIDE1 : Fld := ⟨0x100000C, 1, 1⟩
abbrev F.HP_ACC_ERR_FIRST_TO : Fld := ⟨0x100000C, 2, 1⟩
abbrev F.HP_ACC_ERR_FIRST_WR : Fld := ⟨0x100000C, 3, 1⟩
abbrev F.HP_ACC_ERR_SPI_WERR : Fld := ⟨0x100000C, 4, 1⟩
abbrev F.HP_ACC_ADDR_ADDR : Fld := ⟨0x1000010, 0, 32⟩
abbrev F.HP_PCIE_SPEED : Fld := ⟨0x1000014, 0, 3⟩
abbrev F.HP_PCIE_WIDTH : Fld := ⟨0x1000014, 3, 3⟩
abbrev F.HP_PCIE_MSI_EN : Fld := ⟨0x1000014, 6, 1⟩
abbrev F.HP_PCIE_BME : Fld := ⟨0x1000014, 7, 1⟩
abbrev F.HP_PCIE_IN_L1 : Fld := ⟨0x1000014, 8, 1⟩
abbrev F.HP_SEAM_TOKEN_OWNER : Fld := ⟨0x1010000, 0, 2⟩
abbrev F.HP_SEAM_TOKEN_EPOCH : Fld := ⟨0x1010000, 16, 16⟩
abbrev F.HP_SEAM_HB_COUNT (k : Nat) : Fld := ⟨0x1010004 + 0x4 * k, 0, 16⟩
abbrev F.HP_SEAM_HB_MODE (k : Nat) : Fld := ⟨0x1010004 + 0x4 * k, 16, 4⟩
abbrev F.HP_SEAM_STAT_SEIZE0 : Fld := ⟨0x101000C, 0, 1⟩
abbrev F.HP_SEAM_STAT_SEIZE1 : Fld := ⟨0x101000C, 1, 1⟩
abbrev F.HP_SEAM_STAT_TRANSFERRED : Fld := ⟨0x101000C, 2, 1⟩
abbrev F.HP_SEAM_STAT_REFUSED : Fld := ⟨0x101000C, 3, 1⟩
abbrev F.HP_SEAM_STAT_SAME_CYCLE : Fld := ⟨0x101000C, 4, 1⟩
abbrev F.HP_SEAM_LAST_FROM : Fld := ⟨0x1010010, 0, 2⟩
abbrev F.HP_SEAM_LAST_TO : Fld := ⟨0x1010010, 2, 2⟩
abbrev F.HP_SEAM_LAST_HOW : Fld := ⟨0x1010010, 4, 3⟩
abbrev F.HP_SEAM_LAST_EPOCH : Fld := ⟨0x1010010, 16, 16⟩
abbrev F.HP_SEAM_CTRL_CLEAR : Fld := ⟨0x1010014, 0, 1⟩
abbrev F.HP_CLAIM_SOURCE : Fld := ⟨0x1020000, 0, 8⟩
abbrev F.HP_EOI_SOURCE : Fld := ⟨0x1020004, 0, 8⟩
abbrev F.HP_COL_STAT_REQ : Fld := ⟨0x1020008, 0, 1⟩
abbrev F.HP_COL_STAT_RP : Fld := ⟨0x1020008, 4, 4⟩
abbrev F.HP_COL_STAT_DEPTH : Fld := ⟨0x1020008, 8, 5⟩
abbrev F.HP_COL_STAT_STACK_ERR : Fld := ⟨0x1020008, 16, 1⟩
abbrev F.HP_COL_STAT_EOI_MISMATCH : Fld := ⟨0x1020008, 17, 1⟩
abbrev F.HP_COL_STAT_STORM_ANY : Fld := ⟨0x1020008, 18, 1⟩
abbrev F.HP_COL_STACK_RP (k : Nat) : Fld := ⟨0x1020040 + 0x4 * k, 0, 4⟩
abbrev F.HP_COL_STACK_SOURCE (k : Nat) : Fld := ⟨0x1020040 + 0x4 * k, 8, 8⟩
abbrev F.HP_COL_STACK_VALID (k : Nat) : Fld := ⟨0x1020040 + 0x4 * k, 31, 1⟩
abbrev F.HP_COL_PEND_PEND (k : Nat) : Fld := ⟨0x1020100 + 0x4 * k, 0, 32⟩
abbrev F.HP_COL_INSVC_INSVC (k : Nat) : Fld := ⟨0x1020120 + 0x4 * k, 0, 32⟩
abbrev F.HP_COL_SRC_PRIO (k : Nat) : Fld := ⟨0x1020400 + 0x4 * k, 0, 4⟩
abbrev F.HP_COL_SRC_SENSE (k : Nat) : Fld := ⟨0x1020400 + 0x4 * k, 4, 3⟩
abbrev F.HP_COL_SRC_CLR_COAL (k : Nat) : Fld := ⟨0x1020400 + 0x4 * k, 7, 1⟩
abbrev F.HP_COL_SRC_MAXRATE (k : Nat) : Fld := ⟨0x1020400 + 0x4 * k, 8, 8⟩
abbrev F.HP_COL_SRC_COALESCED (k : Nat) : Fld := ⟨0x1020400 + 0x4 * k, 16, 8⟩
abbrev F.HP_COL_SRC_PEND (k : Nat) : Fld := ⟨0x1020400 + 0x4 * k, 24, 1⟩
abbrev F.HP_COL_SRC_INSVC (k : Nat) : Fld := ⟨0x1020400 + 0x4 * k, 25, 1⟩
abbrev F.HP_COL_SRC_RAW (k : Nat) : Fld := ⟨0x1020400 + 0x4 * k, 26, 1⟩
abbrev F.HP_COL_SRC_STORM (k : Nat) : Fld := ⟨0x1020400 + 0x4 * k, 27, 1⟩
abbrev F.HP_MB_IN_PROD_IDX (k : Nat) : Fld := ⟨0x1030000 + 0x20 * k, 0, 7⟩
abbrev F.HP_MB_IN_CONS_IDX (k : Nat) : Fld := ⟨0x1030004 + 0x20 * k, 0, 7⟩
abbrev F.HP_MB_IN_DB_IDX (k : Nat) : Fld := ⟨0x1030008 + 0x20 * k, 0, 7⟩
abbrev F.HP_MB_OUT_PROD_IDX (k : Nat) : Fld := ⟨0x103000C + 0x20 * k, 0, 7⟩
abbrev F.HP_MB_OUT_CONS_IDX (k : Nat) : Fld := ⟨0x1030010 + 0x20 * k, 0, 7⟩
abbrev F.HP_MB_OUT_DB_IDX (k : Nat) : Fld := ⟨0x1030014 + 0x20 * k, 0, 7⟩
abbrev F.HP_MB_TWIN_DB_IDX : Fld := ⟨0x1030040, 0, 7⟩
abbrev F.HP_MB_STAT_DB_REF0 : Fld := ⟨0x1030044, 0, 1⟩
abbrev F.HP_MB_STAT_DB_REF1 : Fld := ⟨0x1030044, 1, 1⟩
abbrev F.HP_MB_STAT_TWIN_REF : Fld := ⟨0x1030044, 2, 1⟩
abbrev F.HP_MB_STAT_SLOT_BUSY : Fld := ⟨0x1030044, 3, 1⟩
abbrev F.HP_MB_STAT_CONS_ERR : Fld := ⟨0x1030044, 4, 1⟩
abbrev F.HP_MB_STAT_DB_CAUSE0 : Fld := ⟨0x1030044, 8, 2⟩
abbrev F.HP_MB_STAT_DB_CAUSE1 : Fld := ⟨0x1030044, 10, 2⟩
abbrev F.HP_MB_STAT_TWIN_CAUSE : Fld := ⟨0x1030044, 12, 2⟩
abbrev F.HP_MB_CTRL_OUT_EN0 : Fld := ⟨0x1030048, 0, 1⟩
abbrev F.HP_MB_CTRL_OUT_EN1 : Fld := ⟨0x1030048, 1, 1⟩
abbrev F.HP_MB_APER_BASE (k : Nat) : Fld := ⟨0x103004C + 0x4 * k, 0, 8⟩
abbrev F.HP_RLY_CTRL_EN : Fld := ⟨0x1040000, 0, 1⟩
abbrev F.HP_RLY_CTRL_RET : Fld := ⟨0x1040000, 1, 1⟩
abbrev F.HP_RLY_STAT_NO_ROUTE : Fld := ⟨0x1040004, 0, 1⟩
abbrev F.HP_RLY_STAT_REROUTED : Fld := ⟨0x1040004, 1, 1⟩
abbrev F.HP_RLY_STAT_HELD : Fld := ⟨0x1040004, 8, 8⟩
abbrev F.HP_RLY_STAT_DROPPED : Fld := ⟨0x1040004, 16, 16⟩
abbrev F.HP_RLY_ROUTE_PRI_EN (k : Nat) : Fld := ⟨0x1040100 + 0x4 * k, 0, 1⟩
abbrev F.HP_RLY_ROUTE_PRI_SIDE (k : Nat) : Fld := ⟨0x1040100 + 0x4 * k, 1, 1⟩
abbrev F.HP_RLY_ROUTE_PRI_LINK (k : Nat) : Fld := ⟨0x1040100 + 0x4 * k, 2, 2⟩
abbrev F.HP_RLY_ROUTE_ALT_EN (k : Nat) : Fld := ⟨0x1040100 + 0x4 * k, 4, 1⟩
abbrev F.HP_RLY_ROUTE_ALT_SIDE (k : Nat) : Fld := ⟨0x1040100 + 0x4 * k, 5, 1⟩
abbrev F.HP_RLY_ROUTE_ALT_LINK (k : Nat) : Fld := ⟨0x1040100 + 0x4 * k, 6, 2⟩
abbrev F.HP_RLY_ROUTE_ALT_IN_USE (k : Nat) : Fld := ⟨0x1040100 + 0x4 * k, 8, 1⟩
abbrev F.HP_RLY_ROUTE_HOLDING (k : Nat) : Fld := ⟨0x1040100 + 0x4 * k, 9, 1⟩
abbrev F.HP_BF_OWN_OWNER : Fld := ⟨0x1050000, 0, 2⟩
abbrev F.HP_BF_CFG_DIV : Fld := ⟨0x1050004, 0, 4⟩
abbrev F.HP_BF_CMD_OPCODE : Fld := ⟨0x1050008, 0, 8⟩
abbrev F.HP_BF_CMD_ADDR_BYTES : Fld := ⟨0x1050008, 8, 2⟩
abbrev F.HP_BF_CMD_DUMMY : Fld := ⟨0x1050008, 10, 4⟩
abbrev F.HP_BF_CMD_LINES : Fld := ⟨0x1050008, 14, 2⟩
abbrev F.HP_BF_CMD_DIR : Fld := ⟨0x1050008, 16, 1⟩
abbrev F.HP_BF_CMD_LEN : Fld := ⟨0x1050008, 17, 9⟩
abbrev F.HP_BF_ADDR_ADDR : Fld := ⟨0x105000C, 0, 32⟩
abbrev F.HP_BF_GO_GO : Fld := ⟨0x1050010, 0, 1⟩
abbrev F.HP_BF_STAT_BUSY : Fld := ⟨0x1050014, 0, 1⟩
abbrev F.HP_BF_STAT_DONE : Fld := ⟨0x1050014, 8, 1⟩
abbrev F.HP_BF_STAT_ERR : Fld := ⟨0x1050014, 9, 1⟩
abbrev F.HP_BF_DATA_DATA (k : Nat) : Fld := ⟨0x1050100 + 0x4 * k, 0, 32⟩
abbrev F.PW_MODE_MODE : Fld := ⟨0x0, 0, 4⟩
abbrev F.PW_MODE_PREV : Fld := ⟨0x0, 4, 4⟩
abbrev F.PW_MODE_ARR : Fld := ⟨0x0, 8, 2⟩
abbrev F.PW_MODE_ROW_LO : Fld := ⟨0x4, 0, 32⟩
abbrev F.PW_MODE_ROW_HI : Fld := ⟨0x8, 0, 32⟩
abbrev F.PW_RESET_KEY : Fld := ⟨0xC, 0, 16⟩
abbrev F.PW_RST_CAUSE_POWER : Fld := ⟨0x10, 0, 1⟩
abbrev F.PW_RST_CAUSE_PIN : Fld := ⟨0x10, 1, 1⟩
abbrev F.PW_RST_CAUSE_HOST : Fld := ⟨0x10, 2, 1⟩
abbrev F.PW_RST_CAUSE_SELF : Fld := ⟨0x10, 3, 1⟩
abbrev F.PW_RST_CAUSE_PARTNER : Fld := ⟨0x10, 4, 1⟩
abbrev F.PW_RST_CAUSE_LC_CHANGE : Fld := ⟨0x10, 5, 1⟩
abbrev F.PW_RST_CAUSE_JTAG : Fld := ⟨0x10, 6, 1⟩
abbrev F.PW_HALT_CAUSE : Fld := ⟨0x14, 0, 3⟩
abbrev F.PW_HALT_MULTI : Fld := ⟨0x14, 30, 1⟩
abbrev F.PW_HALT_VALID : Fld := ⟨0x14, 31, 1⟩
abbrev F.PW_SUPPLY_ON_BACKUP : Fld := ⟨0x18, 0, 4⟩
abbrev F.PW_SUPPLY_MAIN_OK : Fld := ⟨0x18, 4, 4⟩
abbrev F.PW_SUPPLY_BACKUP_OK : Fld := ⟨0x18, 8, 4⟩
abbrev F.PW_SUPPLY_VDDIO_OK : Fld := ⟨0x18, 12, 1⟩
abbrev F.PW_SUPPLY_SWITCHED : Fld := ⟨0x18, 16, 4⟩
abbrev F.PW_SUPPLY_BACKUP_LOW : Fld := ⟨0x18, 20, 4⟩
abbrev F.PW_SUPPLY_CFG_RETURN : Fld := ⟨0x1C, 0, 8⟩
abbrev F.PW_SUPPLY_CNT_VDDC : Fld := ⟨0x20, 0, 8⟩
abbrev F.PW_SUPPLY_CNT_VDDS : Fld := ⟨0x20, 8, 8⟩
abbrev F.PW_SUPPLY_CNT_VDDX : Fld := ⟨0x20, 16, 8⟩
abbrev F.PW_SUPPLY_CNT_VDDA : Fld := ⟨0x20, 24, 8⟩
abbrev F.PW_WDOG_KICK : Fld := ⟨0x24, 0, 1⟩
abbrev F.PW_WDOG_EN : Fld := ⟨0x24, 1, 1⟩
abbrev F.PW_STRAP_MTEST : Fld := ⟨0x28, 0, 1⟩
abbrev F.PW_BOOT_STAGE : Fld := ⟨0x2C, 0, 3⟩
abbrev F.PW_BOOT_FLASH_ABSENT : Fld := ⟨0x2C, 3, 1⟩
abbrev F.PW_BOOT_FW_COPY : Fld := ⟨0x2C, 4, 1⟩
abbrev F.PW_BOOT_FW_RESULT : Fld := ⟨0x2C, 8, 8⟩
abbrev F.PW_LC_STATE : Fld := ⟨0x30, 0, 2⟩
abbrev F.PW_LC_PARTNER : Fld := ⟨0x30, 2, 2⟩
abbrev F.PW_LC_MISMATCH : Fld := ⟨0x30, 4, 1⟩
abbrev F.PW_LC_KEYS_SET : Fld := ⟨0x30, 5, 1⟩
abbrev F.PW_LC_CMD_TARGET : Fld := ⟨0x34, 0, 2⟩
abbrev F.PW_LC_CMD_KEY : Fld := ⟨0x34, 16, 16⟩
abbrev F.PW_LC_STAT_RESULT : Fld := ⟨0x38, 0, 2⟩
abbrev F.PW_LC_STAT_CAUSE : Fld := ⟨0x38, 4, 2⟩
abbrev F.PW_HASH_FW (k : Nat) : Fld := ⟨0x40 + 0x4 * k, 0, 32⟩
abbrev F.PW_HASH_PAT (k : Nat) : Fld := ⟨0x60 + 0x4 * k, 0, 32⟩
abbrev F.PW_IDKEY (k : Nat) : Fld := ⟨0x80 + 0x4 * k, 0, 32⟩
abbrev F.CK_XMON_STAT_XIN_OK : Fld := ⟨0x10000, 0, 1⟩
abbrev F.CK_XMON_STAT_CAL_DONE : Fld := ⟨0x10000, 1, 1⟩
abbrev F.CK_XMON_STAT_SYSPLL_LOCK : Fld := ⟨0x10000, 2, 1⟩
abbrev F.CK_XMON_STAT_COASTING : Fld := ⟨0x10000, 3, 1⟩
abbrev F.CK_XMON_STAT_XLOSS : Fld := ⟨0x10000, 8, 1⟩
abbrev F.CK_XMON_STAT_CK_FORCED_SWITCH : Fld := ⟨0x10000, 9, 1⟩
abbrev F.CK_XMON_STAT_GATE_TIMEOUT : Fld := ⟨0x10000, 10, 1⟩
abbrev F.CK_XMON_STAT_MUX_REFUSED : Fld := ⟨0x10000, 11, 1⟩
abbrev F.CK_XMON_CNT_LAST : Fld := ⟨0x10004, 0, 16⟩
abbrev F.CK_XMON_CNT_CAL : Fld := ⟨0x10004, 16, 16⟩
abbrev F.CK_XLOSS_CAUSE : Fld := ⟨0x10008, 0, 3⟩
abbrev F.CK_XLOSS_SEEN : Fld := ⟨0x10008, 4, 6⟩
abbrev F.CK_XLOSS_MODE : Fld := ⟨0x10008, 16, 4⟩
abbrev F.CK_XLOSS_MULTI : Fld := ⟨0x10008, 30, 1⟩
abbrev F.CK_XLOSS_VALID : Fld := ⟨0x10008, 31, 1⟩
abbrev F.CK_XLOSS_ROW_LO : Fld := ⟨0x1000C, 0, 32⟩
abbrev F.CK_XLOSS_ROW_HI : Fld := ⟨0x10010, 0, 32⟩
abbrev F.CK_SYSPLL_LOCK : Fld := ⟨0x10014, 0, 1⟩
abbrev F.CK_SYSPLL_COAST : Fld := ⟨0x10014, 1, 1⟩
abbrev F.CK_SYSPLL_UNLOCKS : Fld := ⟨0x10014, 8, 8⟩
abbrev F.CK_SERPLL_LOCK : Fld := ⟨0x10018, 0, 3⟩
abbrev F.CK_SERPLL_HOLD : Fld := ⟨0x10018, 3, 1⟩
abbrev F.CK_SERPLL_RATE1 : Fld := ⟨0x10018, 4, 2⟩
abbrev F.CK_SERPLL_RATE2 : Fld := ⟨0x10018, 6, 2⟩
abbrev F.CK_MUX_STAT_ISLAND_SRC : Fld := ⟨0x1001C, 0, 1⟩
abbrev F.CK_MUX_STAT_SWITCHING : Fld := ⟨0x1001C, 1, 1⟩
abbrev F.CK_MUX_STAT_OBS_SWITCHING : Fld := ⟨0x1001C, 2, 1⟩
abbrev F.CK_OBS_SEL : Fld := ⟨0x10020, 0, 5⟩
abbrev F.CK_OBS_PORT : Fld := ⟨0x10020, 8, 4⟩
abbrev F.CK_OBS_LINK : Fld := ⟨0x10020, 12, 2⟩
abbrev F.CK_OBS_DIV : Fld := ⟨0x10020, 16, 16⟩
abbrev F.CK_STRAP_OSCW : Fld := ⟨0x10024, 0, 2⟩
abbrev F.CK_GATE_REQ_LO : Fld := ⟨0x10030, 0, 32⟩
abbrev F.CK_GATE_REQ_HI_A : Fld := ⟨0x10034, 0, 2⟩
abbrev F.CK_GATE_REQ_HI_B : Fld := ⟨0x10034, 5, 4⟩
abbrev F.CK_GATE_HARD_LO : Fld := ⟨0x10038, 0, 32⟩
abbrev F.CK_GATE_HARD_HI_A : Fld := ⟨0x1003C, 0, 2⟩
abbrev F.CK_GATE_HARD_HI_B : Fld := ⟨0x1003C, 5, 4⟩
abbrev F.CK_GATE_STAT_LO : Fld := ⟨0x10040, 0, 32⟩
abbrev F.CK_GATE_STAT_HI_A : Fld := ⟨0x10044, 0, 2⟩
abbrev F.CK_GATE_STAT_HI_B : Fld := ⟨0x10044, 5, 4⟩
abbrev F.CK_GATE_TO_LO : Fld := ⟨0x10048, 0, 32⟩
abbrev F.CK_GATE_TO_HI_A : Fld := ⟨0x1004C, 0, 2⟩
abbrev F.CK_GATE_TO_HI_B : Fld := ⟨0x1004C, 5, 4⟩
abbrev F.TM_CTRL_OPEN : Fld := ⟨0x20000, 0, 1⟩
abbrev F.TM_CTRL_AUTO_STEP : Fld := ⟨0x20000, 1, 1⟩
abbrev F.TM_CTRL_BW : Fld := ⟨0x20000, 4, 3⟩
abbrev F.TM_CTRL_SLEW : Fld := ⟨0x20000, 8, 7⟩
abbrev F.TM_CTRL_LOCK_THR : Fld := ⟨0x20000, 16, 16⟩
abbrev F.TM_STAT_LOCK : Fld := ⟨0x20004, 0, 1⟩
abbrev F.TM_STAT_LOST : Fld := ⟨0x20004, 1, 1⟩
abbrev F.TM_STAT_SWITCHED : Fld := ⟨0x20004, 2, 1⟩
abbrev F.TM_STAT_FREERUN : Fld := ⟨0x20004, 3, 1⟩
abbrev F.TM_STAT_REF_SPLIT : Fld := ⟨0x20004, 4, 1⟩
abbrev F.TM_STAT_TIME_VALID : Fld := ⟨0x20004, 5, 1⟩
abbrev F.TM_STAT_STEP_USED : Fld := ⟨0x20004, 6, 1⟩
abbrev F.TM_STAT_HOLDOFF : Fld := ⟨0x20004, 7, 1⟩
abbrev F.TM_STAT_SEL : Fld := ⟨0x20004, 8, 3⟩
abbrev F.TM_STAT_PREV : Fld := ⟨0x20004, 11, 3⟩
abbrev F.TM_STAT_FW_CLAMP : Fld := ⟨0x20004, 16, 1⟩
abbrev F.TM_STICKY_LOCK_S : Fld := ⟨0x20008, 0, 1⟩
abbrev F.TM_STICKY_LOST_S : Fld := ⟨0x20008, 1, 1⟩
abbrev F.TM_STICKY_SWITCHED_S : Fld := ⟨0x20008, 2, 1⟩
abbrev F.TM_STICKY_FREERUN_S : Fld := ⟨0x20008, 3, 1⟩
abbrev F.TM_STICKY_REF_SPLIT_S : Fld := ⟨0x20008, 4, 1⟩
abbrev F.TM_STICKY_STEP_REFUSED : Fld := ⟨0x20008, 8, 1⟩
abbrev F.TM_STICKY_FW_CLAMP_S : Fld := ⟨0x20008, 9, 1⟩
abbrev F.TM_STICKY_FW_DEFERRED : Fld := ⟨0x20008, 10, 1⟩
abbrev F.TM_STICKY_CAP_LOST : Fld := ⟨0x20008, 11, 1⟩
abbrev F.TM_STICKY_TRIG_LATE : Fld := ⟨0x20008, 12, 1⟩
abbrev F.TM_SWITCH_HOLDOFF : Fld := ⟨0x2000C, 0, 16⟩
abbrev F.TM_SWITCH_SETTLE_MAX : Fld := ⟨0x2000C, 16, 8⟩
abbrev F.TM_SPLIT_SPLIT : Fld := ⟨0x20010, 0, 16⟩
abbrev F.TM_PHASE_LO : Fld := ⟨0x20014, 0, 32⟩
abbrev F.TM_PHASE_HI : Fld := ⟨0x20018, 0, 32⟩
abbrev F.TM_FW_LO : Fld := ⟨0x2001C, 0, 32⟩
abbrev F.TM_FW_HI_FW_HI : Fld := ⟨0x20020, 0, 16⟩
abbrev F.TM_FW_CUR_LO : Fld := ⟨0x20024, 0, 32⟩
abbrev F.TM_FW_CUR_HI : Fld := ⟨0x20028, 0, 16⟩
abbrev F.TM_PPT : Fld := ⟨0x2002C, 0, 32⟩
abbrev F.TM_SNAP_SNAP : Fld := ⟨0x20030, 0, 1⟩
abbrev F.TM_SNAP_NS : Fld := ⟨0x20034, 0, 32⟩
abbrev F.TM_SNAP_SEC_LO : Fld := ⟨0x20038, 0, 32⟩
abbrev F.TM_SNAP_SEC_HI_SEC : Fld := ⟨0x2003C, 0, 16⟩
abbrev F.TM_SNAP_SEC_HI_FRAC : Fld := ⟨0x2003C, 16, 16⟩
abbrev F.TM_SNAP_ROW_LO : Fld := ⟨0x20040, 0, 32⟩
abbrev F.TM_SNAP_ROW_HI : Fld := ⟨0x20044, 0, 32⟩
abbrev F.TM_STEP_CMD : Fld := ⟨0x20048, 0, 2⟩
abbrev F.TM_STEP_ARG : Fld := ⟨0x2004C, 0, 32⟩
abbrev F.TM_STEP_STAT_RESULT : Fld := ⟨0x20050, 0, 3⟩
abbrev F.TM_STEP_D_LO : Fld := ⟨0x20054, 0, 32⟩
abbrev F.TM_STEP_D_HI : Fld := ⟨0x20058, 0, 32⟩
abbrev F.TM_STEP_ROW_LO : Fld := ⟨0x2005C, 0, 32⟩
abbrev F.TM_STEP_ROW_HI : Fld := ⟨0x20060, 0, 32⟩
abbrev F.TM_MEAS_LO : Fld := ⟨0x20064, 0, 32⟩
abbrev F.TM_MEAS_HI : Fld := ⟨0x20068, 0, 32⟩
abbrev F.TM_MEAS_PUSH_CAND : Fld := ⟨0x2006C, 0, 3⟩
abbrev F.TM_CAP_CTRL_TAKES : Fld := ⟨0x20070, 0, 1⟩
abbrev F.TM_CAP_CTRL_SWITCHES : Fld := ⟨0x20070, 1, 1⟩
abbrev F.TM_CAP_GPIO : Fld := ⟨0x20074, 0, 32⟩
abbrev F.TM_CAP_FS : Fld := ⟨0x20078, 0, 16⟩
abbrev F.TM_CAP_STAT_COUNT : Fld := ⟨0x2007C, 0, 7⟩
abbrev F.TM_CAP_STAT_LOST : Fld := ⟨0x2007C, 16, 16⟩
abbrev F.TM_CAP_POP_POP : Fld := ⟨0x20080, 0, 1⟩
abbrev F.TM_CAP_HEAD (k : Nat) : Fld := ⟨0x200A0 + 0x4 * k, 0, 32⟩
abbrev F.TM_CAND_EN (k : Nat) : Fld := ⟨0x20100 + 0x20 * k, 0, 1⟩
abbrev F.TM_CAND_QUAL (k : Nat) : Fld := ⟨0x20100 + 0x20 * k, 1, 1⟩
abbrev F.TM_CAND_PRESENT (k : Nat) : Fld := ⟨0x20100 + 0x20 * k, 2, 1⟩
abbrev F.TM_CAND_CLASS (k : Nat) : Fld := ⟨0x20100 + 0x20 * k, 8, 8⟩
abbrev F.TM_CAND_PRIORITY (k : Nat) : Fld := ⟨0x20100 + 0x20 * k, 16, 16⟩
abbrev F.TM_CAND_LOSS (k : Nat) : Fld := ⟨0x20104 + 0x20 * k, 0, 16⟩
abbrev F.TM_CAND_QUAL_MS (k : Nat) : Fld := ⟨0x20104 + 0x20 * k, 16, 16⟩
abbrev F.TM_CAND_FREQ (k : Nat) : Fld := ⟨0x20108 + 0x20 * k, 0, 32⟩
abbrev F.TM_CAND_E_LO (k : Nat) : Fld := ⟨0x2010C + 0x20 * k, 0, 32⟩
abbrev F.TM_CAND_E_HI (k : Nat) : Fld := ⟨0x20110 + 0x20 * k, 0, 32⟩
abbrev F.TM_CAND_UPDATES (k : Nat) : Fld := ⟨0x20114 + 0x20 * k, 0, 16⟩
abbrev F.TM_CAND_AGE (k : Nat) : Fld := ⟨0x20114 + 0x20 * k, 16, 16⟩
abbrev F.TM_CAND_SUBSEL (k : Nat) : Fld := ⟨0x20118 + 0x20 * k, 0, 4⟩
abbrev F.TM_TSC_ING (k : Nat) : Fld := ⟨0x20200 + 0x10 * k, 0, 32⟩
abbrev F.TM_TSC_EGR (k : Nat) : Fld := ⟨0x20204 + 0x10 * k, 0, 32⟩
abbrev F.TM_TSC_ASYM (k : Nat) : Fld := ⟨0x20208 + 0x10 * k, 0, 32⟩
abbrev F.TM_TRIG_EN (k : Nat) : Fld := ⟨0x20400 + 0x20 * k, 0, 1⟩
abbrev F.TM_TRIG_ACTION (k : Nat) : Fld := ⟨0x20400 + 0x20 * k, 1, 3⟩
abbrev F.TM_TRIG_TARGET (k : Nat) : Fld := ⟨0x20400 + 0x20 * k, 4, 5⟩
abbrev F.TM_TRIG_REPEAT (k : Nat) : Fld := ⟨0x20400 + 0x20 * k, 9, 1⟩
abbrev F.TM_TRIG_LATE (k : Nat) : Fld := ⟨0x20400 + 0x20 * k, 10, 1⟩
abbrev F.TM_TRIG_NS (k : Nat) : Fld := ⟨0x20404 + 0x20 * k, 0, 32⟩
abbrev F.TM_TRIG_SEC_LO (k : Nat) : Fld := ⟨0x20408 + 0x20 * k, 0, 32⟩
abbrev F.TM_TRIG_SEC_HI (k : Nat) : Fld := ⟨0x2040C + 0x20 * k, 0, 16⟩
abbrev F.TM_TRIG_PERIOD (k : Nat) : Fld := ⟨0x20410 + 0x20 * k, 0, 32⟩
abbrev F.TM_TRIG_WIDTH (k : Nat) : Fld := ⟨0x20414 + 0x20 * k, 0, 32⟩
abbrev F.TM_TRIG_FIRES (k : Nat) : Fld := ⟨0x20418 + 0x20 * k, 0, 32⟩
abbrev F.AP_STAT_OVR35 : Fld := ⟨0x30000, 0, 1⟩
abbrev F.AP_STAT_MULTI35 : Fld := ⟨0x30000, 1, 1⟩
abbrev F.AP_STAT_OVR36 : Fld := ⟨0x30000, 2, 1⟩
abbrev F.AP_STAT_MULTI36 : Fld := ⟨0x30000, 3, 1⟩
abbrev F.AP_STAT_BR_UNLOCK : Fld := ⟨0x30000, 4, 1⟩
abbrev F.AP_OVR35_LO : Fld := ⟨0x30020, 0, 32⟩
abbrev F.AP_OVR35_HI : Fld := ⟨0x30024, 0, 32⟩
abbrev F.AP_OVR35_CNT_COUNT : Fld := ⟨0x30028, 0, 16⟩
abbrev F.AP_OVR35_RUN_RUN : Fld := ⟨0x3002C, 0, 16⟩
abbrev F.AP_OVR35_RUN_LONGEST : Fld := ⟨0x3002C, 16, 16⟩
abbrev F.AP_OVR36_LO : Fld := ⟨0x30030, 0, 32⟩
abbrev F.AP_OVR36_HI : Fld := ⟨0x30034, 0, 32⟩
abbrev F.AP_OVR36_CNT_COUNT : Fld := ⟨0x30038, 0, 16⟩
abbrev F.AP_OVR36_RUN_RUN : Fld := ⟨0x3003C, 0, 16⟩
abbrev F.AP_OVR36_RUN_LONGEST : Fld := ⟨0x3003C, 16, 16⟩
abbrev F.AP_CFG_WIDTH (k : Nat) : Fld := ⟨0x30100 + 0x40 * k, 0, 2⟩
abbrev F.AP_CFG_SLOTS (k : Nat) : Fld := ⟨0x30100 + 0x40 * k, 2, 5⟩
abbrev F.AP_CFG_OFFSET (k : Nat) : Fld := ⟨0x30100 + 0x40 * k, 7, 6⟩
abbrev F.AP_CFG_FS_FORM (k : Nat) : Fld := ⟨0x30100 + 0x40 * k, 13, 2⟩
abbrev F.AP_CFG_FS_POL (k : Nat) : Fld := ⟨0x30100 + 0x40 * k, 15, 1⟩
abbrev F.AP_CFG_BCLK_POL (k : Nat) : Fld := ⟨0x30100 + 0x40 * k, 16, 1⟩
abbrev F.AP_CFG_MASTER (k : Nat) : Fld := ⟨0x30100 + 0x40 * k, 17, 1⟩
abbrev F.AP_CFG_BRIDGE (k : Nat) : Fld := ⟨0x30100 + 0x40 * k, 18, 1⟩
abbrev F.AP_CFG_TX_IDLE (k : Nat) : Fld := ⟨0x30100 + 0x40 * k, 19, 1⟩
abbrev F.AP_CFG_SAFE (k : Nat) : Fld := ⟨0x30100 + 0x40 * k, 20, 1⟩
abbrev F.AP_MASK_MASK (k : Nat) : Fld := ⟨0x30104 + 0x40 * k, 0, 32⟩
abbrev F.AP_TIMING_FRAME_BITS (k : Nat) : Fld := ⟨0x30108 + 0x40 * k, 0, 12⟩
abbrev F.AP_TIMING_PHASE (k : Nat) : Fld := ⟨0x30108 + 0x40 * k, 16, 11⟩
abbrev F.AP_CTRL_EN (k : Nat) : Fld := ⟨0x3010C + 0x40 * k, 0, 1⟩
abbrev F.AP_CTRL_APPLY (k : Nat) : Fld := ⟨0x3010C + 0x40 * k, 1, 1⟩
abbrev F.AP_CFG_CUR_CFG_CUR (k : Nat) : Fld := ⟨0x30110 + 0x40 * k, 0, 32⟩
abbrev F.AP_MASK_CUR_MASK_CUR (k : Nat) : Fld := ⟨0x30114 + 0x40 * k, 0, 32⟩
abbrev F.AP_TIMING_CUR_TIMING_CUR (k : Nat) : Fld := ⟨0x30118 + 0x40 * k, 0, 32⟩
abbrev F.AP_APPLIED_FRAME_APPLIED_FRAME (k : Nat) : Fld := ⟨0x3011C + 0x40 * k, 0, 32⟩
abbrev F.AP_HSTAT_RUNNING (k : Nat) : Fld := ⟨0x30120 + 0x40 * k, 0, 1⟩
abbrev F.AP_HSTAT_CLK_PRESENT (k : Nat) : Fld := ⟨0x30120 + 0x40 * k, 1, 1⟩
abbrev F.AP_HSTAT_SLIP (k : Nat) : Fld := ⟨0x30120 + 0x40 * k, 8, 1⟩
abbrev F.AP_HSTAT_FRAME_ERR (k : Nat) : Fld := ⟨0x30120 + 0x40 * k, 9, 1⟩
abbrev F.AP_HSTAT_EARLY (k : Nat) : Fld := ⟨0x30120 + 0x40 * k, 10, 1⟩
abbrev F.AP_HSTAT_NARROW_SAT (k : Nat) : Fld := ⟨0x30120 + 0x40 * k, 11, 1⟩
abbrev F.AP_HSTAT_MEAS_BITS (k : Nat) : Fld := ⟨0x30120 + 0x40 * k, 16, 12⟩
abbrev F.AP_FRAME_FRAME (k : Nat) : Fld := ⟨0x30124 + 0x40 * k, 0, 32⟩
abbrev F.AP_STAMP_FRAME_STAMP_FRAME (k : Nat) : Fld := ⟨0x30128 + 0x40 * k, 0, 32⟩
abbrev F.AP_STAMP_NS_STAMP_NS (k : Nat) : Fld := ⟨0x3012C + 0x40 * k, 0, 32⟩
abbrev F.AP_STAMP_SEC_LO_STAMP_SEC_LO (k : Nat) : Fld := ⟨0x30130 + 0x40 * k, 0, 32⟩
abbrev F.AP_STAMP_STAMP_SEC_HI (k : Nat) : Fld := ⟨0x30134 + 0x40 * k, 0, 16⟩
abbrev F.AP_STAMP_STAMP_FRAC (k : Nat) : Fld := ⟨0x30134 + 0x40 * k, 16, 16⟩
abbrev F.AP_MEAS_PHASE_MEAS_PHASE (k : Nat) : Fld := ⟨0x30138 + 0x40 * k, 0, 32⟩
abbrev F.AP_CNT_SLIP_CNT (k : Nat) : Fld := ⟨0x3013C + 0x40 * k, 0, 16⟩
abbrev F.AP_CNT_FRAME_ERR_CNT (k : Nat) : Fld := ⟨0x3013C + 0x40 * k, 16, 16⟩
abbrev F.AP_PDM_CFG_EN : Fld := ⟨0x30900, 0, 1⟩
abbrev F.AP_PDM_CFG_CLK_OUT : Fld := ⟨0x30900, 1, 1⟩
abbrev F.AP_PDM_CFG_CLK_RATE : Fld := ⟨0x30900, 2, 1⟩
abbrev F.AP_PDM_CFG_DEC : Fld := ⟨0x30900, 3, 1⟩
abbrev F.AP_PDM_CFG_IN_EN : Fld := ⟨0x30900, 4, 8⟩
abbrev F.AP_PDM_STAT_CLK_PRESENT : Fld := ⟨0x30904, 0, 1⟩
abbrev F.AP_PDM_STAT_SLIP : Fld := ⟨0x30904, 8, 1⟩
abbrev F.AP_PDM_STAT_SLIP_CNT : Fld := ⟨0x30904, 16, 16⟩
abbrev F.AP_WCLK_WR : Fld := ⟨0x30910, 0, 3⟩
abbrev F.AP_WCLK_OUT_EN : Fld := ⟨0x30910, 3, 1⟩
abbrev F.AP_WCLK_PHASE : Fld := ⟨0x30910, 4, 11⟩
abbrev F.AP_WCLK_IN_PRESENT : Fld := ⟨0x30910, 16, 1⟩
abbrev F.AP_PDM_PHASE : Fld := ⟨0x30908, 0, 32⟩
abbrev F.AP_GPIO_DIR : Fld := ⟨0x30920, 0, 16⟩
abbrev F.AP_GPIO_OUT : Fld := ⟨0x30924, 0, 16⟩
abbrev F.AP_GPIO_IN : Fld := ⟨0x30928, 0, 16⟩
abbrev F.AP_GPIO_SAFE : Fld := ⟨0x3092C, 0, 32⟩
abbrev F.AP_GPIO_DG : Fld := ⟨0x30930, 0, 32⟩
abbrev F.AP_BR_EN (k : Nat) : Fld := ⟨0x31000 + 0x8 * k, 0, 1⟩
abbrev F.AP_BR_KIND (k : Nat) : Fld := ⟨0x31000 + 0x8 * k, 1, 1⟩
abbrev F.AP_BR_SRC (k : Nat) : Fld := ⟨0x31000 + 0x8 * k, 2, 4⟩
abbrev F.AP_BR_SUB (k : Nat) : Fld := ⟨0x31000 + 0x8 * k, 6, 5⟩
abbrev F.AP_BR_LOCK (k : Nat) : Fld := ⟨0x31000 + 0x8 * k, 16, 1⟩
abbrev F.AP_BR_UNLOCK (k : Nat) : Fld := ⟨0x31000 + 0x8 * k, 17, 1⟩
abbrev F.AP_BR_RATIO (k : Nat) : Fld := ⟨0x31004 + 0x8 * k, 0, 32⟩
abbrev F.NW_STAT_OVR37 : Fld := ⟨0x40000, 0, 1⟩
abbrev F.NW_STAT_MULTI37 : Fld := ⟨0x40000, 1, 1⟩
abbrev F.NW_STAT_OVR38 : Fld := ⟨0x40000, 2, 1⟩
abbrev F.NW_STAT_MULTI38 : Fld := ⟨0x40000, 3, 1⟩
abbrev F.NW_STAT_LINK_CHG : Fld := ⟨0x40000, 4, 1⟩
abbrev F.NW_STAT_REL_FAIL : Fld := ⟨0x40000, 5, 1⟩
abbrev F.SH_STAT_OVR39 : Fld := ⟨0x50000, 0, 1⟩
abbrev F.SH_STAT_MULTI39 : Fld := ⟨0x50000, 1, 1⟩
abbrev F.SH_STAT_OVR40 : Fld := ⟨0x50000, 2, 1⟩
abbrev F.SH_STAT_MULTI40 : Fld := ⟨0x50000, 3, 1⟩
abbrev F.SH_STAT_LINK_CHG : Fld := ⟨0x50000, 4, 1⟩
abbrev F.SH_STAT_HOP_ERR : Fld := ⟨0x50000, 5, 1⟩
abbrev F.NW_OVR37_LO : Fld := ⟨0x40020, 0, 32⟩
abbrev F.NW_OVR37_HI : Fld := ⟨0x40024, 0, 32⟩
abbrev F.NW_OVR37_CNT_COUNT : Fld := ⟨0x40028, 0, 16⟩
abbrev F.NW_OVR37_RUN_RUN : Fld := ⟨0x4002C, 0, 16⟩
abbrev F.NW_OVR37_RUN_LONGEST : Fld := ⟨0x4002C, 16, 16⟩
abbrev F.NW_OVR38_LO : Fld := ⟨0x40030, 0, 32⟩
abbrev F.NW_OVR38_HI : Fld := ⟨0x40034, 0, 32⟩
abbrev F.NW_OVR38_CNT_COUNT : Fld := ⟨0x40038, 0, 16⟩
abbrev F.NW_OVR38_RUN_RUN : Fld := ⟨0x4003C, 0, 16⟩
abbrev F.NW_OVR38_RUN_LONGEST : Fld := ⟨0x4003C, 16, 16⟩
abbrev F.SH_OVR39_LO : Fld := ⟨0x50020, 0, 32⟩
abbrev F.SH_OVR39_HI : Fld := ⟨0x50024, 0, 32⟩
abbrev F.SH_OVR39_CNT_COUNT : Fld := ⟨0x50028, 0, 16⟩
abbrev F.SH_OVR39_RUN_RUN : Fld := ⟨0x5002C, 0, 16⟩
abbrev F.SH_OVR39_RUN_LONGEST : Fld := ⟨0x5002C, 16, 16⟩
abbrev F.SH_OVR40_LO : Fld := ⟨0x50030, 0, 32⟩
abbrev F.SH_OVR40_HI : Fld := ⟨0x50034, 0, 32⟩
abbrev F.SH_OVR40_CNT_COUNT : Fld := ⟨0x50038, 0, 16⟩
abbrev F.SH_OVR40_RUN_RUN : Fld := ⟨0x5003C, 0, 16⟩
abbrev F.SH_OVR40_RUN_LONGEST : Fld := ⟨0x5003C, 16, 16⟩
abbrev F.NW_PORT_UP (k : Nat) : Fld := ⟨0x40100 + 0x20 * k, 0, 1⟩
abbrev F.NW_PORT_RATE (k : Nat) : Fld := ⟨0x40100 + 0x20 * k, 1, 2⟩
abbrev F.NW_PORT_FEC (k : Nat) : Fld := ⟨0x40100 + 0x20 * k, 3, 1⟩
abbrev F.NW_PORT_DOWNS (k : Nat) : Fld := ⟨0x40100 + 0x20 * k, 8, 8⟩
abbrev F.NW_PORT_RX_FRAMES (k : Nat) : Fld := ⟨0x40104 + 0x20 * k, 0, 32⟩
abbrev F.NW_PORT_RX_DROP (k : Nat) : Fld := ⟨0x40108 + 0x20 * k, 0, 32⟩
abbrev F.NW_PORT_TX_FRAMES (k : Nat) : Fld := ⟨0x4010C + 0x20 * k, 0, 32⟩
abbrev F.NW_PORT_TX_DROP (k : Nat) : Fld := ⟨0x40110 + 0x20 * k, 0, 32⟩
abbrev F.NW_PORT_WORST_TX (k : Nat) : Fld := ⟨0x40114 + 0x20 * k, 0, 32⟩
abbrev F.SH_LINK_STATE (k : Nat) : Fld := ⟨0x50100 + 0x20 * k, 0, 3⟩
abbrev F.SH_LINK_PEER_KEEPALIVE (k : Nat) : Fld := ⟨0x50100 + 0x20 * k, 3, 1⟩
abbrev F.SH_LINK_PEER_DEVID (k : Nat) : Fld := ⟨0x50100 + 0x20 * k, 4, 6⟩
abbrev F.SH_LINK_PEER_SIDE (k : Nat) : Fld := ⟨0x50100 + 0x20 * k, 10, 1⟩
abbrev F.SH_LINK_PEER_LINK (k : Nat) : Fld := ⟨0x50100 + 0x20 * k, 11, 2⟩
abbrev F.SH_LINK_DOWNS (k : Nat) : Fld := ⟨0x50100 + 0x20 * k, 24, 8⟩
abbrev F.SH_LINK_MISSED (k : Nat) : Fld := ⟨0x50104 + 0x20 * k, 0, 16⟩
abbrev F.SH_LINK_CRC_ERR (k : Nat) : Fld := ⟨0x50104 + 0x20 * k, 16, 16⟩
abbrev F.SH_LINK_DELAY (k : Nat) : Fld := ⟨0x50108 + 0x20 * k, 0, 32⟩
abbrev F.SH_LINK_ASYM (k : Nat) : Fld := ⟨0x5010C + 0x20 * k, 0, 32⟩
abbrev F.SH_LINK_CELLS_TX (k : Nat) : Fld := ⟨0x50110 + 0x20 * k, 0, 32⟩
abbrev F.SH_LINK_RESENT (k : Nat) : Fld := ⟨0x50114 + 0x20 * k, 0, 32⟩
abbrev F.TW_CTRL_HB_EN : Fld := ⟨0x60000, 0, 1⟩
abbrev F.TW_CTRL_TAKE_EN : Fld := ⟨0x60000, 1, 1⟩
abbrev F.TW_CTRL_TAKE_DIVERGED : Fld := ⟨0x60000, 2, 1⟩
abbrev F.TW_CTRL_TIMEOUT : Fld := ⟨0x60000, 8, 7⟩
abbrev F.TW_LIVE_REFRESH : Fld := ⟨0x60004, 0, 1⟩
abbrev F.TW_LIVE_LIVE : Fld := ⟨0x60004, 31, 1⟩
abbrev F.TW_STAT_LINK_HEARD : Fld := ⟨0x60008, 0, 1⟩
abbrev F.TW_STAT_SEAM_HEARD : Fld := ⟨0x60008, 1, 1⟩
abbrev F.TW_STAT_IN_STEP : Fld := ⟨0x60008, 2, 1⟩
abbrev F.TW_STAT_UNLINKED : Fld := ⟨0x60008, 3, 1⟩
abbrev F.TW_STAT_ALIGNED : Fld := ⟨0x60008, 4, 1⟩
abbrev F.TW_STAT_TOKEN : Fld := ⟨0x60008, 5, 1⟩
abbrev F.TW_STAT_SEAM_DOWN : Fld := ⟨0x60008, 6, 1⟩
abbrev F.TW_STAT_PARTNER_MODE : Fld := ⟨0x60008, 8, 4⟩
abbrev F.TW_STAT_DIVERGE : Fld := ⟨0x60008, 16, 1⟩
abbrev F.TW_STAT_DIV_MULTI : Fld := ⟨0x60008, 17, 1⟩
abbrev F.TW_STAT_LINK_LOST : Fld := ⟨0x60008, 18, 1⟩
abbrev F.TW_STAT_SEAM_LOST : Fld := ⟨0x60008, 19, 1⟩
abbrev F.TW_STAT_PARTNER_LOST : Fld := ⟨0x60008, 20, 1⟩
abbrev F.TW_STAT_TAKEOVER : Fld := ⟨0x60008, 21, 1⟩
abbrev F.TW_STAT_DEPOSED : Fld := ⟨0x60008, 22, 1⟩
abbrev F.TW_STAT_CABLE_FAIL : Fld := ⟨0x60008, 23, 1⟩
abbrev F.TW_STAT_BLEND_ABORT : Fld := ⟨0x60008, 24, 1⟩
abbrev F.TW_STAT_REJOIN_FAIL : Fld := ⟨0x60008, 25, 1⟩
abbrev F.TW_DIV_ROW_LO : Fld := ⟨0x6000C, 0, 32⟩
abbrev F.TW_DIV_ROW_HI : Fld := ⟨0x60010, 0, 32⟩
abbrev F.TW_CHK_ROW : Fld := ⟨0x6001C, 0, 32⟩
abbrev F.TW_CHK_OWN : Fld := ⟨0x60020, 0, 32⟩
abbrev F.TW_CHK_PEER : Fld := ⟨0x60024, 0, 32⟩
abbrev F.TW_HAND_LO : Fld := ⟨0x60030, 0, 32⟩
abbrev F.TW_HAND_HI : Fld := ⟨0x60034, 0, 32⟩
abbrev F.TW_MIR_WAIT : Fld := ⟨0x60048, 0, 32⟩
abbrev F.TW_ROLE_ROW_LO : Fld := ⟨0x6004C, 0, 32⟩
abbrev F.TW_ROLE_ROW_HI : Fld := ⟨0x60050, 0, 32⟩
abbrev F.TW_DIV_CNT_COUNT : Fld := ⟨0x60014, 0, 16⟩
abbrev F.TW_MATCH : Fld := ⟨0x60018, 0, 16⟩
abbrev F.TW_SILENT_LINK : Fld := ⟨0x60028, 0, 8⟩
abbrev F.TW_SILENT_SEAM : Fld := ⟨0x60028, 8, 8⟩
abbrev F.TW_TOKEN_OWNER : Fld := ⟨0x6002C, 0, 2⟩
abbrev F.TW_TOKEN_EPOCH : Fld := ⟨0x6002C, 16, 16⟩
abbrev F.TW_HAND_LEN : Fld := ⟨0x60038, 0, 16⟩
abbrev F.TW_HAND_KIND : Fld := ⟨0x60038, 16, 2⟩
abbrev F.TW_HAND_STATE : Fld := ⟨0x60038, 18, 3⟩
abbrev F.TW_LINK_ERR : Fld := ⟨0x6003C, 0, 16⟩
abbrev F.TW_MIR_STATE : Fld := ⟨0x60040, 0, 4⟩
abbrev F.TW_MIR_LM : Fld := ⟨0x60040, 4, 1⟩
abbrev F.TW_MIR_FINAL_MAX : Fld := ⟨0x60040, 8, 4⟩
abbrev F.TW_MIR_PASS : Fld := ⟨0x60040, 16, 8⟩
abbrev F.TW_MIR_FAIL_CAUSE : Fld := ⟨0x60040, 24, 4⟩
abbrev F.TW_MIR_DIFF : Fld := ⟨0x60044, 0, 20⟩
abbrev F.TK_STAT_QDEPTH : Fld := ⟨0x70000, 0, 4⟩
abbrev F.TK_STAT_LOADER : Fld := ⟨0x70000, 4, 1⟩
abbrev F.TK_STAT_FAIL : Fld := ⟨0x70000, 8, 1⟩
abbrev F.TK_STAT_MULTI : Fld := ⟨0x70000, 9, 1⟩
abbrev F.TK_STAT_SLIP : Fld := ⟨0x70000, 10, 1⟩
abbrev F.TK_STAT_LATE : Fld := ⟨0x70000, 11, 1⟩
abbrev F.TK_STAT_HNEXT : Fld := ⟨0x70000, 16, 4⟩
abbrev F.TK_NEXT_NUM : Fld := ⟨0x70008, 0, 32⟩
abbrev F.TK_BCAST_MARGIN : Fld := ⟨0x7000C, 0, 8⟩
abbrev F.TK_FAIL_NUM : Fld := ⟨0x70010, 0, 32⟩
abbrev F.TK_FAIL_ROW_LO : Fld := ⟨0x70014, 0, 32⟩
abbrev F.TK_FAIL_ROW_HI : Fld := ⟨0x70018, 0, 32⟩
abbrev F.TK_FAIL_MISS_LO : Fld := ⟨0x7001C, 0, 32⟩
abbrev F.TK_FAIL_MISS_HI : Fld := ⟨0x70020, 0, 8⟩
abbrev F.TK_FAIL_CNT_COUNT : Fld := ⟨0x70024, 0, 16⟩
abbrev F.TK_Q_NUM (k : Nat) : Fld := ⟨0x70100 + 0x20 * k, 0, 32⟩
abbrev F.TK_Q_ROW_LO (k : Nat) : Fld := ⟨0x70104 + 0x20 * k, 0, 32⟩
abbrev F.TK_Q_ROW_HI (k : Nat) : Fld := ⟨0x70108 + 0x20 * k, 0, 32⟩
abbrev F.TK_Q_MASK_LO (k : Nat) : Fld := ⟨0x7010C + 0x20 * k, 0, 32⟩
abbrev F.TK_Q_MASK_HI (k : Nat) : Fld := ⟨0x70110 + 0x20 * k, 0, 8⟩
abbrev F.TK_Q_DESC (k : Nat) : Fld := ⟨0x70110 + 0x20 * k, 8, 4⟩
abbrev F.TK_Q_FLOATED (k : Nat) : Fld := ⟨0x70110 + 0x20 * k, 12, 1⟩
abbrev F.TK_Q_CUE (k : Nat) : Fld := ⟨0x70110 + 0x20 * k, 13, 1⟩
abbrev F.TK_Q_SLOT (k : Nat) : Fld := ⟨0x70110 + 0x20 * k, 16, 7⟩
abbrev F.TK_Q_STATE (k : Nat) : Fld := ⟨0x70110 + 0x20 * k, 24, 3⟩
abbrev F.TK_H_NUM (k : Nat) : Fld := ⟨0x70200 + 0x20 * k, 0, 32⟩
abbrev F.TK_H_ROW_LO (k : Nat) : Fld := ⟨0x70204 + 0x20 * k, 0, 32⟩
abbrev F.TK_H_ROW_HI (k : Nat) : Fld := ⟨0x70208 + 0x20 * k, 0, 32⟩
abbrev F.TK_H_MASK_LO (k : Nat) : Fld := ⟨0x7020C + 0x20 * k, 0, 32⟩
abbrev F.TK_H_MASK_HI (k : Nat) : Fld := ⟨0x70210 + 0x20 * k, 0, 8⟩
abbrev F.TK_H_OK (k : Nat) : Fld := ⟨0x70210 + 0x20 * k, 8, 1⟩
abbrev F.TK_H_SLIPPED (k : Nat) : Fld := ⟨0x70210 + 0x20 * k, 9, 1⟩
abbrev F.TK_H_ACK_LO (k : Nat) : Fld := ⟨0x70214 + 0x20 * k, 0, 32⟩
abbrev F.TK_H_ACK_HI (k : Nat) : Fld := ⟨0x70218 + 0x20 * k, 0, 8⟩
abbrev F.TK_CUE_STATE (k : Nat) : Fld := ⟨0x71000 + 0x20 * k, 0, 3⟩
abbrev F.TK_CUE_TRIG (k : Nat) : Fld := ⟨0x71000 + 0x20 * k, 3, 3⟩
abbrev F.TK_CUE_AUTO_REARM (k : Nat) : Fld := ⟨0x71000 + 0x20 * k, 6, 1⟩
abbrev F.TK_CUE_LATE_POLICY (k : Nat) : Fld := ⟨0x71000 + 0x20 * k, 7, 1⟩
abbrev F.TK_CUE_GPIO (k : Nat) : Fld := ⟨0x71000 + 0x20 * k, 8, 4⟩
abbrev F.TK_CUE_EDGE (k : Nat) : Fld := ⟨0x71000 + 0x20 * k, 12, 2⟩
abbrev F.TK_CUE_BCAST (k : Nat) : Fld := ⟨0x71000 + 0x20 * k, 14, 1⟩
abbrev F.TK_CUE_BID (k : Nat) : Fld := ⟨0x71000 + 0x20 * k, 16, 8⟩
abbrev F.TK_CUE_ROW_LO (k : Nat) : Fld := ⟨0x71004 + 0x20 * k, 0, 32⟩
abbrev F.TK_CUE_ROW_HI (k : Nat) : Fld := ⟨0x71008 + 0x20 * k, 0, 32⟩
abbrev F.TK_CUE_SIZE (k : Nat) : Fld := ⟨0x7100C + 0x20 * k, 0, 17⟩
abbrev F.TK_CUE_MASK_LO (k : Nat) : Fld := ⟨0x71010 + 0x20 * k, 0, 32⟩
abbrev F.TK_CUE_MASK_HI (k : Nat) : Fld := ⟨0x71014 + 0x20 * k, 0, 8⟩
abbrev F.TK_CUE_FIRES (k : Nat) : Fld := ⟨0x71014 + 0x20 * k, 16, 16⟩
abbrev F.TK_CUE_LEN (k : Nat) : Fld := ⟨0x71018 + 0x20 * k, 0, 16⟩
abbrev F.TK_CUE_CURVE (k : Nat) : Fld := ⟨0x71018 + 0x20 * k, 16, 2⟩
abbrev F.TK_CUE_PKTS (k : Nat) : Fld := ⟨0x71018 + 0x20 * k, 18, 3⟩
abbrev F.TK_CUE_LAST_NUM (k : Nat) : Fld := ⟨0x7101C + 0x20 * k, 0, 32⟩
abbrev F.XA_CTRL_RUN : Fld := ⟨0x80000, 0, 1⟩
abbrev F.XA_STAT_IN_ROW : Fld := ⟨0x80004, 0, 1⟩
abbrev F.XA_STAT_RAMPING : Fld := ⟨0x80004, 1, 1⟩
abbrev F.XA_STAT_REFILL : Fld := ⟨0x80004, 2, 1⟩
abbrev F.XA_STAT_COLLAPSE : Fld := ⟨0x80004, 3, 1⟩
abbrev F.XA_STAT_OVR : Fld := ⟨0x80004, 8, 1⟩
abbrev F.XA_STAT_MULTI : Fld := ⟨0x80004, 9, 1⟩
abbrev F.XA_STAT_NO_INST : Fld := ⟨0x80004, 10, 1⟩
abbrev F.XA_STAT_BANK_ERR : Fld := ⟨0x80004, 11, 1⟩
abbrev F.XA_STAT_INSTANCES : Fld := ⟨0x80004, 16, 6⟩
abbrev F.XA_CYC_LAST : Fld := ⟨0x80008, 0, 16⟩
abbrev F.XA_CYC_HWM : Fld := ⟨0x8000C, 0, 16⟩
abbrev F.XA_SAT_FIRST_SUM : Fld := ⟨0x80010, 0, 10⟩
abbrev F.XA_SAT_FIRST_MULTI : Fld := ⟨0x80010, 30, 1⟩
abbrev F.XA_SAT_FIRST_VALID : Fld := ⟨0x80010, 31, 1⟩
abbrev F.XA_SAT_ROW_LO : Fld := ⟨0x80014, 0, 32⟩
abbrev F.XA_SAT_ROW_HI : Fld := ⟨0x80018, 0, 32⟩
abbrev F.XA_OVR_ROW_LO : Fld := ⟨0x80020, 0, 32⟩
abbrev F.XA_OVR_ROW_HI : Fld := ⟨0x80024, 0, 32⟩
abbrev F.XA_SAT_CNT_COUNT : Fld := ⟨0x8001C, 0, 16⟩
abbrev F.XA_OVR_CNT_COUNT : Fld := ⟨0x80028, 0, 16⟩
abbrev F.XA_OVR_RUN_RUN : Fld := ⟨0x8002C, 0, 16⟩
abbrev F.XA_OVR_RUN_LONGEST : Fld := ⟨0x8002C, 16, 16⟩
abbrev F.XA_SAT_MAP (k : Nat) : Fld := ⟨0x80080 + 0x4 * k, 0, 32⟩
abbrev F.XA_DESC_LEN (k : Nat) : Fld := ⟨0x80100 + 0x10 * k, 0, 16⟩
abbrev F.XA_DESC_CURVE (k : Nat) : Fld := ⟨0x80100 + 0x10 * k, 16, 2⟩
abbrev F.XA_INST_LEN (k : Nat) : Fld := ⟨0x80200 + 0x10 * k, 0, 16⟩
abbrev F.XA_INST_CURVE (k : Nat) : Fld := ⟨0x80200 + 0x10 * k, 16, 2⟩
abbrev F.XA_INST_ALLOC (k : Nat) : Fld := ⟨0x80200 + 0x10 * k, 31, 1⟩
abbrev F.XA_INST_POS (k : Nat) : Fld := ⟨0x80204 + 0x10 * k, 0, 16⟩
abbrev F.XA_INST_START (k : Nat) : Fld := ⟨0x80204 + 0x10 * k, 16, 16⟩
abbrev F.XA_INST_SUMS (k : Nat) : Fld := ⟨0x80208 + 0x10 * k, 0, 11⟩
abbrev F.XA_INST_WT (k : Nat) : Fld := ⟨0x8020C + 0x10 * k, 0, 24⟩
abbrev F.XA_MASK (k : Nat) : Fld := ⟨0x81000 + 0x4 * k, 0, 32⟩
abbrev F.XA_ROLE_LIVE (k : Nat) : Fld := ⟨0x82000 + 0x4 * k, 0, 2⟩
abbrev F.XA_ROLE_TARGET (k : Nat) : Fld := ⟨0x82000 + 0x4 * k, 2, 2⟩
abbrev F.XA_ROLE_STAGING (k : Nat) : Fld := ⟨0x82000 + 0x4 * k, 4, 2⟩
abbrev F.XA_ROLE_RAMP (k : Nat) : Fld := ⟨0x82000 + 0x4 * k, 6, 1⟩
abbrev F.XA_ROLE_INST (k : Nat) : Fld := ⟨0x82000 + 0x4 * k, 7, 5⟩
abbrev F.PB_CTRL_RUN : Fld := ⟨0x90000, 0, 1⟩
abbrev F.PB_STAT_REFILL : Fld := ⟨0x90004, 0, 1⟩
abbrev F.PB_STAT_ACTIVE : Fld := ⟨0x90004, 1, 1⟩
abbrev F.PB_STAT_OVR33 : Fld := ⟨0x90004, 8, 1⟩
abbrev F.PB_STAT_MULTI33 : Fld := ⟨0x90004, 9, 1⟩
abbrev F.PB_STAT_OVR34 : Fld := ⟨0x90004, 10, 1⟩
abbrev F.PB_STAT_MULTI34 : Fld := ⟨0x90004, 11, 1⟩
abbrev F.PB_STAT_CONV_SAT33 : Fld := ⟨0x90004, 12, 1⟩
abbrev F.PB_STAT_CONV_SAT34 : Fld := ⟨0x90004, 13, 1⟩
abbrev F.PB_SWAP_ROW_LO : Fld := ⟨0x90008, 0, 32⟩
abbrev F.PB_SWAP_ROW_HI : Fld := ⟨0x9000C, 0, 32⟩
abbrev F.PB_CONV_SAT_U33 : Fld := ⟨0x90010, 0, 16⟩
abbrev F.PB_CONV_SAT_U34 : Fld := ⟨0x90010, 16, 16⟩
abbrev F.PB_OVR33_LO : Fld := ⟨0x90020, 0, 32⟩
abbrev F.PB_OVR33_HI : Fld := ⟨0x90024, 0, 32⟩
abbrev F.PB_OVR33_CNT_COUNT : Fld := ⟨0x90028, 0, 16⟩
abbrev F.PB_OVR33_RUN_RUN : Fld := ⟨0x9002C, 0, 16⟩
abbrev F.PB_OVR33_RUN_LONGEST : Fld := ⟨0x9002C, 16, 16⟩
abbrev F.PB_OVR34_LO : Fld := ⟨0x90030, 0, 32⟩
abbrev F.PB_OVR34_HI : Fld := ⟨0x90034, 0, 32⟩
abbrev F.PB_OVR34_CNT_COUNT : Fld := ⟨0x90038, 0, 16⟩
abbrev F.PB_OVR34_RUN_RUN : Fld := ⟨0x9003C, 0, 16⟩
abbrev F.PB_OVR34_RUN_LONGEST : Fld := ⟨0x9003C, 16, 16⟩
abbrev F.PB_GRP_EN (k : Nat) : Fld := ⟨0x90100 + 0x20 * k, 0, 1⟩
abbrev F.PB_GRP_CHANNEL (k : Nat) : Fld := ⟨0x90100 + 0x20 * k, 1, 2⟩
abbrev F.PB_GRP_PERIOD (k : Nat) : Fld := ⟨0x90104 + 0x20 * k, 0, 18⟩
abbrev F.PB_GRP_FIRST (k : Nat) : Fld := ⟨0x90108 + 0x20 * k, 0, 12⟩
abbrev F.PB_GRP_COUNT (k : Nat) : Fld := ⟨0x90108 + 0x20 * k, 16, 13⟩
abbrev F.PB_GRP_LOST (k : Nat) : Fld := ⟨0x9010C + 0x20 * k, 0, 16⟩
abbrev F.PB_GRP_SEQ (k : Nat) : Fld := ⟨0x90110 + 0x20 * k, 0, 32⟩
abbrev F.FB_STAT_ERR : Fld := ⟨0xA0000, 0, 1⟩
abbrev F.FB_STAT_MULTI : Fld := ⟨0xA0000, 1, 1⟩
abbrev F.FB_STAT_ORPHAN : Fld := ⟨0xA0000, 2, 1⟩
abbrev F.FB_STAT_RST_CLOSE : Fld := ⟨0xA0000, 3, 1⟩
abbrev F.FB_STAT_OUT_TOTAL : Fld := ⟨0xA0000, 16, 8⟩
abbrev F.FB_ERR_INFO_MASTER : Fld := ⟨0xA0004, 0, 4⟩
abbrev F.FB_ERR_INFO_TARGET : Fld := ⟨0xA0004, 4, 5⟩
abbrev F.FB_ERR_INFO_RESP : Fld := ⟨0xA0004, 9, 3⟩
abbrev F.FB_ERR_INFO_WRITE : Fld := ⟨0xA0004, 12, 1⟩
abbrev F.FB_ERR_INFO_VALID : Fld := ⟨0xA0004, 31, 1⟩
abbrev F.FB_ERR_ADDR : Fld := ⟨0xA0008, 0, 32⟩
abbrev F.FB_ERR_CNT_COUNT : Fld := ⟨0xA000C, 0, 16⟩
abbrev F.FB_M_RD_OUT (k : Nat) : Fld := ⟨0xA0100 + 0x10 * k, 0, 5⟩
abbrev F.FB_M_WR_OUT (k : Nat) : Fld := ⟨0xA0100 + 0x10 * k, 8, 5⟩
abbrev F.FB_M_RD_PEAK (k : Nat) : Fld := ⟨0xA0100 + 0x10 * k, 16, 5⟩
abbrev F.FB_M_WR_PEAK (k : Nat) : Fld := ⟨0xA0100 + 0x10 * k, 24, 5⟩
abbrev F.FB_M_STALL (k : Nat) : Fld := ⟨0xA0104 + 0x10 * k, 0, 32⟩
abbrev F.FB_M_HELD (k : Nat) : Fld := ⟨0xA0108 + 0x10 * k, 0, 32⟩
abbrev F.DMA_CTRL_EN : Fld := ⟨0xB0000, 0, 1⟩
abbrev F.DMA_STAT_BUSY : Fld := ⟨0xB0004, 0, 1⟩
abbrev F.DMA_STAT_HALTED : Fld := ⟨0xB0004, 1, 1⟩
abbrev F.DMA_STAT_CH : Fld := ⟨0xB0004, 4, 4⟩
abbrev F.DMA_STAT_LOST : Fld := ⟨0xB0004, 16, 1⟩
abbrev F.DMA_STAT_CONFLICT : Fld := ⟨0xB0004, 17, 1⟩
abbrev F.DMA_STAT_TOO_BIG : Fld := ⟨0xB0004, 18, 1⟩
abbrev F.DMA_PEND_LO : Fld := ⟨0xB0008, 0, 32⟩
abbrev F.DMA_PEND_HI : Fld := ⟨0xB000C, 0, 32⟩
abbrev F.DMA_LOST_COUNT : Fld := ⟨0xB0010, 0, 16⟩
abbrev F.DMA_LOST_LINE : Fld := ⟨0xB0010, 16, 6⟩
abbrev F.DMA_LOST_VALID : Fld := ⟨0xB0010, 31, 1⟩
abbrev F.DMA_ERR_ADDR_LO : Fld := ⟨0xB0014, 0, 32⟩
abbrev F.DMA_ERR_ADDR_HI : Fld := ⟨0xB0018, 0, 32⟩
abbrev F.DMA_ERR_INFO_WRITE : Fld := ⟨0xB001C, 0, 1⟩
abbrev F.DMA_ERR_INFO_KIND : Fld := ⟨0xB001C, 1, 3⟩
abbrev F.DMA_ERR_INFO_CH : Fld := ⟨0xB001C, 4, 4⟩
abbrev F.DMA_ERR_INFO_BEAT : Fld := ⟨0xB001C, 8, 4⟩
abbrev F.DMA_ERR_INFO_VALID : Fld := ⟨0xB001C, 31, 1⟩
abbrev F.DMA_SWREQ_CH : Fld := ⟨0xB0020, 0, 4⟩
abbrev F.DMA_CH_EN (k : Nat) : Fld := ⟨0xB0100 + 0x40 * k, 0, 1⟩
abbrev F.DMA_CH_LENT (k : Nat) : Fld := ⟨0xB0100 + 0x40 * k, 1, 1⟩
abbrev F.DMA_CH_LINE (k : Nat) : Fld := ⟨0xB0100 + 0x40 * k, 2, 6⟩
abbrev F.DMA_CH_HOSTDST (k : Nat) : Fld := ⟨0xB0100 + 0x40 * k, 8, 1⟩
abbrev F.DMA_CH_BURST (k : Nat) : Fld := ⟨0xB0100 + 0x40 * k, 9, 4⟩
abbrev F.DMA_CH_SRC (k : Nat) : Fld := ⟨0xB0104 + 0x40 * k, 0, 32⟩
abbrev F.DMA_CH_DST_LO (k : Nat) : Fld := ⟨0xB0108 + 0x40 * k, 0, 32⟩
abbrev F.DMA_CH_DST_HI (k : Nat) : Fld := ⟨0xB010C + 0x40 * k, 0, 32⟩
abbrev F.DMA_CH_LEN (k : Nat) : Fld := ⟨0xB0110 + 0x40 * k, 0, 24⟩
abbrev F.DMA_CH_ACTIVE (k : Nat) : Fld := ⟨0xB0114 + 0x40 * k, 0, 1⟩
abbrev F.DMA_CH_HALTED (k : Nat) : Fld := ⟨0xB0114 + 0x40 * k, 1, 1⟩
abbrev F.DMA_CH_PARKED (k : Nat) : Fld := ⟨0xB0114 + 0x40 * k, 2, 1⟩
abbrev F.DMA_CH_FULL (k : Nat) : Fld := ⟨0xB0114 + 0x40 * k, 3, 1⟩
abbrev F.DMA_CH_ABANDONED (k : Nat) : Fld := ⟨0xB0114 + 0x40 * k, 8, 1⟩
abbrev F.DMA_CH_SEQ (k : Nat) : Fld := ⟨0xB0114 + 0x40 * k, 16, 16⟩
abbrev F.DMA_CH_DONE_BYTES (k : Nat) : Fld := ⟨0xB0118 + 0x40 * k, 0, 32⟩
abbrev F.DMA_CH_JOBS (k : Nat) : Fld := ⟨0xB011C + 0x40 * k, 0, 32⟩
abbrev F.DMA_CH_DATA_BASE_LO (k : Nat) : Fld := ⟨0xB0120 + 0x40 * k, 0, 32⟩
abbrev F.DMA_CH_DATA_BASE_HI (k : Nat) : Fld := ⟨0xB0124 + 0x40 * k, 0, 32⟩
abbrev F.DMA_CH_DATA_LEN (k : Nat) : Fld := ⟨0xB0128 + 0x40 * k, 0, 32⟩
abbrev F.DMA_CH_DATA_OFF (k : Nat) : Fld := ⟨0xB012C + 0x40 * k, 0, 32⟩
abbrev F.DMA_CH_REC_BASE_LO (k : Nat) : Fld := ⟨0xB0130 + 0x40 * k, 0, 32⟩
abbrev F.DMA_CH_REC_BASE_HI (k : Nat) : Fld := ⟨0xB0134 + 0x40 * k, 0, 32⟩
abbrev F.DMA_CH_REC_COUNT (k : Nat) : Fld := ⟨0xB0138 + 0x40 * k, 0, 16⟩
abbrev F.DMA_CH_REC_WR (k : Nat) : Fld := ⟨0xB0138 + 0x40 * k, 16, 16⟩
abbrev F.DMA_CH_REC_CONS (k : Nat) : Fld := ⟨0xB013C + 0x40 * k, 0, 16⟩
abbrev F.MM_STAT_FROG : Fld := ⟨0xC0000, 0, 1⟩
abbrev F.MM_STAT_SWATCH : Fld := ⟨0xC0000, 1, 1⟩
abbrev F.MM_STAT_CE : Fld := ⟨0xC0000, 8, 1⟩
abbrev F.MM_STAT_UE : Fld := ⟨0xC0000, 9, 1⟩
abbrev F.MM_SWATCH_CTRL_BANK : Fld := ⟨0xC0004, 0, 6⟩
abbrev F.MM_SWATCH_CTRL_ALL : Fld := ⟨0xC0004, 6, 1⟩
abbrev F.MM_SWATCH_CTRL_KIND : Fld := ⟨0xC0004, 7, 1⟩
abbrev F.MM_SWATCH_CTRL_REPAIR : Fld := ⟨0xC0004, 8, 1⟩
abbrev F.MM_SWATCH_CTRL_GO : Fld := ⟨0xC0004, 16, 1⟩
abbrev F.MM_SWATCH_STAT_BUSY : Fld := ⟨0xC0008, 0, 1⟩
abbrev F.MM_SWATCH_STAT_RESULT : Fld := ⟨0xC0008, 1, 2⟩
abbrev F.MM_SWATCH_STAT_REPAIRS : Fld := ⟨0xC0008, 8, 8⟩
abbrev F.MM_SWATCH_STAT_MACRO : Fld := ⟨0xC0008, 16, 10⟩
abbrev F.MM_SEC_STAT_TAMPER_N : Fld := ⟨0xC0010, 0, 1⟩
abbrev F.MM_SEC_STAT_TAMPERED : Fld := ⟨0xC0010, 1, 1⟩
abbrev F.MM_SEC_STAT_LOADED : Fld := ⟨0xC0010, 2, 1⟩
abbrev F.MM_SWATCH_FAIL_MACRO : Fld := ⟨0xC000C, 0, 10⟩
abbrev F.MM_SWATCH_FAIL_WORD : Fld := ⟨0xC000C, 10, 15⟩
abbrev F.MM_SWATCH_FAIL_VALID : Fld := ⟨0xC000C, 31, 1⟩
abbrev F.MM_BANK_STATE (k : Nat) : Fld := ⟨0xC0100 + 0x10 * k, 0, 2⟩
abbrev F.MM_BANK_CUR (k : Nat) : Fld := ⟨0xC0100 + 0x10 * k, 2, 2⟩
abbrev F.MM_BANK_TESTING (k : Nat) : Fld := ⟨0xC0100 + 0x10 * k, 4, 1⟩
abbrev F.MM_BANK_FAILED (k : Nat) : Fld := ⟨0xC0100 + 0x10 * k, 5, 1⟩
abbrev F.MM_BANK_CE_CNT (k : Nat) : Fld := ⟨0xC0104 + 0x10 * k, 0, 16⟩
abbrev F.MM_BANK_UE_CNT (k : Nat) : Fld := ⟨0xC0104 + 0x10 * k, 16, 16⟩
abbrev F.MM_BANK_ADDR (k : Nat) : Fld := ⟨0xC0108 + 0x10 * k, 0, 32⟩
abbrev F.MM_BANK_VALID (k : Nat) : Fld := ⟨0xC010C + 0x10 * k, 0, 1⟩
abbrev F.MM_BANK_DOUBLE (k : Nat) : Fld := ⟨0xC010C + 0x10 * k, 1, 1⟩
abbrev F.MM_BANK_MULTI (k : Nat) : Fld := ⟨0xC010C + 0x10 * k, 2, 1⟩
abbrev F.MM_MACRO_FUSE_ROWS (k : Nat) : Fld := ⟨0xC1000 + 0x4 * k, 0, 2⟩
abbrev F.MM_MACRO_FUSE_COL (k : Nat) : Fld := ⟨0xC1000 + 0x4 * k, 2, 1⟩
abbrev F.MM_MACRO_SOFT_ROWS (k : Nat) : Fld := ⟨0xC1000 + 0x4 * k, 3, 2⟩
abbrev F.MM_MACRO_SOFT_COL (k : Nat) : Fld := ⟨0xC1000 + 0x4 * k, 5, 1⟩
abbrev F.MM_MACRO_UNREPAIRABLE (k : Nat) : Fld := ⟨0xC1000 + 0x4 * k, 6, 1⟩
abbrev F.MM_MACRO_LAST_FAIL (k : Nat) : Fld := ⟨0xC1000 + 0x4 * k, 7, 1⟩
abbrev F.SK_CTRL_RUN (k : Nat) : Fld := ⟨0x100000 + 0x10000 * k, 0, 1⟩
abbrev F.SK_CTRL_HALT (k : Nat) : Fld := ⟨0x100000 + 0x10000 * k, 1, 1⟩
abbrev F.SK_CTRL_STEP (k : Nat) : Fld := ⟨0x100000 + 0x10000 * k, 2, 1⟩
abbrev F.SK_CTRL_CLR_HWM (k : Nat) : Fld := ⟨0x100000 + 0x10000 * k, 3, 1⟩
abbrev F.SK_CTRL_CLR_FLAGS (k : Nat) : Fld := ⟨0x100000 + 0x10000 * k, 4, 1⟩
abbrev F.SK_STAT_IN_ROW (k : Nat) : Fld := ⟨0x100004 + 0x10000 * k, 0, 1⟩
abbrev F.SK_STAT_HALTED (k : Nat) : Fld := ⟨0x100004 + 0x10000 * k, 1, 1⟩
abbrev F.SK_STAT_STALL_IN (k : Nat) : Fld := ⟨0x100004 + 0x10000 * k, 2, 1⟩
abbrev F.SK_STAT_FAR_WAIT (k : Nat) : Fld := ⟨0x100004 + 0x10000 * k, 3, 1⟩
abbrev F.SK_STAT_REFILL (k : Nat) : Fld := ⟨0x100004 + 0x10000 * k, 4, 1⟩
abbrev F.SK_STAT_OVR (k : Nat) : Fld := ⟨0x100004 + 0x10000 * k, 8, 1⟩
abbrev F.SK_STAT_MULTI (k : Nat) : Fld := ⟨0x100004 + 0x10000 * k, 9, 1⟩
abbrev F.SK_STAT_FAR_ERR (k : Nat) : Fld := ⟨0x100004 + 0x10000 * k, 10, 1⟩
abbrev F.SK_STAT_DLV_COLLIDE (k : Nat) : Fld := ⟨0x100004 + 0x10000 * k, 11, 1⟩
abbrev F.SK_ENTRY (k : Nat) : Fld := ⟨0x100008 + 0x10000 * k, 0, 14⟩
abbrev F.SK_INIT (k : Nat) : Fld := ⟨0x10000C + 0x10000 * k, 0, 14⟩
abbrev F.SK_PC (k : Nat) : Fld := ⟨0x100010 + 0x10000 * k, 0, 14⟩
abbrev F.SK_BRK_ADDR (k : Nat) : Fld := ⟨0x100014 + 0x10000 * k, 0, 14⟩
abbrev F.SK_BRK_EN (k : Nat) : Fld := ⟨0x100014 + 0x10000 * k, 31, 1⟩
abbrev F.SK_OVF_PC_PC (k : Nat) : Fld := ⟨0x100018 + 0x10000 * k, 0, 14⟩
abbrev F.SK_OVF_PC_LANES (k : Nat) : Fld := ⟨0x100018 + 0x10000 * k, 16, 4⟩
abbrev F.SK_OVF_PC_MULTI (k : Nat) : Fld := ⟨0x100018 + 0x10000 * k, 30, 1⟩
abbrev F.SK_OVF_PC_VALID (k : Nat) : Fld := ⟨0x100018 + 0x10000 * k, 31, 1⟩
abbrev F.SK_ARITH_CNT_OVF_COUNT (k : Nat) : Fld := ⟨0x10001C + 0x10000 * k, 0, 16⟩
abbrev F.SK_ARITH_CNT_SAT_COUNT (k : Nat) : Fld := ⟨0x10001C + 0x10000 * k, 16, 16⟩
abbrev F.SK_CYC_LAST (k : Nat) : Fld := ⟨0x100020 + 0x10000 * k, 0, 16⟩
abbrev F.SK_CYC_HWM (k : Nat) : Fld := ⟨0x100024 + 0x10000 * k, 0, 16⟩
abbrev F.SK_OVR_ROW_LO (k : Nat) : Fld := ⟨0x100028 + 0x10000 * k, 0, 32⟩
abbrev F.SK_OVR_ROW_HI (k : Nat) : Fld := ⟨0x10002C + 0x10000 * k, 0, 32⟩
abbrev F.SK_OVR_CNT_COUNT (k : Nat) : Fld := ⟨0x100030 + 0x10000 * k, 0, 16⟩
abbrev F.SK_OVR_RUN_RUN (k : Nat) : Fld := ⟨0x100034 + 0x10000 * k, 0, 16⟩
abbrev F.SK_OVR_RUN_LONGEST (k : Nat) : Fld := ⟨0x100034 + 0x10000 * k, 16, 16⟩
abbrev F.SK_CBANK_ACTIVE (k : Nat) : Fld := ⟨0x100038 + 0x10000 * k, 0, 1⟩
abbrev F.SK_CBANK_REFILL (k : Nat) : Fld := ⟨0x100038 + 0x10000 * k, 1, 1⟩
abbrev F.SK_CBANK_SWAP_ROW (k : Nat) : Fld := ⟨0x100038 + 0x10000 * k, 16, 16⟩
abbrev F.SK_REG_BASE (k n : Nat) : Fld := ⟨0x100040 + 0x10000 * k + 8 * n, 0, 13⟩
abbrev F.SK_REG_LEN (k n : Nat) : Fld := ⟨0x100040 + 0x10000 * k + 8 * n, 16, 13⟩
abbrev F.SK_REG_KIND (k n : Nat) : Fld := ⟨0x100044 + 0x10000 * k + 8 * n, 0, 2⟩
abbrev F.SK_REG_PAGE (k n : Nat) : Fld := ⟨0x100044 + 0x10000 * k + 8 * n, 2, 1⟩
abbrev F.SK_REG_READY (k n : Nat) : Fld := ⟨0x100044 + 0x10000 * k + 8 * n, 3, 1⟩
abbrev F.SK_REG_HELD (k n : Nat) : Fld := ⟨0x100044 + 0x10000 * k + 8 * n, 4, 1⟩
abbrev F.SK_REG_IDLE (k n : Nat) : Fld := ⟨0x100044 + 0x10000 * k + 8 * n, 5, 1⟩
abbrev F.SK_REG_ROW (k n : Nat) : Fld := ⟨0x100044 + 0x10000 * k + 8 * n, 16, 16⟩

/-- Part 0 of `fieldRows`. -/
def fieldRows0 : List FieldRow :=
  [ ⟨0x1000000, 1, 0x4, 16, 16, .ro⟩
  , ⟨0x1000000, 1, 0x4, 8, 8, .ro⟩
  , ⟨0x1000000, 1, 0x4, 0, 6, .ro⟩
  , ⟨0x1000004, 1, 0x4, 0, 1, .ro⟩
  , ⟨0x1000008, 1, 0x4, 0, 4, .ro⟩
  , ⟨0x1000008, 1, 0x4, 4, 4, .ro⟩
  , ⟨0x100000C, 1, 0x4, 0, 1, .w1c⟩
  , ⟨0x100000C, 1, 0x4, 1, 1, .w1c⟩
  , ⟨0x100000C, 1, 0x4, 2, 1, .ro⟩
  , ⟨0x100000C, 1, 0x4, 3, 1, .ro⟩
  , ⟨0x100000C, 1, 0x4, 4, 1, .w1c⟩
  , ⟨0x1000010, 1, 0x4, 0, 32, .ro⟩
  , ⟨0x1000014, 1, 0x4, 0, 3, .ro⟩
  , ⟨0x1000014, 1, 0x4, 3, 3, .ro⟩
  , ⟨0x1000014, 1, 0x4, 6, 1, .ro⟩
  , ⟨0x1000014, 1, 0x4, 7, 1, .ro⟩
  , ⟨0x1000014, 1, 0x4, 8, 1, .ro⟩
  , ⟨0x1010000, 1, 0x4, 0, 2, .ro⟩
  , ⟨0x1010000, 1, 0x4, 16, 16, .ro⟩
  , ⟨0x1010004, 2, 0x4, 0, 16, .ro⟩
  , ⟨0x1010004, 2, 0x4, 16, 4, .ro⟩
  , ⟨0x101000C, 1, 0x4, 0, 1, .w1c⟩
  , ⟨0x101000C, 1, 0x4, 1, 1, .w1c⟩
  , ⟨0x101000C, 1, 0x4, 2, 1, .w1c⟩
  , ⟨0x101000C, 1, 0x4, 3, 1, .w1c⟩
  , ⟨0x101000C, 1, 0x4, 4, 1, .w1c⟩
  , ⟨0x1010010, 1, 0x4, 0, 2, .ro⟩
  , ⟨0x1010010, 1, 0x4, 2, 2, .ro⟩
  , ⟨0x1010010, 1, 0x4, 4, 3, .ro⟩
  , ⟨0x1010010, 1, 0x4, 16, 16, .ro⟩
  , ⟨0x1010014, 1, 0x4, 0, 1, .wt⟩
  , ⟨0x1020000, 1, 0x4, 0, 8, .ra⟩
  , ⟨0x1020004, 1, 0x4, 0, 8, .wt⟩
  , ⟨0x1020008, 1, 0x4, 0, 1, .ro⟩
  , ⟨0x1020008, 1, 0x4, 4, 4, .ro⟩
  , ⟨0x1020008, 1, 0x4, 8, 5, .ro⟩
  , ⟨0x1020008, 1, 0x4, 16, 1, .w1c⟩
  , ⟨0x1020008, 1, 0x4, 17, 1, .w1c⟩
  , ⟨0x1020008, 1, 0x4, 18, 1, .ro⟩
  , ⟨0x1020040, 16, 0x4, 0, 4, .ro⟩ ]

/-- Part 1 of `fieldRows`. -/
def fieldRows1 : List FieldRow :=
  [ ⟨0x1020040, 16, 0x4, 8, 8, .ro⟩
  , ⟨0x1020040, 16, 0x4, 31, 1, .ro⟩
  , ⟨0x1020100, 8, 0x4, 0, 32, .ro⟩
  , ⟨0x1020120, 8, 0x4, 0, 32, .ro⟩
  , ⟨0x1020400, 256, 0x4, 0, 4, .rw⟩
  , ⟨0x1020400, 256, 0x4, 4, 3, .rw⟩
  , ⟨0x1020400, 256, 0x4, 7, 1, .wt⟩
  , ⟨0x1020400, 256, 0x4, 8, 8, .rw⟩
  , ⟨0x1020400, 256, 0x4, 16, 8, .ro⟩
  , ⟨0x1020400, 256, 0x4, 24, 1, .ro⟩
  , ⟨0x1020400, 256, 0x4, 25, 1, .ro⟩
  , ⟨0x1020400, 256, 0x4, 26, 1, .ro⟩
  , ⟨0x1020400, 256, 0x4, 27, 1, .w1c⟩
  , ⟨0x1030000, 2, 0x20, 0, 7, .ro⟩
  , ⟨0x1030004, 2, 0x20, 0, 7, .ro⟩
  , ⟨0x1030008, 2, 0x20, 0, 7, .wt⟩
  , ⟨0x103000C, 2, 0x20, 0, 7, .ro⟩
  , ⟨0x1030010, 2, 0x20, 0, 7, .rw⟩
  , ⟨0x1030014, 2, 0x20, 0, 7, .wt⟩
  , ⟨0x1030040, 1, 0x4, 0, 7, .wt⟩
  , ⟨0x1030044, 1, 0x4, 0, 1, .w1c⟩
  , ⟨0x1030044, 1, 0x4, 1, 1, .w1c⟩
  , ⟨0x1030044, 1, 0x4, 2, 1, .w1c⟩
  , ⟨0x1030044, 1, 0x4, 3, 1, .w1c⟩
  , ⟨0x1030044, 1, 0x4, 4, 1, .w1c⟩
  , ⟨0x1030044, 1, 0x4, 8, 2, .ro⟩
  , ⟨0x1030044, 1, 0x4, 10, 2, .ro⟩
  , ⟨0x1030044, 1, 0x4, 12, 2, .ro⟩
  , ⟨0x1030048, 1, 0x4, 0, 1, .rw⟩
  , ⟨0x1030048, 1, 0x4, 1, 1, .rw⟩
  , ⟨0x103004C, 2, 0x4, 0, 8, .rw⟩
  , ⟨0x1040000, 1, 0x4, 0, 1, .rw⟩
  , ⟨0x1040000, 1, 0x4, 1, 1, .rw⟩
  , ⟨0x1040004, 1, 0x4, 0, 1, .w1c⟩
  , ⟨0x1040004, 1, 0x4, 1, 1, .w1c⟩
  , ⟨0x1040004, 1, 0x4, 8, 8, .ro⟩
  , ⟨0x1040004, 1, 0x4, 16, 16, .ro⟩
  , ⟨0x1040100, 64, 0x4, 0, 1, .rw⟩
  , ⟨0x1040100, 64, 0x4, 1, 1, .rw⟩
  , ⟨0x1040100, 64, 0x4, 2, 2, .rw⟩ ]

/-- Part 2 of `fieldRows`. -/
def fieldRows2 : List FieldRow :=
  [ ⟨0x1040100, 64, 0x4, 4, 1, .rw⟩
  , ⟨0x1040100, 64, 0x4, 5, 1, .rw⟩
  , ⟨0x1040100, 64, 0x4, 6, 2, .rw⟩
  , ⟨0x1040100, 64, 0x4, 8, 1, .ro⟩
  , ⟨0x1040100, 64, 0x4, 9, 1, .ro⟩
  , ⟨0x1050000, 1, 0x4, 0, 2, .rw⟩
  , ⟨0x1050004, 1, 0x4, 0, 4, .rw⟩
  , ⟨0x1050008, 1, 0x4, 0, 8, .rw⟩
  , ⟨0x1050008, 1, 0x4, 8, 2, .rw⟩
  , ⟨0x1050008, 1, 0x4, 10, 4, .rw⟩
  , ⟨0x1050008, 1, 0x4, 14, 2, .rw⟩
  , ⟨0x1050008, 1, 0x4, 16, 1, .rw⟩
  , ⟨0x1050008, 1, 0x4, 17, 9, .rw⟩
  , ⟨0x105000C, 1, 0x4, 0, 32, .rw⟩
  , ⟨0x1050010, 1, 0x4, 0, 1, .wt⟩
  , ⟨0x1050014, 1, 0x4, 0, 1, .ro⟩
  , ⟨0x1050014, 1, 0x4, 8, 1, .w1c⟩
  , ⟨0x1050014, 1, 0x4, 9, 1, .w1c⟩
  , ⟨0x1050100, 64, 0x4, 0, 32, .rw⟩
  , ⟨0x0, 1, 0x4, 0, 4, .ro⟩
  , ⟨0x0, 1, 0x4, 4, 4, .ro⟩
  , ⟨0x0, 1, 0x4, 8, 2, .ro⟩
  , ⟨0x4, 1, 0x4, 0, 32, .ro⟩
  , ⟨0x8, 1, 0x4, 0, 32, .ro⟩
  , ⟨0xC, 1, 0x4, 0, 16, .wt⟩
  , ⟨0x10, 1, 0x4, 0, 1, .ro⟩
  , ⟨0x10, 1, 0x4, 1, 1, .ro⟩
  , ⟨0x10, 1, 0x4, 2, 1, .ro⟩
  , ⟨0x10, 1, 0x4, 3, 1, .ro⟩
  , ⟨0x10, 1, 0x4, 4, 1, .ro⟩
  , ⟨0x10, 1, 0x4, 5, 1, .ro⟩
  , ⟨0x10, 1, 0x4, 6, 1, .ro⟩
  , ⟨0x14, 1, 0x4, 0, 3, .ro⟩
  , ⟨0x14, 1, 0x4, 30, 1, .ro⟩
  , ⟨0x14, 1, 0x4, 31, 1, .ro⟩
  , ⟨0x18, 1, 0x4, 0, 4, .ro⟩
  , ⟨0x18, 1, 0x4, 4, 4, .ro⟩
  , ⟨0x18, 1, 0x4, 8, 4, .ro⟩
  , ⟨0x18, 1, 0x4, 12, 1, .ro⟩
  , ⟨0x18, 1, 0x4, 16, 4, .w1c⟩ ]

/-- Part 3 of `fieldRows`. -/
def fieldRows3 : List FieldRow :=
  [ ⟨0x18, 1, 0x4, 20, 4, .w1c⟩
  , ⟨0x1C, 1, 0x4, 0, 8, .rw⟩
  , ⟨0x20, 1, 0x4, 0, 8, .ro⟩
  , ⟨0x20, 1, 0x4, 8, 8, .ro⟩
  , ⟨0x20, 1, 0x4, 16, 8, .ro⟩
  , ⟨0x20, 1, 0x4, 24, 8, .ro⟩
  , ⟨0x24, 1, 0x4, 0, 1, .wt⟩
  , ⟨0x24, 1, 0x4, 1, 1, .rw⟩
  , ⟨0x28, 1, 0x4, 0, 1, .ro⟩
  , ⟨0x2C, 1, 0x4, 0, 3, .ro⟩
  , ⟨0x2C, 1, 0x4, 3, 1, .ro⟩
  , ⟨0x2C, 1, 0x4, 4, 1, .ro⟩
  , ⟨0x2C, 1, 0x4, 8, 8, .ro⟩
  , ⟨0x30, 1, 0x4, 0, 2, .ro⟩
  , ⟨0x30, 1, 0x4, 2, 2, .ro⟩
  , ⟨0x30, 1, 0x4, 4, 1, .ro⟩
  , ⟨0x30, 1, 0x4, 5, 1, .ro⟩
  , ⟨0x34, 1, 0x4, 0, 2, .wt⟩
  , ⟨0x34, 1, 0x4, 16, 16, .wt⟩
  , ⟨0x38, 1, 0x4, 0, 2, .ro⟩
  , ⟨0x38, 1, 0x4, 4, 2, .ro⟩
  , ⟨0x40, 8, 0x4, 0, 32, .rw⟩
  , ⟨0x60, 8, 0x4, 0, 32, .rw⟩
  , ⟨0x80, 16, 0x4, 0, 32, .ro⟩
  , ⟨0x10000, 1, 0x4, 0, 1, .ro⟩
  , ⟨0x10000, 1, 0x4, 1, 1, .ro⟩
  , ⟨0x10000, 1, 0x4, 2, 1, .ro⟩
  , ⟨0x10000, 1, 0x4, 3, 1, .ro⟩
  , ⟨0x10000, 1, 0x4, 8, 1, .w1c⟩
  , ⟨0x10000, 1, 0x4, 9, 1, .w1c⟩
  , ⟨0x10000, 1, 0x4, 10, 1, .w1c⟩
  , ⟨0x10000, 1, 0x4, 11, 1, .w1c⟩
  , ⟨0x10004, 1, 0x4, 0, 16, .ro⟩
  , ⟨0x10004, 1, 0x4, 16, 16, .ro⟩
  , ⟨0x10008, 1, 0x4, 0, 3, .ro⟩
  , ⟨0x10008, 1, 0x4, 4, 6, .ro⟩
  , ⟨0x10008, 1, 0x4, 16, 4, .ro⟩
  , ⟨0x10008, 1, 0x4, 30, 1, .ro⟩
  , ⟨0x10008, 1, 0x4, 31, 1, .ro⟩
  , ⟨0x1000C, 1, 0x4, 0, 32, .ro⟩ ]

/-- Part 4 of `fieldRows`. -/
def fieldRows4 : List FieldRow :=
  [ ⟨0x10010, 1, 0x4, 0, 32, .ro⟩
  , ⟨0x10014, 1, 0x4, 0, 1, .ro⟩
  , ⟨0x10014, 1, 0x4, 1, 1, .ro⟩
  , ⟨0x10014, 1, 0x4, 8, 8, .ro⟩
  , ⟨0x10018, 1, 0x4, 0, 3, .ro⟩
  , ⟨0x10018, 1, 0x4, 3, 1, .ro⟩
  , ⟨0x10018, 1, 0x4, 4, 2, .rw⟩
  , ⟨0x10018, 1, 0x4, 6, 2, .rw⟩
  , ⟨0x1001C, 1, 0x4, 0, 1, .ro⟩
  , ⟨0x1001C, 1, 0x4, 1, 1, .ro⟩
  , ⟨0x1001C, 1, 0x4, 2, 1, .ro⟩
  , ⟨0x10020, 1, 0x4, 0, 5, .rw⟩
  , ⟨0x10020, 1, 0x4, 8, 4, .rw⟩
  , ⟨0x10020, 1, 0x4, 12, 2, .rw⟩
  , ⟨0x10020, 1, 0x4, 16, 16, .rw⟩
  , ⟨0x10024, 1, 0x4, 0, 2, .ro⟩
  , ⟨0x10030, 1, 0x4, 0, 32, .rw⟩
  , ⟨0x10034, 1, 0x4, 0, 2, .rw⟩
  , ⟨0x10034, 1, 0x4, 5, 4, .rw⟩
  , ⟨0x10038, 1, 0x4, 0, 32, .rw⟩
  , ⟨0x1003C, 1, 0x4, 0, 2, .rw⟩
  , ⟨0x1003C, 1, 0x4, 5, 4, .rw⟩
  , ⟨0x10040, 1, 0x4, 0, 32, .ro⟩
  , ⟨0x10044, 1, 0x4, 0, 2, .ro⟩
  , ⟨0x10044, 1, 0x4, 5, 4, .ro⟩
  , ⟨0x10048, 1, 0x4, 0, 32, .w1c⟩
  , ⟨0x1004C, 1, 0x4, 0, 2, .w1c⟩
  , ⟨0x1004C, 1, 0x4, 5, 4, .w1c⟩
  , ⟨0x20000, 1, 0x4, 0, 1, .rw⟩
  , ⟨0x20000, 1, 0x4, 1, 1, .rw⟩
  , ⟨0x20000, 1, 0x4, 4, 3, .rw⟩
  , ⟨0x20000, 1, 0x4, 8, 7, .rw⟩
  , ⟨0x20000, 1, 0x4, 16, 16, .rw⟩
  , ⟨0x20004, 1, 0x4, 0, 1, .ro⟩
  , ⟨0x20004, 1, 0x4, 1, 1, .ro⟩
  , ⟨0x20004, 1, 0x4, 2, 1, .ro⟩
  , ⟨0x20004, 1, 0x4, 3, 1, .ro⟩
  , ⟨0x20004, 1, 0x4, 4, 1, .ro⟩
  , ⟨0x20004, 1, 0x4, 5, 1, .ro⟩
  , ⟨0x20004, 1, 0x4, 6, 1, .ro⟩ ]

/-- Part 5 of `fieldRows`. -/
def fieldRows5 : List FieldRow :=
  [ ⟨0x20004, 1, 0x4, 7, 1, .ro⟩
  , ⟨0x20004, 1, 0x4, 8, 3, .ro⟩
  , ⟨0x20004, 1, 0x4, 11, 3, .ro⟩
  , ⟨0x20004, 1, 0x4, 16, 1, .ro⟩
  , ⟨0x20008, 1, 0x4, 0, 1, .w1c⟩
  , ⟨0x20008, 1, 0x4, 1, 1, .w1c⟩
  , ⟨0x20008, 1, 0x4, 2, 1, .w1c⟩
  , ⟨0x20008, 1, 0x4, 3, 1, .w1c⟩
  , ⟨0x20008, 1, 0x4, 4, 1, .w1c⟩
  , ⟨0x20008, 1, 0x4, 8, 1, .w1c⟩
  , ⟨0x20008, 1, 0x4, 9, 1, .w1c⟩
  , ⟨0x20008, 1, 0x4, 10, 1, .w1c⟩
  , ⟨0x20008, 1, 0x4, 11, 1, .w1c⟩
  , ⟨0x20008, 1, 0x4, 12, 1, .w1c⟩
  , ⟨0x2000C, 1, 0x4, 0, 16, .rw⟩
  , ⟨0x2000C, 1, 0x4, 16, 8, .rw⟩
  , ⟨0x20010, 1, 0x4, 0, 16, .rw⟩
  , ⟨0x20014, 1, 0x4, 0, 32, .ro⟩
  , ⟨0x20018, 1, 0x4, 0, 32, .ro⟩
  , ⟨0x2001C, 1, 0x4, 0, 32, .rw⟩
  , ⟨0x20020, 1, 0x4, 0, 16, .wt⟩
  , ⟨0x20024, 1, 0x4, 0, 32, .ro⟩
  , ⟨0x20028, 1, 0x4, 0, 16, .ro⟩
  , ⟨0x2002C, 1, 0x4, 0, 32, .rw⟩
  , ⟨0x20030, 1, 0x4, 0, 1, .wt⟩
  , ⟨0x20034, 1, 0x4, 0, 32, .ro⟩
  , ⟨0x20038, 1, 0x4, 0, 32, .ro⟩
  , ⟨0x2003C, 1, 0x4, 0, 16, .ro⟩
  , ⟨0x2003C, 1, 0x4, 16, 16, .ro⟩
  , ⟨0x20040, 1, 0x4, 0, 32, .ro⟩
  , ⟨0x20044, 1, 0x4, 0, 32, .ro⟩
  , ⟨0x20048, 1, 0x4, 0, 2, .wt⟩
  , ⟨0x2004C, 1, 0x4, 0, 32, .rw⟩
  , ⟨0x20050, 1, 0x4, 0, 3, .ro⟩
  , ⟨0x20054, 1, 0x4, 0, 32, .ro⟩
  , ⟨0x20058, 1, 0x4, 0, 32, .ro⟩
  , ⟨0x2005C, 1, 0x4, 0, 32, .ro⟩
  , ⟨0x20060, 1, 0x4, 0, 32, .ro⟩
  , ⟨0x20064, 1, 0x4, 0, 32, .rw⟩
  , ⟨0x20068, 1, 0x4, 0, 32, .rw⟩ ]

/-- Part 6 of `fieldRows`. -/
def fieldRows6 : List FieldRow :=
  [ ⟨0x2006C, 1, 0x4, 0, 3, .wt⟩
  , ⟨0x20070, 1, 0x4, 0, 1, .rw⟩
  , ⟨0x20070, 1, 0x4, 1, 1, .rw⟩
  , ⟨0x20074, 1, 0x4, 0, 32, .rw⟩
  , ⟨0x20078, 1, 0x4, 0, 16, .wt⟩
  , ⟨0x2007C, 1, 0x4, 0, 7, .ro⟩
  , ⟨0x2007C, 1, 0x4, 16, 16, .ro⟩
  , ⟨0x20080, 1, 0x4, 0, 1, .wt⟩
  , ⟨0x200A0, 8, 0x4, 0, 32, .ro⟩
  , ⟨0x20100, 8, 0x20, 0, 1, .rw⟩
  , ⟨0x20100, 8, 0x20, 1, 1, .ro⟩
  , ⟨0x20100, 8, 0x20, 2, 1, .ro⟩
  , ⟨0x20100, 8, 0x20, 8, 8, .rw⟩
  , ⟨0x20100, 8, 0x20, 16, 16, .rw⟩
  , ⟨0x20104, 8, 0x20, 0, 16, .rw⟩
  , ⟨0x20104, 8, 0x20, 16, 16, .rw⟩
  , ⟨0x20108, 8, 0x20, 0, 32, .ro⟩
  , ⟨0x2010C, 8, 0x20, 0, 32, .ro⟩
  , ⟨0x20110, 8, 0x20, 0, 32, .ro⟩
  , ⟨0x20114, 8, 0x20, 0, 16, .ro⟩
  , ⟨0x20114, 8, 0x20, 16, 16, .ro⟩
  , ⟨0x20118, 8, 0x20, 0, 4, .rw⟩
  , ⟨0x20200, 2, 0x10, 0, 32, .rw⟩
  , ⟨0x20204, 2, 0x10, 0, 32, .rw⟩
  , ⟨0x20208, 2, 0x10, 0, 32, .rw⟩
  , ⟨0x20400, 32, 0x20, 0, 1, .rw⟩
  , ⟨0x20400, 32, 0x20, 1, 3, .rw⟩
  , ⟨0x20400, 32, 0x20, 4, 5, .rw⟩
  , ⟨0x20400, 32, 0x20, 9, 1, .rw⟩
  , ⟨0x20400, 32, 0x20, 10, 1, .w1c⟩
  , ⟨0x20404, 32, 0x20, 0, 32, .rw⟩
  , ⟨0x20408, 32, 0x20, 0, 32, .rw⟩
  , ⟨0x2040C, 32, 0x20, 0, 16, .rw⟩
  , ⟨0x20410, 32, 0x20, 0, 32, .rw⟩
  , ⟨0x20414, 32, 0x20, 0, 32, .rw⟩
  , ⟨0x20418, 32, 0x20, 0, 32, .ro⟩
  , ⟨0x30000, 1, 0x4, 0, 1, .w1c⟩
  , ⟨0x30000, 1, 0x4, 1, 1, .w1c⟩
  , ⟨0x30000, 1, 0x4, 2, 1, .w1c⟩
  , ⟨0x30000, 1, 0x4, 3, 1, .w1c⟩ ]

/-- Part 7 of `fieldRows`. -/
def fieldRows7 : List FieldRow :=
  [ ⟨0x30000, 1, 0x4, 4, 1, .w1c⟩
  , ⟨0x30020, 1, 0x4, 0, 32, .ro⟩
  , ⟨0x30024, 1, 0x4, 0, 32, .ro⟩
  , ⟨0x30028, 1, 0x4, 0, 16, .ro⟩
  , ⟨0x3002C, 1, 0x4, 0, 16, .ro⟩
  , ⟨0x3002C, 1, 0x4, 16, 16, .ro⟩
  , ⟨0x30030, 1, 0x4, 0, 32, .ro⟩
  , ⟨0x30034, 1, 0x4, 0, 32, .ro⟩
  , ⟨0x30038, 1, 0x4, 0, 16, .ro⟩
  , ⟨0x3003C, 1, 0x4, 0, 16, .ro⟩
  , ⟨0x3003C, 1, 0x4, 16, 16, .ro⟩
  , ⟨0x30100, 32, 0x40, 0, 2, .rw⟩
  , ⟨0x30100, 32, 0x40, 2, 5, .rw⟩
  , ⟨0x30100, 32, 0x40, 7, 6, .rw⟩
  , ⟨0x30100, 32, 0x40, 13, 2, .rw⟩
  , ⟨0x30100, 32, 0x40, 15, 1, .rw⟩
  , ⟨0x30100, 32, 0x40, 16, 1, .rw⟩
  , ⟨0x30100, 32, 0x40, 17, 1, .rw⟩
  , ⟨0x30100, 32, 0x40, 18, 1, .rw⟩
  , ⟨0x30100, 32, 0x40, 19, 1, .rw⟩
  , ⟨0x30100, 32, 0x40, 20, 1, .rw⟩
  , ⟨0x30104, 32, 0x40, 0, 32, .rw⟩
  , ⟨0x30108, 32, 0x40, 0, 12, .rw⟩
  , ⟨0x30108, 32, 0x40, 16, 11, .rw⟩
  , ⟨0x3010C, 32, 0x40, 0, 1, .rw⟩
  , ⟨0x3010C, 32, 0x40, 1, 1, .wt⟩
  , ⟨0x30110, 32, 0x40, 0, 32, .ro⟩
  , ⟨0x30114, 32, 0x40, 0, 32, .ro⟩
  , ⟨0x30118, 32, 0x40, 0, 32, .ro⟩
  , ⟨0x3011C, 32, 0x40, 0, 32, .ro⟩
  , ⟨0x30120, 32, 0x40, 0, 1, .ro⟩
  , ⟨0x30120, 32, 0x40, 1, 1, .ro⟩
  , ⟨0x30120, 32, 0x40, 8, 1, .w1c⟩
  , ⟨0x30120, 32, 0x40, 9, 1, .w1c⟩
  , ⟨0x30120, 32, 0x40, 10, 1, .w1c⟩
  , ⟨0x30120, 32, 0x40, 11, 1, .w1c⟩
  , ⟨0x30120, 32, 0x40, 16, 12, .ro⟩
  , ⟨0x30124, 32, 0x40, 0, 32, .ro⟩
  , ⟨0x30128, 32, 0x40, 0, 32, .ro⟩
  , ⟨0x3012C, 32, 0x40, 0, 32, .ro⟩ ]

/-- Part 8 of `fieldRows`. -/
def fieldRows8 : List FieldRow :=
  [ ⟨0x30130, 32, 0x40, 0, 32, .ro⟩
  , ⟨0x30134, 32, 0x40, 0, 16, .ro⟩
  , ⟨0x30134, 32, 0x40, 16, 16, .ro⟩
  , ⟨0x30138, 32, 0x40, 0, 32, .ro⟩
  , ⟨0x3013C, 32, 0x40, 0, 16, .ro⟩
  , ⟨0x3013C, 32, 0x40, 16, 16, .ro⟩
  , ⟨0x30900, 1, 0x4, 0, 1, .rw⟩
  , ⟨0x30900, 1, 0x4, 1, 1, .rw⟩
  , ⟨0x30900, 1, 0x4, 2, 1, .rw⟩
  , ⟨0x30900, 1, 0x4, 3, 1, .rw⟩
  , ⟨0x30900, 1, 0x4, 4, 8, .rw⟩
  , ⟨0x30904, 1, 0x4, 0, 1, .ro⟩
  , ⟨0x30904, 1, 0x4, 8, 1, .w1c⟩
  , ⟨0x30904, 1, 0x4, 16, 16, .ro⟩
  , ⟨0x30910, 1, 0x4, 0, 3, .rw⟩
  , ⟨0x30910, 1, 0x4, 3, 1, .rw⟩
  , ⟨0x30910, 1, 0x4, 4, 11, .rw⟩
  , ⟨0x30910, 1, 0x4, 16, 1, .ro⟩
  , ⟨0x30908, 1, 0x4, 0, 32, .ro⟩
  , ⟨0x30920, 1, 0x4, 0, 16, .rw⟩
  , ⟨0x30924, 1, 0x4, 0, 16, .rw⟩
  , ⟨0x30928, 1, 0x4, 0, 16, .ro⟩
  , ⟨0x3092C, 1, 0x4, 0, 32, .rw⟩
  , ⟨0x30930, 1, 0x4, 0, 32, .rw⟩
  , ⟨0x31000, 128, 0x8, 0, 1, .rw⟩
  , ⟨0x31000, 128, 0x8, 1, 1, .rw⟩
  , ⟨0x31000, 128, 0x8, 2, 4, .rw⟩
  , ⟨0x31000, 128, 0x8, 6, 5, .rw⟩
  , ⟨0x31000, 128, 0x8, 16, 1, .ro⟩
  , ⟨0x31000, 128, 0x8, 17, 1, .w1c⟩
  , ⟨0x31004, 128, 0x8, 0, 32, .ro⟩
  , ⟨0x40000, 1, 0x4, 0, 1, .w1c⟩
  , ⟨0x40000, 1, 0x4, 1, 1, .w1c⟩
  , ⟨0x40000, 1, 0x4, 2, 1, .w1c⟩
  , ⟨0x40000, 1, 0x4, 3, 1, .w1c⟩
  , ⟨0x40000, 1, 0x4, 4, 1, .w1c⟩
  , ⟨0x40000, 1, 0x4, 5, 1, .w1c⟩
  , ⟨0x50000, 1, 0x4, 0, 1, .w1c⟩
  , ⟨0x50000, 1, 0x4, 1, 1, .w1c⟩
  , ⟨0x50000, 1, 0x4, 2, 1, .w1c⟩ ]

/-- Part 9 of `fieldRows`. -/
def fieldRows9 : List FieldRow :=
  [ ⟨0x50000, 1, 0x4, 3, 1, .w1c⟩
  , ⟨0x50000, 1, 0x4, 4, 1, .w1c⟩
  , ⟨0x50000, 1, 0x4, 5, 1, .w1c⟩
  , ⟨0x40020, 1, 0x4, 0, 32, .ro⟩
  , ⟨0x40024, 1, 0x4, 0, 32, .ro⟩
  , ⟨0x40028, 1, 0x4, 0, 16, .ro⟩
  , ⟨0x4002C, 1, 0x4, 0, 16, .ro⟩
  , ⟨0x4002C, 1, 0x4, 16, 16, .ro⟩
  , ⟨0x40030, 1, 0x4, 0, 32, .ro⟩
  , ⟨0x40034, 1, 0x4, 0, 32, .ro⟩
  , ⟨0x40038, 1, 0x4, 0, 16, .ro⟩
  , ⟨0x4003C, 1, 0x4, 0, 16, .ro⟩
  , ⟨0x4003C, 1, 0x4, 16, 16, .ro⟩
  , ⟨0x50020, 1, 0x4, 0, 32, .ro⟩
  , ⟨0x50024, 1, 0x4, 0, 32, .ro⟩
  , ⟨0x50028, 1, 0x4, 0, 16, .ro⟩
  , ⟨0x5002C, 1, 0x4, 0, 16, .ro⟩
  , ⟨0x5002C, 1, 0x4, 16, 16, .ro⟩
  , ⟨0x50030, 1, 0x4, 0, 32, .ro⟩
  , ⟨0x50034, 1, 0x4, 0, 32, .ro⟩
  , ⟨0x50038, 1, 0x4, 0, 16, .ro⟩
  , ⟨0x5003C, 1, 0x4, 0, 16, .ro⟩
  , ⟨0x5003C, 1, 0x4, 16, 16, .ro⟩
  , ⟨0x40100, 2, 0x20, 0, 1, .ro⟩
  , ⟨0x40100, 2, 0x20, 1, 2, .ro⟩
  , ⟨0x40100, 2, 0x20, 3, 1, .ro⟩
  , ⟨0x40100, 2, 0x20, 8, 8, .ro⟩
  , ⟨0x40104, 2, 0x20, 0, 32, .ro⟩
  , ⟨0x40108, 2, 0x20, 0, 32, .ro⟩
  , ⟨0x4010C, 2, 0x20, 0, 32, .ro⟩
  , ⟨0x40110, 2, 0x20, 0, 32, .ro⟩
  , ⟨0x40114, 2, 0x20, 0, 32, .ro⟩
  , ⟨0x50100, 4, 0x20, 0, 3, .ro⟩
  , ⟨0x50100, 4, 0x20, 3, 1, .ro⟩
  , ⟨0x50100, 4, 0x20, 4, 6, .ro⟩
  , ⟨0x50100, 4, 0x20, 10, 1, .ro⟩
  , ⟨0x50100, 4, 0x20, 11, 2, .ro⟩
  , ⟨0x50100, 4, 0x20, 24, 8, .ro⟩
  , ⟨0x50104, 4, 0x20, 0, 16, .ro⟩
  , ⟨0x50104, 4, 0x20, 16, 16, .ro⟩ ]

/-- Part 10 of `fieldRows`. -/
def fieldRows10 : List FieldRow :=
  [ ⟨0x50108, 4, 0x20, 0, 32, .ro⟩
  , ⟨0x5010C, 4, 0x20, 0, 32, .rw⟩
  , ⟨0x50110, 4, 0x20, 0, 32, .ro⟩
  , ⟨0x50114, 4, 0x20, 0, 32, .ro⟩
  , ⟨0x60000, 1, 0x4, 0, 1, .rw⟩
  , ⟨0x60000, 1, 0x4, 1, 1, .rw⟩
  , ⟨0x60000, 1, 0x4, 2, 1, .rw⟩
  , ⟨0x60000, 1, 0x4, 8, 7, .rw⟩
  , ⟨0x60004, 1, 0x4, 0, 1, .wt⟩
  , ⟨0x60004, 1, 0x4, 31, 1, .ro⟩
  , ⟨0x60008, 1, 0x4, 0, 1, .ro⟩
  , ⟨0x60008, 1, 0x4, 1, 1, .ro⟩
  , ⟨0x60008, 1, 0x4, 2, 1, .ro⟩
  , ⟨0x60008, 1, 0x4, 3, 1, .ro⟩
  , ⟨0x60008, 1, 0x4, 4, 1, .ro⟩
  , ⟨0x60008, 1, 0x4, 5, 1, .ro⟩
  , ⟨0x60008, 1, 0x4, 6, 1, .ro⟩
  , ⟨0x60008, 1, 0x4, 8, 4, .ro⟩
  , ⟨0x60008, 1, 0x4, 16, 1, .w1c⟩
  , ⟨0x60008, 1, 0x4, 17, 1, .w1c⟩
  , ⟨0x60008, 1, 0x4, 18, 1, .w1c⟩
  , ⟨0x60008, 1, 0x4, 19, 1, .w1c⟩
  , ⟨0x60008, 1, 0x4, 20, 1, .w1c⟩
  , ⟨0x60008, 1, 0x4, 21, 1, .w1c⟩
  , ⟨0x60008, 1, 0x4, 22, 1, .w1c⟩
  , ⟨0x60008, 1, 0x4, 23, 1, .w1c⟩
  , ⟨0x60008, 1, 0x4, 24, 1, .w1c⟩
  , ⟨0x60008, 1, 0x4, 25, 1, .w1c⟩
  , ⟨0x6000C, 1, 0x4, 0, 32, .ro⟩
  , ⟨0x60010, 1, 0x4, 0, 32, .ro⟩
  , ⟨0x6001C, 1, 0x4, 0, 32, .ro⟩
  , ⟨0x60020, 1, 0x4, 0, 32, .ro⟩
  , ⟨0x60024, 1, 0x4, 0, 32, .ro⟩
  , ⟨0x60030, 1, 0x4, 0, 32, .ro⟩
  , ⟨0x60034, 1, 0x4, 0, 32, .ro⟩
  , ⟨0x60048, 1, 0x4, 0, 32, .ro⟩
  , ⟨0x6004C, 1, 0x4, 0, 32, .ro⟩
  , ⟨0x60050, 1, 0x4, 0, 32, .ro⟩
  , ⟨0x60014, 1, 0x4, 0, 16, .ro⟩
  , ⟨0x60018, 1, 0x4, 0, 16, .ro⟩ ]

/-- Part 11 of `fieldRows`. -/
def fieldRows11 : List FieldRow :=
  [ ⟨0x60028, 1, 0x4, 0, 8, .ro⟩
  , ⟨0x60028, 1, 0x4, 8, 8, .ro⟩
  , ⟨0x6002C, 1, 0x4, 0, 2, .ro⟩
  , ⟨0x6002C, 1, 0x4, 16, 16, .ro⟩
  , ⟨0x60038, 1, 0x4, 0, 16, .ro⟩
  , ⟨0x60038, 1, 0x4, 16, 2, .ro⟩
  , ⟨0x60038, 1, 0x4, 18, 3, .ro⟩
  , ⟨0x6003C, 1, 0x4, 0, 16, .ro⟩
  , ⟨0x60040, 1, 0x4, 0, 4, .ro⟩
  , ⟨0x60040, 1, 0x4, 4, 1, .rw⟩
  , ⟨0x60040, 1, 0x4, 8, 4, .rw⟩
  , ⟨0x60040, 1, 0x4, 16, 8, .ro⟩
  , ⟨0x60040, 1, 0x4, 24, 4, .ro⟩
  , ⟨0x60044, 1, 0x4, 0, 20, .ro⟩
  , ⟨0x70000, 1, 0x4, 0, 4, .ro⟩
  , ⟨0x70000, 1, 0x4, 4, 1, .ro⟩
  , ⟨0x70000, 1, 0x4, 8, 1, .w1c⟩
  , ⟨0x70000, 1, 0x4, 9, 1, .w1c⟩
  , ⟨0x70000, 1, 0x4, 10, 1, .w1c⟩
  , ⟨0x70000, 1, 0x4, 11, 1, .w1c⟩
  , ⟨0x70000, 1, 0x4, 16, 4, .ro⟩
  , ⟨0x70008, 1, 0x4, 0, 32, .ro⟩
  , ⟨0x7000C, 1, 0x4, 0, 8, .rw⟩
  , ⟨0x70010, 1, 0x4, 0, 32, .ro⟩
  , ⟨0x70014, 1, 0x4, 0, 32, .ro⟩
  , ⟨0x70018, 1, 0x4, 0, 32, .ro⟩
  , ⟨0x7001C, 1, 0x4, 0, 32, .ro⟩
  , ⟨0x70020, 1, 0x4, 0, 8, .ro⟩
  , ⟨0x70024, 1, 0x4, 0, 16, .ro⟩
  , ⟨0x70100, 8, 0x20, 0, 32, .ro⟩
  , ⟨0x70104, 8, 0x20, 0, 32, .ro⟩
  , ⟨0x70108, 8, 0x20, 0, 32, .ro⟩
  , ⟨0x7010C, 8, 0x20, 0, 32, .ro⟩
  , ⟨0x70110, 8, 0x20, 0, 8, .ro⟩
  , ⟨0x70110, 8, 0x20, 8, 4, .ro⟩
  , ⟨0x70110, 8, 0x20, 12, 1, .ro⟩
  , ⟨0x70110, 8, 0x20, 13, 1, .ro⟩
  , ⟨0x70110, 8, 0x20, 16, 7, .ro⟩
  , ⟨0x70110, 8, 0x20, 24, 3, .ro⟩
  , ⟨0x70200, 16, 0x20, 0, 32, .ro⟩ ]

/-- Part 12 of `fieldRows`. -/
def fieldRows12 : List FieldRow :=
  [ ⟨0x70204, 16, 0x20, 0, 32, .ro⟩
  , ⟨0x70208, 16, 0x20, 0, 32, .ro⟩
  , ⟨0x7020C, 16, 0x20, 0, 32, .ro⟩
  , ⟨0x70210, 16, 0x20, 0, 8, .ro⟩
  , ⟨0x70210, 16, 0x20, 8, 1, .ro⟩
  , ⟨0x70210, 16, 0x20, 9, 1, .ro⟩
  , ⟨0x70214, 16, 0x20, 0, 32, .ro⟩
  , ⟨0x70218, 16, 0x20, 0, 8, .ro⟩
  , ⟨0x71000, 128, 0x20, 0, 3, .ro⟩
  , ⟨0x71000, 128, 0x20, 3, 3, .rw⟩
  , ⟨0x71000, 128, 0x20, 6, 1, .rw⟩
  , ⟨0x71000, 128, 0x20, 7, 1, .rw⟩
  , ⟨0x71000, 128, 0x20, 8, 4, .rw⟩
  , ⟨0x71000, 128, 0x20, 12, 2, .rw⟩
  , ⟨0x71000, 128, 0x20, 14, 1, .rw⟩
  , ⟨0x71000, 128, 0x20, 16, 8, .rw⟩
  , ⟨0x71004, 128, 0x20, 0, 32, .rw⟩
  , ⟨0x71008, 128, 0x20, 0, 32, .rw⟩
  , ⟨0x7100C, 128, 0x20, 0, 17, .ro⟩
  , ⟨0x71010, 128, 0x20, 0, 32, .rw⟩
  , ⟨0x71014, 128, 0x20, 0, 8, .rw⟩
  , ⟨0x71014, 128, 0x20, 16, 16, .ro⟩
  , ⟨0x71018, 128, 0x20, 0, 16, .rw⟩
  , ⟨0x71018, 128, 0x20, 16, 2, .rw⟩
  , ⟨0x71018, 128, 0x20, 18, 3, .rw⟩
  , ⟨0x7101C, 128, 0x20, 0, 32, .ro⟩
  , ⟨0x80000, 1, 0x4, 0, 1, .rw⟩
  , ⟨0x80004, 1, 0x4, 0, 1, .ro⟩
  , ⟨0x80004, 1, 0x4, 1, 1, .ro⟩
  , ⟨0x80004, 1, 0x4, 2, 1, .ro⟩
  , ⟨0x80004, 1, 0x4, 3, 1, .ro⟩
  , ⟨0x80004, 1, 0x4, 8, 1, .w1c⟩
  , ⟨0x80004, 1, 0x4, 9, 1, .w1c⟩
  , ⟨0x80004, 1, 0x4, 10, 1, .w1c⟩
  , ⟨0x80004, 1, 0x4, 11, 1, .w1c⟩
  , ⟨0x80004, 1, 0x4, 16, 6, .ro⟩
  , ⟨0x80008, 1, 0x4, 0, 16, .ro⟩
  , ⟨0x8000C, 1, 0x4, 0, 16, .ro⟩
  , ⟨0x80010, 1, 0x4, 0, 10, .ro⟩
  , ⟨0x80010, 1, 0x4, 30, 1, .ro⟩ ]

/-- Part 13 of `fieldRows`. -/
def fieldRows13 : List FieldRow :=
  [ ⟨0x80010, 1, 0x4, 31, 1, .ro⟩
  , ⟨0x80014, 1, 0x4, 0, 32, .ro⟩
  , ⟨0x80018, 1, 0x4, 0, 32, .ro⟩
  , ⟨0x80020, 1, 0x4, 0, 32, .ro⟩
  , ⟨0x80024, 1, 0x4, 0, 32, .ro⟩
  , ⟨0x8001C, 1, 0x4, 0, 16, .ro⟩
  , ⟨0x80028, 1, 0x4, 0, 16, .ro⟩
  , ⟨0x8002C, 1, 0x4, 0, 16, .ro⟩
  , ⟨0x8002C, 1, 0x4, 16, 16, .ro⟩
  , ⟨0x80080, 32, 0x4, 0, 32, .w1c⟩
  , ⟨0x80100, 16, 0x10, 0, 16, .rw⟩
  , ⟨0x80100, 16, 0x10, 16, 2, .rw⟩
  , ⟨0x80200, 32, 0x10, 0, 16, .ro⟩
  , ⟨0x80200, 32, 0x10, 16, 2, .ro⟩
  , ⟨0x80200, 32, 0x10, 31, 1, .ro⟩
  , ⟨0x80204, 32, 0x10, 0, 16, .ro⟩
  , ⟨0x80204, 32, 0x10, 16, 16, .ro⟩
  , ⟨0x80208, 32, 0x10, 0, 11, .ro⟩
  , ⟨0x8020C, 32, 0x10, 0, 24, .ro⟩
  , ⟨0x81000, 512, 0x4, 0, 32, .rw⟩
  , ⟨0x82000, 1024, 0x4, 0, 2, .ro⟩
  , ⟨0x82000, 1024, 0x4, 2, 2, .ro⟩
  , ⟨0x82000, 1024, 0x4, 4, 2, .ro⟩
  , ⟨0x82000, 1024, 0x4, 6, 1, .ro⟩
  , ⟨0x82000, 1024, 0x4, 7, 5, .ro⟩
  , ⟨0x90000, 1, 0x4, 0, 1, .rw⟩
  , ⟨0x90004, 1, 0x4, 0, 1, .ro⟩
  , ⟨0x90004, 1, 0x4, 1, 1, .ro⟩
  , ⟨0x90004, 1, 0x4, 8, 1, .w1c⟩
  , ⟨0x90004, 1, 0x4, 9, 1, .w1c⟩
  , ⟨0x90004, 1, 0x4, 10, 1, .w1c⟩
  , ⟨0x90004, 1, 0x4, 11, 1, .w1c⟩
  , ⟨0x90004, 1, 0x4, 12, 1, .w1c⟩
  , ⟨0x90004, 1, 0x4, 13, 1, .w1c⟩
  , ⟨0x90008, 1, 0x4, 0, 32, .ro⟩
  , ⟨0x9000C, 1, 0x4, 0, 32, .ro⟩
  , ⟨0x90010, 1, 0x4, 0, 16, .ro⟩
  , ⟨0x90010, 1, 0x4, 16, 16, .ro⟩
  , ⟨0x90020, 1, 0x4, 0, 32, .ro⟩
  , ⟨0x90024, 1, 0x4, 0, 32, .ro⟩ ]

/-- Part 14 of `fieldRows`. -/
def fieldRows14 : List FieldRow :=
  [ ⟨0x90028, 1, 0x4, 0, 16, .ro⟩
  , ⟨0x9002C, 1, 0x4, 0, 16, .ro⟩
  , ⟨0x9002C, 1, 0x4, 16, 16, .ro⟩
  , ⟨0x90030, 1, 0x4, 0, 32, .ro⟩
  , ⟨0x90034, 1, 0x4, 0, 32, .ro⟩
  , ⟨0x90038, 1, 0x4, 0, 16, .ro⟩
  , ⟨0x9003C, 1, 0x4, 0, 16, .ro⟩
  , ⟨0x9003C, 1, 0x4, 16, 16, .ro⟩
  , ⟨0x90100, 8, 0x20, 0, 1, .rw⟩
  , ⟨0x90100, 8, 0x20, 1, 2, .rw⟩
  , ⟨0x90104, 8, 0x20, 0, 18, .rw⟩
  , ⟨0x90108, 8, 0x20, 0, 12, .rw⟩
  , ⟨0x90108, 8, 0x20, 16, 13, .rw⟩
  , ⟨0x9010C, 8, 0x20, 0, 16, .ro⟩
  , ⟨0x90110, 8, 0x20, 0, 32, .ro⟩
  , ⟨0xA0000, 1, 0x4, 0, 1, .w1c⟩
  , ⟨0xA0000, 1, 0x4, 1, 1, .w1c⟩
  , ⟨0xA0000, 1, 0x4, 2, 1, .w1c⟩
  , ⟨0xA0000, 1, 0x4, 3, 1, .w1c⟩
  , ⟨0xA0000, 1, 0x4, 16, 8, .ro⟩
  , ⟨0xA0004, 1, 0x4, 0, 4, .ro⟩
  , ⟨0xA0004, 1, 0x4, 4, 5, .ro⟩
  , ⟨0xA0004, 1, 0x4, 9, 3, .ro⟩
  , ⟨0xA0004, 1, 0x4, 12, 1, .ro⟩
  , ⟨0xA0004, 1, 0x4, 31, 1, .ro⟩
  , ⟨0xA0008, 1, 0x4, 0, 32, .ro⟩
  , ⟨0xA000C, 1, 0x4, 0, 16, .ro⟩
  , ⟨0xA0100, 12, 0x10, 0, 5, .ro⟩
  , ⟨0xA0100, 12, 0x10, 8, 5, .ro⟩
  , ⟨0xA0100, 12, 0x10, 16, 5, .ro⟩
  , ⟨0xA0100, 12, 0x10, 24, 5, .ro⟩
  , ⟨0xA0104, 12, 0x10, 0, 32, .ro⟩
  , ⟨0xA0108, 12, 0x10, 0, 32, .ro⟩
  , ⟨0xB0000, 1, 0x4, 0, 1, .rw⟩
  , ⟨0xB0004, 1, 0x4, 0, 1, .ro⟩
  , ⟨0xB0004, 1, 0x4, 1, 1, .ro⟩
  , ⟨0xB0004, 1, 0x4, 4, 4, .ro⟩
  , ⟨0xB0004, 1, 0x4, 16, 1, .w1c⟩
  , ⟨0xB0004, 1, 0x4, 17, 1, .w1c⟩
  , ⟨0xB0004, 1, 0x4, 18, 1, .w1c⟩ ]

/-- Part 15 of `fieldRows`. -/
def fieldRows15 : List FieldRow :=
  [ ⟨0xB0008, 1, 0x4, 0, 32, .ro⟩
  , ⟨0xB000C, 1, 0x4, 0, 32, .ro⟩
  , ⟨0xB0010, 1, 0x4, 0, 16, .ro⟩
  , ⟨0xB0010, 1, 0x4, 16, 6, .ro⟩
  , ⟨0xB0010, 1, 0x4, 31, 1, .ro⟩
  , ⟨0xB0014, 1, 0x4, 0, 32, .ro⟩
  , ⟨0xB0018, 1, 0x4, 0, 32, .ro⟩
  , ⟨0xB001C, 1, 0x4, 0, 1, .ro⟩
  , ⟨0xB001C, 1, 0x4, 1, 3, .ro⟩
  , ⟨0xB001C, 1, 0x4, 4, 4, .ro⟩
  , ⟨0xB001C, 1, 0x4, 8, 4, .ro⟩
  , ⟨0xB001C, 1, 0x4, 31, 1, .ro⟩
  , ⟨0xB0020, 1, 0x4, 0, 4, .wt⟩
  , ⟨0xB0100, 16, 0x40, 0, 1, .rw⟩
  , ⟨0xB0100, 16, 0x40, 1, 1, .ro⟩
  , ⟨0xB0100, 16, 0x40, 2, 6, .rw⟩
  , ⟨0xB0100, 16, 0x40, 8, 1, .rw⟩
  , ⟨0xB0100, 16, 0x40, 9, 4, .rw⟩
  , ⟨0xB0104, 16, 0x40, 0, 32, .rw⟩
  , ⟨0xB0108, 16, 0x40, 0, 32, .rw⟩
  , ⟨0xB010C, 16, 0x40, 0, 32, .rw⟩
  , ⟨0xB0110, 16, 0x40, 0, 24, .rw⟩
  , ⟨0xB0114, 16, 0x40, 0, 1, .ro⟩
  , ⟨0xB0114, 16, 0x40, 1, 1, .ro⟩
  , ⟨0xB0114, 16, 0x40, 2, 1, .ro⟩
  , ⟨0xB0114, 16, 0x40, 3, 1, .ro⟩
  , ⟨0xB0114, 16, 0x40, 8, 1, .w1c⟩
  , ⟨0xB0114, 16, 0x40, 16, 16, .ro⟩
  , ⟨0xB0118, 16, 0x40, 0, 32, .ro⟩
  , ⟨0xB011C, 16, 0x40, 0, 32, .ro⟩
  , ⟨0xB0120, 16, 0x40, 0, 32, .rw⟩
  , ⟨0xB0124, 16, 0x40, 0, 32, .rw⟩
  , ⟨0xB0128, 16, 0x40, 0, 32, .rw⟩
  , ⟨0xB012C, 16, 0x40, 0, 32, .ro⟩
  , ⟨0xB0130, 16, 0x40, 0, 32, .rw⟩
  , ⟨0xB0134, 16, 0x40, 0, 32, .rw⟩
  , ⟨0xB0138, 16, 0x40, 0, 16, .rw⟩
  , ⟨0xB0138, 16, 0x40, 16, 16, .ro⟩
  , ⟨0xB013C, 16, 0x40, 0, 16, .rw⟩
  , ⟨0xC0000, 1, 0x4, 0, 1, .ro⟩ ]

/-- Part 16 of `fieldRows`. -/
def fieldRows16 : List FieldRow :=
  [ ⟨0xC0000, 1, 0x4, 1, 1, .ro⟩
  , ⟨0xC0000, 1, 0x4, 8, 1, .w1c⟩
  , ⟨0xC0000, 1, 0x4, 9, 1, .w1c⟩
  , ⟨0xC0004, 1, 0x4, 0, 6, .rw⟩
  , ⟨0xC0004, 1, 0x4, 6, 1, .rw⟩
  , ⟨0xC0004, 1, 0x4, 7, 1, .rw⟩
  , ⟨0xC0004, 1, 0x4, 8, 1, .rw⟩
  , ⟨0xC0004, 1, 0x4, 16, 1, .wt⟩
  , ⟨0xC0008, 1, 0x4, 0, 1, .ro⟩
  , ⟨0xC0008, 1, 0x4, 1, 2, .ro⟩
  , ⟨0xC0008, 1, 0x4, 8, 8, .ro⟩
  , ⟨0xC0008, 1, 0x4, 16, 10, .ro⟩
  , ⟨0xC0010, 1, 0x4, 0, 1, .ro⟩
  , ⟨0xC0010, 1, 0x4, 1, 1, .ro⟩
  , ⟨0xC0010, 1, 0x4, 2, 1, .ro⟩
  , ⟨0xC000C, 1, 0x4, 0, 10, .ro⟩
  , ⟨0xC000C, 1, 0x4, 10, 15, .ro⟩
  , ⟨0xC000C, 1, 0x4, 31, 1, .ro⟩
  , ⟨0xC0100, 52, 0x10, 0, 2, .rw⟩
  , ⟨0xC0100, 52, 0x10, 2, 2, .ro⟩
  , ⟨0xC0100, 52, 0x10, 4, 1, .ro⟩
  , ⟨0xC0100, 52, 0x10, 5, 1, .ro⟩
  , ⟨0xC0104, 52, 0x10, 0, 16, .ro⟩
  , ⟨0xC0104, 52, 0x10, 16, 16, .ro⟩
  , ⟨0xC0108, 52, 0x10, 0, 32, .ro⟩
  , ⟨0xC010C, 52, 0x10, 0, 1, .ro⟩
  , ⟨0xC010C, 52, 0x10, 1, 1, .ro⟩
  , ⟨0xC010C, 52, 0x10, 2, 1, .ro⟩
  , ⟨0xC1000, 649, 0x4, 0, 2, .ro⟩
  , ⟨0xC1000, 649, 0x4, 2, 1, .ro⟩
  , ⟨0xC1000, 649, 0x4, 3, 2, .ro⟩
  , ⟨0xC1000, 649, 0x4, 5, 1, .ro⟩
  , ⟨0xC1000, 649, 0x4, 6, 1, .ro⟩
  , ⟨0xC1000, 649, 0x4, 7, 1, .ro⟩
  , ⟨0x100000, 32, 0x10000, 0, 1, .rw⟩
  , ⟨0x100000, 32, 0x10000, 1, 1, .rw⟩
  , ⟨0x100000, 32, 0x10000, 2, 1, .wt⟩
  , ⟨0x100000, 32, 0x10000, 3, 1, .wt⟩
  , ⟨0x100000, 32, 0x10000, 4, 1, .wt⟩
  , ⟨0x100004, 32, 0x10000, 0, 1, .ro⟩ ]

/-- Part 17 of `fieldRows`. -/
def fieldRows17 : List FieldRow :=
  [ ⟨0x100004, 32, 0x10000, 1, 1, .ro⟩
  , ⟨0x100004, 32, 0x10000, 2, 1, .ro⟩
  , ⟨0x100004, 32, 0x10000, 3, 1, .ro⟩
  , ⟨0x100004, 32, 0x10000, 4, 1, .ro⟩
  , ⟨0x100004, 32, 0x10000, 8, 1, .w1c⟩
  , ⟨0x100004, 32, 0x10000, 9, 1, .w1c⟩
  , ⟨0x100004, 32, 0x10000, 10, 1, .w1c⟩
  , ⟨0x100004, 32, 0x10000, 11, 1, .w1c⟩
  , ⟨0x100008, 32, 0x10000, 0, 14, .rw⟩
  , ⟨0x10000C, 32, 0x10000, 0, 14, .rw⟩
  , ⟨0x100010, 32, 0x10000, 0, 14, .ro⟩
  , ⟨0x100014, 32, 0x10000, 0, 14, .rw⟩
  , ⟨0x100014, 32, 0x10000, 31, 1, .rw⟩
  , ⟨0x100018, 32, 0x10000, 0, 14, .ro⟩
  , ⟨0x100018, 32, 0x10000, 16, 4, .ro⟩
  , ⟨0x100018, 32, 0x10000, 30, 1, .ro⟩
  , ⟨0x100018, 32, 0x10000, 31, 1, .ro⟩
  , ⟨0x10001C, 32, 0x10000, 0, 16, .ro⟩
  , ⟨0x10001C, 32, 0x10000, 16, 16, .ro⟩
  , ⟨0x100020, 32, 0x10000, 0, 16, .ro⟩
  , ⟨0x100024, 32, 0x10000, 0, 16, .ro⟩
  , ⟨0x100028, 32, 0x10000, 0, 32, .ro⟩
  , ⟨0x10002C, 32, 0x10000, 0, 32, .ro⟩
  , ⟨0x100030, 32, 0x10000, 0, 16, .ro⟩
  , ⟨0x100034, 32, 0x10000, 0, 16, .ro⟩
  , ⟨0x100034, 32, 0x10000, 16, 16, .ro⟩
  , ⟨0x100038, 32, 0x10000, 0, 1, .ro⟩
  , ⟨0x100038, 32, 0x10000, 1, 1, .ro⟩
  , ⟨0x100038, 32, 0x10000, 16, 16, .ro⟩
  , ⟨0x100040, 32, 0x10000, 0, 13, .rw⟩
  , ⟨0x100040, 32, 0x10000, 16, 13, .rw⟩
  , ⟨0x100044, 32, 0x10000, 0, 2, .rw⟩
  , ⟨0x100044, 32, 0x10000, 2, 1, .ro⟩
  , ⟨0x100044, 32, 0x10000, 3, 1, .ro⟩
  , ⟨0x100044, 32, 0x10000, 4, 1, .ro⟩
  , ⟨0x100044, 32, 0x10000, 5, 1, .ro⟩
  , ⟨0x100044, 32, 0x10000, 16, 16, .ro⟩
  , ⟨0x100048, 32, 0x10000, 0, 13, .rw⟩
  , ⟨0x100048, 32, 0x10000, 16, 13, .rw⟩
  , ⟨0x10004C, 32, 0x10000, 0, 2, .rw⟩ ]

/-- Part 18 of `fieldRows`. -/
def fieldRows18 : List FieldRow :=
  [ ⟨0x10004C, 32, 0x10000, 2, 1, .ro⟩
  , ⟨0x10004C, 32, 0x10000, 3, 1, .ro⟩
  , ⟨0x10004C, 32, 0x10000, 4, 1, .ro⟩
  , ⟨0x10004C, 32, 0x10000, 5, 1, .ro⟩
  , ⟨0x10004C, 32, 0x10000, 16, 16, .ro⟩
  , ⟨0x100050, 32, 0x10000, 0, 13, .rw⟩
  , ⟨0x100050, 32, 0x10000, 16, 13, .rw⟩
  , ⟨0x100054, 32, 0x10000, 0, 2, .rw⟩
  , ⟨0x100054, 32, 0x10000, 2, 1, .ro⟩
  , ⟨0x100054, 32, 0x10000, 3, 1, .ro⟩
  , ⟨0x100054, 32, 0x10000, 4, 1, .ro⟩
  , ⟨0x100054, 32, 0x10000, 5, 1, .ro⟩
  , ⟨0x100054, 32, 0x10000, 16, 16, .ro⟩
  , ⟨0x100058, 32, 0x10000, 0, 13, .rw⟩
  , ⟨0x100058, 32, 0x10000, 16, 13, .rw⟩
  , ⟨0x10005C, 32, 0x10000, 0, 2, .rw⟩
  , ⟨0x10005C, 32, 0x10000, 2, 1, .ro⟩
  , ⟨0x10005C, 32, 0x10000, 3, 1, .ro⟩
  , ⟨0x10005C, 32, 0x10000, 4, 1, .ro⟩
  , ⟨0x10005C, 32, 0x10000, 5, 1, .ro⟩
  , ⟨0x10005C, 32, 0x10000, 16, 16, .ro⟩
  , ⟨0x100060, 32, 0x10000, 0, 13, .rw⟩
  , ⟨0x100060, 32, 0x10000, 16, 13, .rw⟩
  , ⟨0x100064, 32, 0x10000, 0, 2, .rw⟩
  , ⟨0x100064, 32, 0x10000, 2, 1, .ro⟩
  , ⟨0x100064, 32, 0x10000, 3, 1, .ro⟩
  , ⟨0x100064, 32, 0x10000, 4, 1, .ro⟩
  , ⟨0x100064, 32, 0x10000, 5, 1, .ro⟩
  , ⟨0x100064, 32, 0x10000, 16, 16, .ro⟩
  , ⟨0x100068, 32, 0x10000, 0, 13, .rw⟩
  , ⟨0x100068, 32, 0x10000, 16, 13, .rw⟩
  , ⟨0x10006C, 32, 0x10000, 0, 2, .rw⟩
  , ⟨0x10006C, 32, 0x10000, 2, 1, .ro⟩
  , ⟨0x10006C, 32, 0x10000, 3, 1, .ro⟩
  , ⟨0x10006C, 32, 0x10000, 4, 1, .ro⟩
  , ⟨0x10006C, 32, 0x10000, 5, 1, .ro⟩
  , ⟨0x10006C, 32, 0x10000, 16, 16, .ro⟩
  , ⟨0x100070, 32, 0x10000, 0, 13, .rw⟩
  , ⟨0x100070, 32, 0x10000, 16, 13, .rw⟩
  , ⟨0x100074, 32, 0x10000, 0, 2, .rw⟩ ]

/-- Part 19 of `fieldRows`. -/
def fieldRows19 : List FieldRow :=
  [ ⟨0x100074, 32, 0x10000, 2, 1, .ro⟩
  , ⟨0x100074, 32, 0x10000, 3, 1, .ro⟩
  , ⟨0x100074, 32, 0x10000, 4, 1, .ro⟩
  , ⟨0x100074, 32, 0x10000, 5, 1, .ro⟩
  , ⟨0x100074, 32, 0x10000, 16, 16, .ro⟩
  , ⟨0x100078, 32, 0x10000, 0, 13, .rw⟩
  , ⟨0x100078, 32, 0x10000, 16, 13, .rw⟩
  , ⟨0x10007C, 32, 0x10000, 0, 2, .rw⟩
  , ⟨0x10007C, 32, 0x10000, 2, 1, .ro⟩
  , ⟨0x10007C, 32, 0x10000, 3, 1, .ro⟩
  , ⟨0x10007C, 32, 0x10000, 4, 1, .ro⟩
  , ⟨0x10007C, 32, 0x10000, 5, 1, .ro⟩
  , ⟨0x10007C, 32, 0x10000, 16, 16, .ro⟩ ]

/-- Every field of the register tables, in the order of the spec's chapters. -/
def fieldRows : List FieldRow :=
  fieldRows0 ++ fieldRows1 ++ fieldRows2 ++ fieldRows3 ++ fieldRows4 ++ fieldRows5 ++ fieldRows6 ++ fieldRows7 ++ fieldRows8 ++ fieldRows9 ++ fieldRows10 ++ fieldRows11 ++ fieldRows12 ++ fieldRows13 ++ fieldRows14 ++ fieldRows15 ++ fieldRows16 ++ fieldRows17 ++ fieldRows18 ++ fieldRows19

/-- Part 0 of `resetRows`. -/
def resetRows0 : List (FieldRow × Nat) :=
  [ (⟨0x1000000, 1, 0x4, 16, 16, .ro⟩, 8264)
  , (⟨0x1000000, 1, 0x4, 8, 8, .ro⟩, 2)
  , (⟨0x1010000, 1, 0x4, 0, 2, .ro⟩, 3)
  , (⟨0x1010010, 1, 0x4, 0, 2, .ro⟩, 3)
  , (⟨0x1010010, 1, 0x4, 2, 2, .ro⟩, 3)
  , (⟨0x1050004, 1, 0x4, 0, 4, .rw⟩, 3)
  , (⟨0x0, 1, 0x4, 4, 4, .ro⟩, 1)
  , (⟨0x10, 1, 0x4, 0, 1, .ro⟩, 1)
  , (⟨0x18, 1, 0x4, 4, 4, .ro⟩, 15)
  , (⟨0x18, 1, 0x4, 8, 4, .ro⟩, 15)
  , (⟨0x18, 1, 0x4, 12, 1, .ro⟩, 1)
  , (⟨0x1C, 1, 0x4, 0, 8, .rw⟩, 10)
  , (⟨0x10020, 1, 0x4, 0, 5, .rw⟩, 24)
  , (⟨0x10034, 1, 0x4, 0, 2, .rw⟩, 3)
  , (⟨0x10034, 1, 0x4, 5, 4, .rw⟩, 15)
  , (⟨0x10044, 1, 0x4, 0, 2, .ro⟩, 3)
  , (⟨0x10044, 1, 0x4, 5, 4, .ro⟩, 15)
  , (⟨0x20000, 1, 0x4, 1, 1, .rw⟩, 1)
  , (⟨0x20000, 1, 0x4, 4, 3, .rw⟩, 2)
  , (⟨0x20000, 1, 0x4, 8, 7, .rw⟩, 10)
  , (⟨0x20000, 1, 0x4, 16, 16, .rw⟩, 500)
  , (⟨0x2000C, 1, 0x4, 0, 16, .rw⟩, 5000)
  , (⟨0x2000C, 1, 0x4, 16, 8, .rw⟩, 30)
  , (⟨0x20010, 1, 0x4, 0, 16, .rw⟩, 100)
  , (⟨0x20100, 8, 0x20, 8, 8, .rw⟩, 255)
  , (⟨0x20100, 8, 0x20, 16, 16, .rw⟩, 32768)
  , (⟨0x20104, 8, 0x20, 0, 16, .rw⟩, 1000)
  , (⟨0x20104, 8, 0x20, 16, 16, .rw⟩, 2000)
  , (⟨0x30100, 32, 0x40, 0, 2, .rw⟩, 2)
  , (⟨0x30100, 32, 0x40, 2, 5, .rw⟩, 1)
  , (⟨0x30108, 32, 0x40, 0, 12, .rw⟩, 256)
  , (⟨0x30108, 32, 0x40, 16, 11, .rw⟩, 64)
  , (⟨0x30910, 1, 0x4, 0, 3, .rw⟩, 1)
  , (⟨0x60000, 1, 0x4, 2, 1, .rw⟩, 1)
  , (⟨0x60000, 1, 0x4, 8, 7, .rw⟩, 8)
  , (⟨0x6002C, 1, 0x4, 0, 2, .ro⟩, 3)
  , (⟨0x60040, 1, 0x4, 8, 4, .rw⟩, 4)
  , (⟨0x70008, 1, 0x4, 0, 32, .ro⟩, 1)
  , (⟨0x7000C, 1, 0x4, 0, 8, .rw⟩, 4)
  , (⟨0x82000, 1024, 0x4, 2, 2, .ro⟩, 1) ]

/-- Part 1 of `resetRows`. -/
def resetRows1 : List (FieldRow × Nat) :=
  [ (⟨0x82000, 1024, 0x4, 4, 2, .ro⟩, 2)
  , (⟨0xB0100, 16, 0x40, 9, 4, .rw⟩, 15)
  , (⟨0xB0138, 16, 0x40, 0, 16, .rw⟩, 1)
  , (⟨0xC0010, 1, 0x4, 0, 1, .ro⟩, 1) ]

/-- The fields whose Reset column gives a value other than zero, with that value. -/
def resetRows : List (FieldRow × Nat) :=
  resetRows0 ++ resetRows1

/-- The value a field has at reset: the Reset column of its table, zero where the column gives none (log entry 2). -/
def resetOf (key : Nat) : Nat :=
  match resetRows.find? (fun p => p.1.hits (key / 32) && decide (p.1.lo = key % 32)) with
  | some p => p.2
  | none => 0

/-- A register store: field values by bit address, the reset value where nothing is listed. -/
abbrev Regs := Sparse Nat

/-- The value of a field, which its length bounds. -/
def Regs.get (m : Regs) (f : Fld) : Nat := Sparse.get resetOf m f.key % 2 ^ f.len

/-- Writes a field, cut to its length. -/
def Regs.set (m : Regs) (f : Fld) (v : Nat) : Regs := Sparse.set resetOf m f.key (v % 2 ^ f.len)

/-- The fields of the register at `off`; none where no register is mapped. -/
def fieldsAt (off : Nat) : List FieldRow := fieldRows.filter (fun r => r.hits off)

end Sys2Proof.Machine
end

