-- ==== Sys2Proof/Machine/State.lean ====
section
/-!
DEFINITION. The state of the block, as plain data, and the state right after reset. It holds every register, memory, queue,
mode and pin of the two Sides and of the host region, and the queue of commands that wait. Register fields stand in two
`Regs` stores keyed by the spec's register map; what the spec describes as a queue, a list or a set of lanes stands in a
typed home of its own, and the register map's words over it are formed when they are read.
-/
namespace Sys2Proof.Machine

open Sys2Proof

/-- Why the block stops with a fault: for no reason. Every command of the spec has an effect or none, and no command raises a
fault; the type has no constructor. -/
inductive Fault where
  deriving DecidableEq, Repr

/-- Why the block refuses a command. -/
inductive Refusal where
  /-- Raised by `exec` for a command without a meaning yet. Safe: nothing can be proved of the command. -/
  | notModelled (mnemonic : String)
  deriving DecidableEq, Repr

/-- Side modes (Table AR-9). -/
inductive Mode where
  | dark | reset | frog | swatch | castOn | ready | solo | lead | follow | rework | coast | halt
  deriving DecidableEq, Repr

/-- The code of a mode (Table AR-9). -/
def Mode.code : Mode → Nat
  | .dark => 0
  | .reset => 1
  | .frog => 2
  | .swatch => 3
  | .castOn => 4
  | .ready => 5
  | .solo => 6
  | .lead => 7
  | .follow => 8
  | .rework => 9
  | .coast => 10
  | .halt => 11

/-! ### Collectors -/

/-- One Collector source (Table HP-7); `cnt` counts its triggers in the current 1 ms window (R399). `pend` is the latched
bit of the edge senses; a level sense's PEND is a condition and is formed when it is read (R394). -/
structure ColSrc where
  prio : Nat
  sense : Nat
  maxrate : Nat
  coal : Nat
  pend : Bool
  insvc : Bool
  raw : Bool
  storm : Bool
  cnt : Nat
  deriving DecidableEq, Repr

/-- A Collector: its sources, the running priority, its stack (saved priority and source, top first), its sticky errors,
REQ as it stands. -/
structure Collector where
  srcs : Sparse ColSrc
  rp : Nat
  stack : List (Nat × Nat)
  stackErr : Bool
  eoiMismatch : Bool
  req : Bool
  deriving DecidableEq, Repr

/-! ### Messages -/

/-- An Ibelle message as its header and payload give it (Table IB-1); `crc` is the header's CRC field. -/
structure Msg where
  version : Nat
  cls : Nat
  op : Nat
  seq : Nat
  devid : Nat
  sel : Nat
  flags : Nat
  len : Nat
  session : Nat
  status : Nat
  crc : Nat
  payload : List Byte
  deriving DecidableEq, Repr

/-- Where the relay takes a message it holds (R387, R388): an inbound ring, both inbound rings, the returning outbound
ring, or the route of a device. -/
inductive RelayDest where
  | inbound (sd : SideId)
  | twinInbound
  | outbound
  | route (dev : Nat)
  deriving DecidableEq, Repr

/-- A message the relay holds: where it goes, its bytes, the device it comes from with its Side select and MSG_ID (R366), and
the link whose cells carry it while they are unacknowledged. -/
structure HeldMsg where
  dest : RelayDest
  bytes : List Byte
  src : Nat
  sel : Nat
  id : Nat
  via : Option (SideId × Nat)
  deriving DecidableEq, Repr

/-! ### Stitch cores -/

/-- A loop: the first address of its body, its end address and its count (R117). The start is that of R78's end test, where issue goes
for another pass; the spec does not say whether a snapshot shows it or the address of LOOP (DEDUCED, log entry 132). -/
structure LoopEntry where
  start : BitVec 14
  stop : BitVec 14
  count : BitVec 16
  deriving DecidableEq, Repr

/-- A register's four lanes. -/
abbrev Lanes (α : Type) := Vector α 4

/-- The architectural registers of a core (Table SK-4). The lane flags are bits 0 to 3 of their fields (Table SK-5);
LDEPTH is the number of active loops, CBANK is SK_CBANK.ACTIVE. `inner` is the innermost active loop, whose count is LC. -/
structure StitchRegs where
  v : Vector (Lanes (BitVec 24)) 8
  a : Vector (Lanes (BitVec 56)) 4
  p : Vector (BitVec 16) 8
  m : Vector (BitVec 16) 8
  l : Vector (BitVec 14) 8
  lc : BitVec 16
  inner : Option (BitVec 14 × BitVec 14)
  stack : List LoopEntry
  ovf : BitVec 4
  sat : BitVec 4
  z : BitVec 4
  n : BitVec 4
  loopErr : Bool
  deriving DecidableEq, Repr

/-- One access of a core's far queue (R82, R83). A discarded access touches no memory and loads zero. -/
structure FarAcc where
  load : Bool
  dr : Fin 8
  le : Fin 16
  bank : Nat
  addr : Nat
  data : Lanes (BitVec 24)
  discarded : Bool
  deriving DecidableEq, Repr

/-- A Stitch core: registers, its next instruction's address, the last issued (SK_PC), the snapshot of the last EOR with
its row tag and ST.CBANK as it then stood (R94), the status bits of SK_STAT, the regions that the next instruction waits for (R88), the far
queue, and the words the fabric wrote during a C refill (R85). -/
structure Core where
  r : StitchRegs
  pc : BitVec 14
  lastPc : BitVec 14
  snap : StitchRegs
  snapRow : Nat
  snapBank : Nat
  inRow : Bool
  done : Bool
  firstRow : Bool
  eorIssued : Bool
  halted : Bool
  brkPass : Bool
  stallOn : List Nat
  farWait : Bool
  refill : Bool
  refillWritten : List Nat
  far : List FarAcc
  deriving DecidableEq, Repr

/-! ### Firmware -/

/-- A message the firmware has made and not yet placed in its outbound ring; a reply to a relayed request goes back to the device
that sent it (R367), and the reply of SYS RESET_SIDE brings a Side's reset once it is in the ring (Table PW-3). -/
structure OutMsg where
  event : Bool
  msg : Msg
  via : Option Nat := none
  reset : Option SideId := none
  deriving DecidableEq, Repr

/-- A shadow write that firmware holds (R174, R411): it is carried out once the boundary of every Take in `after` has
passed. `take` is the Take that it belongs to, 0 for the next one accepted; a Take that comes to be due before that one joins `after`. `addr` is the address of a 32-bit word in the Side's memory space, a register's among them, and `value` its new contents. -/
structure HeldWrite where
  after : List Nat
  take : Nat
  addr : Nat
  value : Nat
  deriving DecidableEq, Repr

/-- An image being loaded (PAT BEGIN to PAT END). -/
structure ImageLoad where
  kind : Nat
  src : Nat
  len : Nat
  flashAddr : Nat
  data : Sparse (Option Byte)
  deriving DecidableEq, Repr

/-- What the loaded Pattern leaves with firmware: its header (Table PL-3), its latency section (R59) and its object map. -/
structure Pattern where
  header : List Byte
  latency : List Byte
  objects : List Byte
  deriving DecidableEq, Repr

/-- The state of a Side's firmware: the current session tag, LAST_SEQ, the next event number, the event-loss count and
flag, messages waiting for the outbound ring, attention lines by event code, writes held for Takes, an image being
loaded, the loaded Pattern, FW_BUILD, and whether messages get no reply
(Halt causes 2 and 5, R474), whether PAT END has returned OK, so that the next boundary is that of Ready (R472), and the boot flash
directory that the boot code has read (Table PW-6). -/
structure Firmware where
  session : Option Nat
  lastSeq : Nat
  evtSeq : Nat
  lost : Nat
  evtLost : Bool
  lossDue : Bool
  outQ : List OutMsg
  lines : Sparse Nat
  held : List HeldWrite
  image : Option ImageLoad
  pattern : Option Pattern
  build : Nat
  stopped : Bool
  readyDue : Bool
  boot : List Byte
  deriving DecidableEq, Repr

/-! ### Cross array, Patchbay and Gauge engine -/

/-- A ramp descriptor as the Cross array latched it for the Take of row `row` (R136); `mask` has a bit per sum. -/
structure XLatch where
  row : Nat
  mask : Nat
  curve : Nat
  len : Nat
  deriving DecidableEq, Repr

/-- The Cross array besides its registers and gain banks: the feed page, the one being filled, the row it is announced for, the row being worked on, whether RUN
has been 0 since the last pulse (R148), the entries of the delivery map whose write of this row loses to a core's port A (R64), each ramp instance's first row R0, the latched descriptor, the sums being refilled (with whether from Target), the gain words the
fabric wrote since the boundary, the sums being collapsed, the working and published sum pages and the delivery map
(per sum: core, region, vector word and lane, as the Pattern's Cross map gives them). -/
structure Cross where
  feeds : Sparse (BitVec 24)
  feedNext : Sparse (BitVec 24)
  feedRow : Option Nat
  row : Nat
  inRow : Bool
  done : Bool
  wasIdle : Bool
  lost : List Nat
  starts : Sparse Nat
  latch : Option XLatch
  refill : List (Nat × Bool)
  written : List Nat
  collapse : List Nat
  work : Sparse (BitVec 32)
  page : Sparse (BitVec 32)
  deliver : List (Nat × Nat × Nat × Nat × Nat)
  deriving DecidableEq, Repr

/-- What the Gauge engine keeps for one meter point beside its record in memory: the mean square, the hold timer, the
length of the current run at or above THR, and the last samples, newest first (Table PB-5). -/
structure Meter where
  ms : Nat
  timer : Nat
  run : Nat
  hist : List Int
  deriving DecidableEq, Repr

/-- The Gauge island besides its registers and tables: RUN as it applied in the last row, the row it works on, whether the
Shadow copy is due and the Shadow words written since the boundary, the meter points the Gauge plan uses, the meters, the
points to reset at the next boundary, whether a frame capture is due for the row, the frames that wait for their DMA channel, oldest
first (group, buffer, length, the channel's line), the row whose Gather, Emit and measurements still wait for a producer (R28, R55), and
the destinations whose delivery of that row loses to a core's port A (R64). -/
structure Gauge where
  running : Bool
  row : Nat
  refill : Bool
  written : List Nat
  used : List Nat
  meters : Sparse Meter
  resetDue : List Nat
  captureDue : Bool
  frames : List (Nat × Nat × Nat × Nat)
  waits : Option Nat
  lost : List Nat
  deriving DecidableEq, Repr

/-- What Emit placed in one row (R50, R51): by TDM slot (port × 32 + slot), flow channel (flow × 64 + channel) and skein
channel (link × 4096 + skein × 256 + channel). -/
structure EmitRow where
  row : Nat
  tdm : Sparse (BitVec 24)
  flow : Sparse (BitVec 24)
  skein : Sparse (BitVec 24)
  deriving DecidableEq, Repr

/-- The published copies of the receive units, newest first and tagged with their input row (R26, R50): unit 35 (port × 32
+ slot, 512 + 2 × input + edge, 528 + bridge channel), unit 37 (network channels), unit 39 (link × 4096 + skein × 256 +
channel); the samples received for rows not yet published (row × 65536 + the same index); what Emit placed, newest row
first; what the transmit units carry in this row; announcements on their way (destination 8 × core + region, or 256 for the
Cross feed page; row; mark), the mark of each unit's last publication (0 complete, 1 HELD, 2 IDLE), the units whose work
of this row does not finish, the row whose pulse each receiving unit took last (plus 1), and the units that publish nothing for this
row, their gate having been closed (R260, R495). -/
structure Pages where
  port : List (Nat × Sparse (BitVec 24))
  net : List (Nat × Sparse (BitVec 24))
  shemas : List (Nat × Sparse (BitVec 24))
  portIn : Sparse (BitVec 24)
  netIn : Sparse (BitVec 24)
  shemasIn : Sparse (BitVec 24)
  emitted : List EmitRow
  tdmOut : Sparse (BitVec 24)
  flowOut : Sparse (BitVec 24)
  skeinOut : Sparse (BitVec 24)
  skeinHeld : Bool
  due : List (Nat × Nat × Nat)
  mark : Sparse Nat
  unfinished : List Nat
  pulsed : Sparse Nat
  abandoned : List Nat
  deriving DecidableEq, Repr

/-- What the last row pulse carried: the row, HELD_CLEAR and the take mask. -/
structure Pulse where
  row : Nat
  heldClear : Bool
  mask : Nat
  deriving DecidableEq, Repr
/-! ### Takes and Cues -/

/-- One entry of the Take queue (Table TK-12): `row` is none while a floated Take waits for the Lead's row (R187) or a
slipped one for the loader (R194, `waits`); `state` is 1 queued, 2 locked, 3 latched by the Cross array, 4 committed; `acked`
has a bit per unit that acknowledged; `planned` is the row before a slip. -/
structure Take where
  num : Nat
  row : Option Nat
  mask : Nat
  desc : Nat
  floated : Bool
  cue : Option Nat
  state : Nat
  acked : Nat
  slipped : Bool
  waits : Bool
  planned : Nat
  deriving DecidableEq, Repr

/-- A fired Cue whose Take found no queue entry and waits for one (R194): its slot, the row planned and the row in which it fired. -/
structure SlipReq where
  slot : Nat
  planned : Nat
  fired : Nat
  deriving DecidableEq, Repr

/-- A fired Cue in the order the loader serves them (R193): its slot, the row it fired in, the number of its Take, whether
the loader has taken it up, and the records it has not yet carried out (address, words). -/
structure LoaderJob where
  slot : Nat
  fired : Nat
  num : Nat
  started : Bool
  records : List (Nat × List Nat)
  deriving DecidableEq, Repr

/-- A packet release that is due (R198): row, buffer, port and Cue slot. -/
structure Release where
  row : Nat
  buffer : Nat
  port : Nat
  slot : Nat
  deriving DecidableEq, Repr

/-- The Take scheduler and the Cue logic besides their registers: the queue, the acknowledgements on their way, rows kept
for requests not yet accepted (number and row, R187), Cues that wait for an entry, the loader's queue, the packet releases
due, the rows sent to the Follow (number and row), the broadcasts made and those
heard that fire three rows before their row (BID and row, R191, R197), and the row E that each slot was last armed for (R190). -/
structure TakeUnit where
  queue : Vector (Option Take) 8
  ackDue : Nat
  kept : List (Nat × Nat)
  slips : List SlipReq
  loader : List LoaderJob
  releases : List Release
  rowsSent : List (Nat × Nat)
  casts : List (Nat × Nat)
  heard : List (Nat × Nat)
  arms : Sparse Nat
  deriving DecidableEq, Repr

/-! ### Clocks, supplies and fuses -/

/-- A write that the fabric holds back (R258): of a register of the Side window, or of bytes of the memory space by a master. -/
inductive HeldAccess where
  | reg (w : Writer) (off be v : Nat) (env : BusEnv)
  | space (m a : Nat) (data : List Byte)
  deriving DecidableEq, Repr

/-- What the clock and reset logic holds beside its registers: the reset sources asserted now and those asserted since
the last release (bits of Table PW-3), the step of the clock start-up (Table CK-3: 0 the reset is held, 1 the start wait, 2 XIN is
being qualified, 3 its calibration was refused, 4 calibrated, 5 the islands run from their sources), the gates in a soft
close, the divisor and the source CLKOBS uses (R262), the WOSC cycles of the watchdog's period, restarted by each KICK
(R499; 0 before EN), and the writes that the fabric holds back until a soft close has ended, oldest first (R258). -/
structure ClkUnit where
  asserted : Nat
  since : Nat
  stage : Nat
  closing : Nat
  obsDiv : Nat
  obsSel : Nat
  wdog : Nat
  held : List HeldAccess
  deriving DecidableEq, Repr

/-- A life-cycle change under way (R477 to R479): its target, and whether it recovers a mismatch. -/
structure LcChange where
  target : Nat
  recovery : Bool
  deriving DecidableEq, Repr

/-- The one-time fuses of a Side (R2): its life-cycle state and its owner key hashes, zero while not written; and a change
under way. -/
structure Fuses where
  lc : Nat
  hashFw : Nat
  hashPat : Nat
  change : Option LcChange
  deriving DecidableEq, Repr

/-! ### Twin -/

/-- A Twin Link heartbeat (Table TW-2). -/
structure Heartbeat where
  row : Nat
  mode : Nat
  inStep : Bool
  token : Bool
  blending : Bool
  valid : Bool
  epoch : Nat
  chk : Nat
  deriving DecidableEq, Repr

/-- The Seam operations a Side requests (Table TW-3). -/
inductive SeamOp where
  | grant | seize | transfer | release
  deriving DecidableEq, Repr

/-- A change of mode that a message has named a row for (Tables PW-4 and TW-5), and a Cable that was named while another
handover was pending, kept for its row C − 1 (R229). `rejoin` is the REJOIN accepted in the row before (R222). -/
inductive RoleChange where
  | run | bindOff | startLead | startFollow | rework | split | join | cable | rejoin
  deriving DecidableEq, Repr

/-- Twin operation besides its registers: the row checksums formed last (row, CRC; newest first), the heartbeat on the link
from this Side, the row and mode of the last heartbeat heard, the rows in a row that heard a Lead, the COUNT of the last
Seam read answered, which losses this silence has been reported for (bit 0 link, 1 Seam, 2 partner), IN_STEP at entry to
unlinked, the Seam request on its way, whether a SEIZE was carried out and whether the Lead is deposed (both take effect at
the next boundary), the mode changes planned, wF of the last blended row, the page signatures captured at the last boundary
while a Rejoin runs (R240), the state of Table TW-4 at the last boundary (log entry 22 gives the codes), and the row of the last Cable or
Blend cable with the mode that the Side left there (R230). Besides: the rows whose heartbeat waits for the Side's own checksum, with the
partner's (R210); the row at which this Side judged a Cable, and how (R229); the Emit row blended last and the receipts of the pulse that
wait for a stream row (R234, R28). On both Sides of a Rejoin, the row of the signatures captured; on the Rework Side, the pages that the
pass has sent, those that the last comparison found different, whether a pass has ended and is to be compared, the final boundary F, and
the cause of a failure that the next boundary carries out (R222, R240 to R244). -/
structure Twin where
  chks : List (Nat × Nat)
  hbOut : Option Heartbeat
  heard : Option (Nat × Nat)
  heardRun : Nat
  seamCount : Nat
  lost : Nat
  wasInStep : Bool
  req : Option SeamOp
  seized : Bool
  deposed : Bool
  plans : List (Nat × RoleChange)
  blendWf : Nat
  captured : Sparse Nat
  role : Nat
  cable : Option (Nat × Mode)
  peers : List (Nat × Option Nat)
  judged : Option (Nat × Bool)
  blended : Option Nat
  blendWait : List (Island × PulseEnv)
  capRow : Option Nat
  sent : List Nat
  differ : List Nat
  passEnd : Bool
  finalRow : Option Nat
  failDue : Option Nat
  deriving DecidableEq, Repr

/-! ### Tension loop and time -/

/-- An entry of the capture FIFO (Table TM-7): KIND, INDEX, DATA, the Take number, the captured time in units of the counter
and the row. -/
structure Capture where
  kind : Nat
  index : Nat
  data : Nat
  num : Nat
  time : Nat
  row : Nat
  deriving DecidableEq, Repr

/-- A step waiting for its boundary (R299 to R303): the first row it may be applied at, and D in rows where it is known
already. A step from the reference on a Side that does not lead forms D at its boundary. -/
structure StepPlan where
  row : Nat
  d : Option Int
  deriving DecidableEq, Repr

/-- The Tension island besides its registers: the loop's output V, the software word, PPT as it applies, the held software
word or PPT write and whether a millisecond since the last one that took effect still runs (R296), the loop's estimate of the
reference, the measurements of this millisecond, the runs of updates within and beyond the thresholds (R293, R202), whether a
lock episode runs, whether the automatic step has been made, the step planned, the Lead's plan on the link, the partner's plan
(R303), the alignment planned (row and offset, R304), the captures, the frame syncs to capture, whether the counter has
started (R277), the boundary at which the row pulse resumes after a change of rate (R278), the counter at the boundary of the
Side's row, the time since each candidate's last measurement in units of the counter, the trigger slots armed within the row (R308),
the pulses under way with the time each ends (R307), and the phase errors that candidates C2, C3 and C6 have formed from their last edge
or block and not yet delivered, in units of 2^−16 ns (R281). -/
structure Tension where
  v : Nat
  word : Nat
  ppt : Int
  held : Option (Bool × Int)
  steerBusy : Bool
  est : Int
  acc : Int
  accN : Nat
  lockRun : Nat
  missRun : Nat
  alignRun : Nat
  episode : Bool
  stepped : Bool
  step : Option StepPlan
  stepOut : Option (Nat × Int)
  partnerStep : Option (Nat × Int)
  align : Option (Nat × Int)
  captures : List Capture
  fsArmed : Nat
  started : Bool
  resume : Option Nat
  base : Nat
  ages : List (Nat × Nat)
  armed : List Nat
  pulses : List (Nat × Nat)
  edges : List (Nat × Int)
  deriving DecidableEq, Repr

/-! ### Ports -/

/-- A half of a TDM port besides its registers. Times are units of the counter from the boundary of the Side's row. `started`
is the instant of the start until the first frame; `cfg` and `mask` are what the frames use, `pend` the settings
that became current at an instant A and no frame has used yet (R326); `got` counts the frames that belong to the Side's row
and to the next one (R322); `last` holds the samples received last, `sent` the level that the last frame gives the data line in each
of its bit clocks, none for high-Z, and `spill` what its slots send after the next frame sync (R314, R316); `stampAt` is the time of the
last block stamp, `gap` the interval between the last two and `blocks` the consecutive blocks with consistent stamps (R329), and `hist` a
bridged half's frames, newest first, each with its stamp if it has one (R323, R328). -/
structure Half where
  started : Option Int
  stopping : Bool
  cfg : Nat
  mask : Nat
  pend : List (Int × Nat × Nat)
  got : Nat × Nat
  last : List (BitVec 24)
  sent : List (Option Bool)
  spill : List (Option Bool)
  stampAt : Option Int
  gap : Nat
  blocks : Nat
  hist : List (Option Int × List (BitVec 24))
  deriving DecidableEq, Repr

/-- The port island besides its registers: the halves (2 × port + half), whether the shadow of this row's Take is due at A,
AP_PDM_CFG.EN as it applies, and the samples that the decimators have taken in for each microphone, newest first, each with the time at
which it stood at the microphone, in units of the counter from the boundary of the Side's row (R332). -/
structure Ports where
  halves : Vector Half 32
  shadowDue : Bool
  pdmOn : Bool
  mics : Sparse (List (Int × BitVec 24))
  deriving DecidableEq, Repr

/-! ### Network and Shemas -/

/-- A frame that waits in an egress queue of an Ethernet port or that left it last (R352, R357): the queue (0 releases,
1 PTP, ARP, ICMP and IGMP, 2 media, 3 all else), what it is (0 release, 1 media, 2 Delay_Req, 3 Pdelay_Req,
4 Pdelay_Resp, 5 its Follow_Up, 6 ARP request, 7 ARP reply, 8 echo reply, 9 IGMPv3 report, 10 IGMPv2 report), the buffer, flow object or PTP
sequence it belongs to, its row or RTP timestamp, its addressing and its payload. -/
structure TxFrame where
  queue : Nat
  kind : Nat
  ref : Nat
  stamp : Nat
  dst : Nat
  src : Nat
  dport : Nat
  sport : Nat
  dscp : Nat
  ttl : Nat
  vlan : Nat
  mac : Nat
  payload : List Byte
  deriving DecidableEq, Repr

/-- A foreign master that a port has heard: its identity, what the best master clock algorithm compares, its clockClass and the UTC offset
that it announces, if it is valid. -/
structure Foreign where
  source : Nat
  rank : List Nat
  cls : Nat
  utc : Option Int
  deriving DecidableEq, Repr

/-- What firmware keeps for an Ethernet port as a PTP port (R346, R347) and from NET PORT: the foreign masters heard, a Sync that waits for its Follow_Up (source, sequence, t2, correction), the last Sync's t2 − t1 with its
corrections, the delay requests sent (sequence, t3 or t1), a Pdelay_Resp that waits for its Follow_Up (sequence, t2, t4,
correction), the mean delay, the board's share of ING and EGR (R306), and the timestamps of the last event messages (their message type,
their sequence, raw and referred, R305). Besides, what the port has of its media shaper (the credit in bits times units of the counter a
second, and the counter it holds for) and whether an IGMPv2 querier has been heard (Table NW-1). -/
structure NetPort where
  profile : Nat
  domain : Nat
  addr : Nat
  netmask : Nat
  gateway : Nat
  foreign : List Foreign
  sync : Option (Nat × Nat × Int × Int)
  syncT : Option (Int × Int)
  req : List (Nat × Int)
  presp : Option (Nat × Int × Int × Int)
  delay : Int
  ptpSeq : Nat
  ingAdd : Nat
  egrAdd : Nat
  stamps : List (Nat × Nat × Int × Int)
  credit : Int
  creditAt : Nat
  igmpV2 : Bool
  deriving DecidableEq, Repr

/-- The network island besides its registers and its records in memory: the ports, their egress queues and the frames that left
last, the ARP table (address, MAC), the MACs of packet buffers (plus 1), the channel-status blocks, the samples of the transmit
flows, newest row first (R351), and the packets whose samples have been taken (flow and first row plus P, R354). -/
structure Net where
  ports : Vector NetPort 2
  txq : Vector (List TxFrame) 2
  sent : Vector (Option TxFrame) 2
  arp : List (Nat × Nat)
  macs : Sparse Nat
  chStatus : Sparse (List Byte)
  flowRows : List (Nat × Sparse (BitVec 24))
  got : List (Nat × Nat)
  deriving DecidableEq, Repr

/-- A Shemas link besides its registers: consecutive HELLOs, rows without a good frame, whether this row has brought one, the
sequence numbers sent and taken, the peer's CREDIT, the cells that wait and those sent and not acknowledged (with the row they
were sent in), the times of the frames sent (row, time in 2^−16 ns), the last frame's row and arrival, the fragments of the
messages being received, and the frame sent last. -/
structure Link where
  hellos : Nat
  missRun : Nat
  heard : Bool
  txSeq : Nat
  rxSeq : Nat
  credit : Nat
  out : List Cell
  unacked : List (Nat × Cell)
  resend : List Cell
  sentAt : List (Nat × Nat)
  rxPrev : Option (Nat × Nat)
  frags : List Cell
  sent : Option RowFrame
  deriving DecidableEq, Repr

/-- The Shemas island besides its registers: its links, the skein records (index × 4 + word, Table NW-10), the row whose block each
receive skein took last (plus 1), the blocks to forward with their link and the row of the frame that carries them (R363), and the
broadcasts seen
(device, BID, E and the row, R368). -/
structure Shemas where
  links : Vector Link 4
  skeins : Sparse Nat
  taken : Sparse Nat
  fwd : List (Nat × Nat × SkeinBlock)
  seen : List (Nat × Nat × Nat × Nat)
  deriving DecidableEq, Repr


/-! ### Memory banks, fabric and DMA -/

/-- A march under way (R452 to R458): its KIND, whether it repairs, the macros not yet done, ascending, those of them in their
second march, the worst RESULT and the spares allocated so far, the bank named (0xFF for all), and whether it is the march
of Swatch mode. -/
structure SwatchRun where
  kind : Nat
  repair : Bool
  left : List Nat
  second : List Nat
  result : Nat
  spares : Nat
  unit : Nat
  inMode : Bool
  deriving DecidableEq, Repr

/-- A fabric transaction that waits for its response: master, ID, direction, target, address, first failing beat, response code and
read data. -/
structure FabTx where
  master : Nat
  id : Nat
  write : Bool
  target : Nat
  addr : Nat
  beat : Nat
  resp : Nat
  data : List Byte
  deriving DecidableEq, Repr

/-- The fabric besides its registers: transactions granted and not answered, oldest first, the requests that wait for a
grant, oldest first, what each master's last response brought, the master whose turn is next (R426, R427) and the last write sent to the
partner (R423). -/
structure Fabric where
  out : List FabTx
  wait : List FabReq
  lastResp : List FabTx
  turn : Nat
  toPartner : Option (Nat × List Byte)
  deriving DecidableEq, Repr

/-- A DMA job (R432, R437): its line, source, length, destination (host or Side memory), offset in the data region, the next
transfer, whether a transfer was skipped, and whether the next one is to be issued again (R438). -/
structure DmaJob where
  ch : Nat
  line : Nat
  src : Nat
  len : Nat
  dst : Nat
  toHost : Bool
  off : Nat
  next : Nat
  skipped : Bool
  retry : Bool
  deriving DecidableEq, Repr

/-- The DMA engine besides its registers: the job that runs or is halted, the jobs of parked channels, the job headers that
peripherals have given (line, source and length), and a record's offset and whether it holds data for each channel's
unconsumed records, oldest first (channel, SEQ, offset, holds data). -/
structure Dma where
  job : Option DmaJob
  parked : List DmaJob
  headers : List (Nat × Nat × Nat)
  records : List (Nat × Nat × Nat × Bool)
  deriving DecidableEq, Repr


/-! ### A Side -/

/-- One Side: its mode, its row rate (the code of Table PL-3), its register fields, its memory by physical address with the error marks of its 64-bit words
(1 single-bit, 2 double-bit), its row number, its time counter in units of 1/225,792 ns, its blocks and its Dorden
Collector. -/
structure Side where
  mode : Mode
  rate : Nat
  regs : Regs
  mem : List Host.Cell
  upsets : Sparse Nat
  row : Nat
  counter : Nat
  pulse : Pulse
  fw : Firmware
  cores : Vector Core 32
  bankOwner : Sparse Nat
  cross : Cross
  gauge : Gauge
  pages : Pages
  takes : TakeUnit
  twin : Twin
  tm : Tension
  ports : Ports
  net : Net
  shemas : Shemas
  clk : ClkUnit
  fuses : Fuses
  swatch : Option SwatchRun
  fab : Fabric
  dma : Dma
  col : Collector
  deriving DecidableEq, Repr

/-! ### The host region -/

/-- A quad-SPI write being taken into the write buffer (R379): its BAR, its address, its bytes, and whether it is to be
discarded because it began while an earlier write was being carried out. -/
structure SpiWrite where
  bar2 : Bool
  addr : Nat
  data : List Byte
  late : Bool
  deriving DecidableEq, Repr

/-- The host region: whether power-on reset is held (R498), its register fields, the mailbox RAM by BAR2 offset, the route
tag of each inbound slot (64 × Side + slot, R403), the Collector, the messages the relay holds, the quad-SPI write buffer,
D3hot, what the last read returned and the last completion status (0 success, 1 Unsupported Request), the number of MSIs
sent, the MSG_ID of the next message that starts here and those received last from each source, newest first (R367), and
whether the flash master is to be released when its command ends (R390), and the last write to host memory (address, bytes). The tag of a slot that the relay filled is 2 plus 4 × the
device the message comes from. -/
structure HostRegion where
  held : Bool
  regs : Regs
  ram : List Host.Cell
  tags : Sparse Nat
  col : Collector
  relay : List HeldMsg
  spi : Option SpiWrite
  d3hot : Bool
  lastRead : List Byte
  lastStatus : Nat
  msis : Nat
  msgId : Nat
  seenMsgs : Sparse (List Nat)
  flashDrop : Bool
  memWrite : Option (Nat × List Byte)
  deriving DecidableEq, Repr

/-! ### The block -/

/-- The whole state: the host region, the two Sides, the commands that wait, first in first out, and the number of free
values used so far (the model's own field, log entry 1). -/
structure State where
  host : HostRegion
  side0 : Side
  side1 : Side
  pending : List Instr
  fresh : Nat
  deriving DecidableEq, Repr

/-! ### Reset -/

/-- The registers of Table SK-4 at reset: all zero, no loop active. -/
def StitchRegs.reset : StitchRegs :=
  { v := Vector.replicate 8 (Vector.replicate 4 0), a := Vector.replicate 4 (Vector.replicate 4 0)
    p := Vector.replicate 8 0, m := Vector.replicate 8 0, l := Vector.replicate 8 0, lc := 0, inner := none, stack := []
    ovf := 0, sat := 0, z := 0, n := 0, loopErr := false }

/-- A core at reset (R99). -/
def Core.reset : Core :=
  { r := StitchRegs.reset, pc := 0, lastPc := 0, snap := StitchRegs.reset, snapRow := 0, snapBank := 0, inRow := false, done := false
    firstRow := true, eorIssued := false, halted := false, brkPass := false, stallOn := [], farWait := false
    refill := false, refillWritten := [], far := [] }

/-- A Collector at reset: every source at its reset configuration, the stack empty. -/
def Collector.reset : Collector := { srcs := [], rp := 0, stack := [], stackErr := false, eoiMismatch := false, req := false }

/-- The firmware state after a Side reset: no session, event numbers from 1 (R416), no attention lines. -/
def Firmware.reset : Firmware :=
  { session := none, lastSeq := 0, evtSeq := 1, lost := 0, evtLost := false, lossDue := false, outQ := [], lines := []
    held := [], image := none, pattern := none, build := 0, stopped := false, readyDue := false, boot := [] }

/-- The Cross array at reset (R150). -/
def Cross.reset : Cross :=
  { feeds := [], feedNext := [], feedRow := none, row := 0, inRow := false, done := false, wasIdle := true, lost := [], starts := [], latch := none, refill := []
    written := [], collapse := [], work := [], page := [], deliver := [] }

/-- The Gauge island at reset (R171). -/
def Gauge.reset : Gauge :=
  { running := false, row := 0, refill := false, written := [], used := [], meters := [], resetDue := []
    captureDue := false, frames := [], waits := none, lost := [] }

/-- The published copies at reset. -/
def Pages.reset : Pages :=
  { port := [], net := [], shemas := [], portIn := [], netIn := [], shemasIn := [], emitted := [], tdmOut := []
    flowOut := [], skeinOut := [], skeinHeld := false, due := [], mark := [], unfinished := [], pulsed := [], abandoned := [] }

/-- The Take scheduler at reset (R199). -/
def TakeUnit.reset : TakeUnit :=
  { queue := Vector.replicate 8 none, ackDue := 0, kept := [], slips := [], loader := [], releases := [], rowsSent := []
    casts := [], heard := [], arms := [] }

/-- FW_NOM of the 48 kHz family (Table TM-1), the word at which the loop stands after a reset (R273, R294). -/
def fwNom48 : Nat := 23058430092137

/-- The Tension island at reset: free run at FW_NOM. -/
def Tension.reset : Tension :=
  { v := fwNom48, word := 0, ppt := 0, held := none, steerBusy := false, est := fwNom48, acc := 0, accN := 0, lockRun := 0
    missRun := 0, alignRun := 0, episode := false, stepped := false, step := none, stepOut := none, partnerStep := none
    align := none, captures := [], fsArmed := 0, started := false, resume := none, base := 0, ages := []
    armed := [], pulses := [], edges := [] }

/-- Twin operation at reset (R246). -/
def Twin.reset : Twin :=
  { chks := [], hbOut := none, heard := none, heardRun := 0, seamCount := 0, lost := 0, wasInStep := false, req := none
    seized := false, deposed := false, plans := [], blendWf := 0, captured := [], role := 0, cable := none, peers := [], judged := none
    blended := none, blendWait := [], capRow := none, sent := [], differ := [], passEnd := false, finalRow := none, failDue := none }

/-- A TDM half at reset: stopped. -/
def Half.reset : Half :=
  { started := none, stopping := false, cfg := 0, mask := 0, pend := [], got := (0, 0), last := [], sent := [], spill := []
    stampAt := none, gap := 0, blocks := 0, hist := [] }

/-- The port island at reset (R341). -/
def Ports.reset : Ports := { halves := Vector.replicate 32 Half.reset, shadowDue := false, pdmOn := false, mics := [] }

/-- An Ethernet port's firmware state at reset. -/
def NetPort.reset : NetPort :=
  { profile := 0, domain := 0, addr := 0, netmask := 0, gateway := 0, foreign := [], sync := none, syncT := none, req := []
    presp := none, delay := 0, ptpSeq := 0, ingAdd := 0, egrAdd := 0, stamps := [], credit := 0
    creditAt := 0, igmpV2 := false }

/-- The network island at reset (R370). -/
def Net.reset : Net :=
  { ports := Vector.replicate 2 NetPort.reset, txq := Vector.replicate 2 [], sent := Vector.replicate 2 none, arp := [], macs := []
    chStatus := [], flowRows := [], got := [] }

/-- A Shemas link at reset: off. -/
def Link.reset : Link :=
  { hellos := 0, missRun := 0, heard := false, txSeq := 0, rxSeq := 0, credit := 0, out := [], unacked := [], resend := []
    sentAt := [], rxPrev := none, frags := [], sent := none }

/-- The Shemas island at reset (R370). -/
def Shemas.reset : Shemas := { links := Vector.replicate 4 Link.reset, skeins := [], taken := [], fwd := [], seen := [] }

/-- The clock and reset logic just after a release: no source asserted, the start wait running. -/
def ClkUnit.reset : ClkUnit :=
  { asserted := 0, since := 0, stage := 1, closing := 0, obsDiv := 0, obsSel := 24, wdog := 0, held := [] }

/-- The register fields of a Side whose values after a release come from its pins, supplies and gates: POWER, main and backup
members and VDDIO good, the gates of CK_GATE_REQ_HI's reset value closed, TAMPER_N high,
the loop in free run (log entry 2). -/
def sideRegsReset : Regs :=
  [(F.PW_RST_CAUSE_POWER, 1), (F.PW_SUPPLY_MAIN_OK, 15), (F.PW_SUPPLY_BACKUP_OK, 15), (F.PW_SUPPLY_VDDIO_OK, 1),
    (F.CK_GATE_STAT_HI_A, 3), (F.CK_GATE_STAT_HI_B, 15), (F.MM_SEC_STAT_TAMPER_N, 1),
    (F.TM_STAT_LOST, 1), (F.TM_STAT_FREERUN, 1), (F.TM_FW_CUR_LO, fwNom48 % 2 ^ 32), (F.TM_FW_CUR_HI, fwNom48 / 2 ^ 32)].foldl
    (fun (m : Regs) (p : Fld × Nat) => Regs.set m p.1 p.2) []

/-- A Side right after the release of its first reset: mode Reset, supplies good, life cycle Open (R476), nothing in
memory. -/
def Side.reset : Side :=
  { mode := .reset, rate := 3, regs := sideRegsReset, mem := [], upsets := [], row := 0, counter := 0
    pulse := { row := 0, heldClear := false, mask := 0 }, fw := Firmware.reset, cores := Vector.replicate 32 Core.reset
    bankOwner := [], cross := Cross.reset, gauge := Gauge.reset, pages := Pages.reset, takes := TakeUnit.reset
    twin := Twin.reset, tm := Tension.reset, ports := Ports.reset, net := Net.reset, shemas := Shemas.reset, clk := ClkUnit.reset, fuses := { lc := 1, hashFw := 0, hashPat := 0, change := none }
    swatch := none, fab := { out := [], wait := [], lastResp := [], turn := 0, toPartner := none }, dma := { job := none, parked := [], headers := [], records := [] }
    col := Collector.reset }

/-- The host region right after power-on reset. -/
def HostRegion.reset : HostRegion :=
  { held := false, regs := [], ram := [], tags := [], col := Collector.reset, relay := [], spi := none, d3hot := false
    lastRead := [], lastStatus := 0, msis := 0, msgId := 0, seenMsgs := [], flashDrop := false, memWrite := none }

/-- The block right after reset, with no command waiting. -/
def State.reset : State :=
  { host := HostRegion.reset, side0 := Side.reset, side1 := Side.reset, pending := [], fresh := 0 }

end Sys2Proof.Machine
end

