-- ==== Sys2Proof/Machine/Ops.lean ====
section
/-!
DEFINITION. The named operations over registers, memory and the Sides that every meaning uses.
-/
namespace Sys2Proof.Machine

open Sys2Proof

/-! ### Sides -/

/-- A Side of the block. -/
def State.side (s : State) (sd : SideId) : Side :=
  match sd with
  | .s0 => s.side0
  | .s1 => s.side1

/-- Replaces a Side. -/
def State.setSide (s : State) (sd : SideId) (x : Side) : State :=
  match sd with
  | .s0 => { s with side0 := x }
  | .s1 => { s with side1 := x }

/-- Changes a Side. -/
def State.onSide (s : State) (sd : SideId) (f : Side → Side) : State := s.setSide sd (f (s.side sd))

/-! ### Register fields -/

/-- The value of a field of the Side window. -/
def Side.get (sd : Side) (f : Fld) : Nat := sd.regs.get f

/-- Writes a field of the Side window. -/
def Side.set (sd : Side) (f : Fld) (v : Nat) : Side := { sd with regs := sd.regs.set f v }

/-- Whether a field is not zero. -/
def Side.flag (sd : Side) (f : Fld) : Bool := decide (sd.get f ≠ 0)

/-- Adds 1 to a saturating count. -/
def Side.incSat (sd : Side) (f : Fld) : Side := sd.set f (min (sd.get f + 1) (2 ^ f.len - 1))

/-- Adds 1 to a wrapping count. -/
def Side.incWrap (sd : Side) (f : Fld) : Side := sd.set f (sd.get f + 1)

/-- A bit of a field. -/
def Side.bit (sd : Side) (f : Fld) (k : Nat) : Bool := (sd.get f).testBit k

/-- `n` with bit `k` set to `b`. -/
def withBit (n k : Nat) (b : Bool) : Nat := if n.testBit k = b then n else if b then n + 2 ^ k else n - 2 ^ k

/-- Writes a bit of a field. -/
def Side.setBit (sd : Side) (f : Fld) (k : Nat) (b : Bool) : Side := sd.set f (withBit (sd.get f) k b)

/-- Writes a 64-bit value to a low and a high word. -/
def Side.set64 (sd : Side) (lo hi : Fld) (v : Nat) : Side := (sd.set lo (v % 2 ^ 32)).set hi (v / 2 ^ 32)

/-- A 64-bit value from a low and a high word. -/
def Side.get64 (sd : Side) (lo hi : Fld) : Nat := sd.get lo + 2 ^ 32 * sd.get hi

/-- The value of a field of the host region. -/
def HostRegion.get (h : HostRegion) (f : Fld) : Nat := h.regs.get f

/-- Writes a field of the host region. -/
def HostRegion.set (h : HostRegion) (f : Fld) (v : Nat) : HostRegion := { h with regs := h.regs.set f v }

/-- Whether a field of the host region is not zero. -/
def HostRegion.flag (h : HostRegion) (f : Fld) : Bool := decide (h.get f ≠ 0)

/-- Adds 1 to a saturating count of the host region. -/
def HostRegion.incSat (h : HostRegion) (f : Fld) : HostRegion := h.set f (min (h.get f + 1) (2 ^ f.len - 1))

/-- A field of a word. -/
def bitsOf (v lo len : Nat) : Nat := v / 2 ^ lo % 2 ^ len

/-! ### Bytes -/

/-- The low `n` bytes of a value, least significant first (R402). -/
def leBytes : Nat → Nat → List Byte
  | 0, _ => []
  | n + 1, v => BitVec.ofNat 8 v :: leBytes n (v / 256)

/-- The value of bytes, least significant first. -/
def leVal : List Byte → Nat
  | [] => 0
  | b :: bs => b.toNat + 256 * leVal bs

/-- The value of bytes, most significant first. -/
def beVal (bs : List Byte) : Nat := leVal bs.reverse

/-- The low `n` bytes of a value, most significant first. -/
def beBytes (n v : Nat) : List Byte := (leBytes n v).reverse

/-- A two's-complement value of `n` bits. -/
def toSigned (n v : Nat) : Int := (BitVec.ofNat n v).toInt

/-- The `n`-bit two's-complement form of an integer. -/
def ofSigned (n : Nat) (x : Int) : Nat := (BitVec.ofInt n x).toNat

/-! ### Memory -/

/-- What an unlisted memory byte reads as: Frog's zero (R459, log entry 3). -/
def memDefault : Nat → Byte := fun _ => 0

/-- The stored byte at a physical address. -/
def Side.byte (sd : Side) (a : Nat) : Byte := Sparse.get memDefault sd.mem a

/-- Stores a byte. -/
def Side.putByte (sd : Side) (a : Nat) (v : Byte) : Side := { sd with mem := Sparse.set memDefault sd.mem a v }

/-- The `n` stored bytes from an address. -/
def Side.bytes (sd : Side) (a n : Nat) : List Byte := (List.range n).map (fun i => sd.byte (a + i))

/-- Stores bytes from an address. -/
def Side.putBytes (sd : Side) (a : Nat) : List Byte → Side
  | [] => sd
  | b :: bs => (sd.putByte a b).putBytes (a + 1) bs

/-- The error mark of the 64-bit word that holds an address: 0 none, 1 a single-bit error, 2 a double-bit error. -/
def Side.upset (sd : Side) (a : Nat) : Nat := Sparse.get (fun _ => 0) sd.upsets (a / 8)

/-- Sets the error mark of a 64-bit word. -/
def Side.setUpset (sd : Side) (a : Nat) (v : Nat) : Side := { sd with upsets := Sparse.set (fun _ => 0) sd.upsets (a / 8) v }

/-- The memory of a Stitch core (Table MM-1). -/
def coreBase (k : Nat) : Nat := 0x06000000 + 0x80000 * k

/-- The bank that holds an address of the Side's memory space (Table MM-1); none outside the banks. -/
def bankOf (a : Nat) : Option Nat :=
  if a < 0x06000000 then some (a / 0x800000)
  else if a < 0x07000000 then some (12 + (a - 0x06000000) / 0x80000)
  else if a < 0x08000000 then none
  else if a < 0x08C00000 then some (44 + (a - 0x08000000) / 0x400000)
  else if a < 0x09000000 then none
  else if a < 0x09800000 then some 47
  else if a < 0x09C00000 then some 48
  else if a < 0x0A000000 then some 49
  else if a < 0x0A100000 then some 50
  else if a < 0x0A110000 then some 51
  else none

/-- Whether a bank is On (R444). -/
def Side.bankOn (sd : Side) (b : Nat) : Bool := decide (sd.get (F.MM_BANK_CUR b) = 0)

/-- The owner of a long-memory bank by the Pattern's plan: 0 none, 1 + g for group g, 9 the DMA engine (R82). -/
def Side.bankOwnerOf (sd : Side) (b : Nat) : Nat := Sparse.get (fun _ => 0) sd.bankOwner b

/-! ### Events -/

/-- The time counter in units of 2^−16 ns, low 64 bits (R416). -/
def Side.eventTime (sd : Side) : Nat := sd.counter * 65536 / 225792 % 2 ^ 64

/-- The current session tag, or zero (R408). -/
def Side.tag (sd : Side) : Nat := sd.fw.session.getD 0

/-- The events that wait for the outbound ring. -/
def Firmware.events (fw : Firmware) : Nat := (fw.outQ.filter OutMsg.event).length

/-- The replies that wait for the outbound ring; the slots of one reply count once (R406). -/
def Firmware.replies (fw : Firmware) : Nat := (fw.outQ.filter (fun m => !m.event && !m.msg.flags.testBit 2)).length

/-- R416: an event message of the Side, numbered with the next event sequence number. DEVID and SEL are filled in when
it is placed in the ring. -/
def Side.eventMsg (sd : Side) (code unit : Nat) (args : List Byte) : Msg :=
  let body := leBytes 2 unit ++ leBytes 2 args.length ++ leBytes 8 sd.row ++ leBytes 8 sd.eventTime ++ args
  { version := 2, cls := 0x11, op := code, seq := sd.fw.evtSeq, devid := 0, sel := 0, flags := 2, len := body.length
    session := sd.tag, status := 0, crc := 0, payload := body }

/-- R416, R417: firmware creates an event, or counts it lost while the event queue holds 256. -/
def Side.raise (sd : Side) (code unit : Nat) (args : List Byte) : Side :=
  let fw := { sd.fw with evtSeq := (sd.fw.evtSeq + 1) % 2 ^ 32 }
  if 256 ≤ sd.fw.events then
    { sd with fw := { fw with lost := min (sd.fw.lost + 1) (2 ^ 32 - 1), evtLost := true, lossDue := true } }
  else { sd with fw := { fw with outQ := sd.fw.outQ ++ [{ event := true, msg := sd.eventMsg code unit args }] } }

/-! ### ECC -/

/-- R451: the error record of bank `b` after an error at `a`. -/
def Side.recordEcc (sd : Side) (b a : Nat) (dbl : Bool) : Side :=
  let valid := sd.flag (F.MM_BANK_VALID b)
  if !valid || (dbl && !sd.flag (F.MM_BANK_DOUBLE b)) then
    let sd := ((sd.set (F.MM_BANK_ADDR b) a).set (F.MM_BANK_VALID b) 1).set (F.MM_BANK_DOUBLE b) dbl.toNat
    let sd := if valid then sd.set (F.MM_BANK_MULTI b) 1 else sd
    sd.raise 0x0019 b (leBytes 4 a ++ leBytes 1 dbl.toNat)
  else sd.set (F.MM_BANK_MULTI b) 1

/-- R447: what a read through any port does to the counts, the record and the mark of the word that holds `a`. A
single-bit error is corrected and written back. -/
def Side.eccTouch (sd : Side) (a : Nat) : Side :=
  match sd.upset a, bankOf a with
  | 0, _ => sd
  | 1, some b => (((sd.setUpset a 0).incSat (F.MM_BANK_CE_CNT b)).set F.MM_STAT_CE 1).recordEcc b (a / 8 * 8) false
  | _, some b => ((sd.incSat (F.MM_BANK_UE_CNT b)).set F.MM_STAT_UE 1).recordEcc b (a / 8 * 8) true
  | _, none => sd

/-- R447: the byte a reader receives; a double-bit error gives zero in the whole 64-bit word. -/
def Side.rtByte (sd : Side) (a : Nat) : Byte := if sd.upset a = 2 then 0 else sd.byte a

/-- The little-endian 32-bit word a reader receives. -/
def Side.rtWord (sd : Side) (a : Nat) : BitVec 32 :=
  sd.rtByte (a + 3) ++ sd.rtByte (a + 2) ++ sd.rtByte (a + 1) ++ sd.rtByte a

/-- R448: the merge before a write of part of the word that holds `a`: a single-bit error is corrected, a double-bit
error leaves zero around the bytes written; both count under R447. -/
def Side.mergeUpset (sd : Side) (a : Nat) : Side :=
  match sd.upset a with
  | 0 => sd
  | 1 => sd.eccTouch a
  | _ => ((sd.eccTouch a).putBytes (a / 8 * 8) (List.replicate 8 0)).setUpset a 0

/-- Writes a 32-bit word. -/
def Side.putWord (sd : Side) (a : Nat) (w : BitVec 32) : Side :=
  ((((sd.mergeUpset a).putByte a (w.extractLsb' 0 8)).putByte (a + 1) (w.extractLsb' 8 8)).putByte (a + 2)
    (w.extractLsb' 16 8)).putByte (a + 3) (w.extractLsb' 24 8)

/-! ### Modes, gates and cores -/

/-- The Side holds state and takes accesses: any mode but Dark and Reset (R33). -/
def Side.alive (sd : Side) : Bool := decide (sd.mode ≠ .dark ∧ sd.mode ≠ .reset)

/-- Whether a memory request reaches the host region: not in power-on reset (R498), nor in D3hot (R376). -/
def HostRegion.open (h : HostRegion) : Bool := !h.held && !h.d3hot

/-- The modes in which the row pulse runs (Table AR-9). -/
def Side.pulsing (sd : Side) : Bool :=
  decide (sd.mode = .ready ∨ sd.mode = .solo ∨ sd.mode = .lead ∨ sd.mode = .follow ∨ sd.mode = .rework)

/-- The modes in which the islands' clocks run at their rates and firmware may set the islands to work. -/
def Side.clocked (sd : Side) : Bool := sd.pulsing || decide (sd.mode = .castOn)

/-- The modes of a producing Side: it processes rows and sends heartbeats (R213). -/
def Side.producing (sd : Side) : Bool :=
  decide (sd.mode = .solo ∨ sd.mode = .lead ∨ sd.mode = .follow ∨ sd.mode = .rework)

/-- Where a gate's bit stands among the three parts of a gate register: field and bit (Table CK-10). -/
def gatePart (lo a b : Fld) (k : Nat) : Option (Fld × Nat) :=
  if k < 32 then some (lo, k)
  else if k < 34 then some (a, k - 32)
  else if 37 ≤ k ∧ k < 41 then some (b, k - 37)
  else none

/-- A gate's bit of a gate register; gates 34 to 36 read 0. -/
def Side.gateBit (sd : Side) (lo a b : Fld) (k : Nat) : Bool :=
  match gatePart lo a b k with
  | some p => sd.bit p.1 p.2
  | none => false

/-- Writes a gate's bit; writes for gates 34 to 36 are discarded. -/
def Side.setGateBit (sd : Side) (lo a b : Fld) (k : Nat) (v : Bool) : Side :=
  match gatePart lo a b k with
  | some p => sd.setBit p.1 p.2 v
  | none => sd

/-- Whether gate `k` is open (CK_GATE_STAT). -/
def Side.gateOpen (sd : Side) (k : Nat) : Bool :=
  !sd.gateBit F.CK_GATE_STAT_LO F.CK_GATE_STAT_HI_A F.CK_GATE_STAT_HI_B k

/-- Replaces a core. -/
def Side.setCore (sd : Side) (k : Fin 32) (c : Core) : Side := { sd with cores := sd.cores.set k c }

/-- Replaces a core's registers. -/
def Side.setRegs (sd : Side) (k : Fin 32) (r : StitchRegs) : Side := sd.setCore k { sd.cores[k] with r := r }

/-- R47: the overrun record fields of a publishing unit: OVR, MULTI, FIRST_ROW low and high, COUNT, RUN, LONGEST. -/
def ovrFlds (u : Nat) : Fld × Fld × Fld × Fld × Fld × Fld × Fld :=
  if u < 32 then (F.SK_STAT_OVR u, F.SK_STAT_MULTI u, F.SK_OVR_ROW_LO u, F.SK_OVR_ROW_HI u, F.SK_OVR_CNT_COUNT u,
    F.SK_OVR_RUN_RUN u, F.SK_OVR_RUN_LONGEST u)
  else
    match u with
    | 32 => (F.XA_STAT_OVR, F.XA_STAT_MULTI, F.XA_OVR_ROW_LO, F.XA_OVR_ROW_HI, F.XA_OVR_CNT_COUNT, F.XA_OVR_RUN_RUN,
        F.XA_OVR_RUN_LONGEST)
    | 33 => (F.PB_STAT_OVR33, F.PB_STAT_MULTI33, F.PB_OVR33_LO, F.PB_OVR33_HI, F.PB_OVR33_CNT_COUNT, F.PB_OVR33_RUN_RUN,
        F.PB_OVR33_RUN_LONGEST)
    | 34 => (F.PB_STAT_OVR34, F.PB_STAT_MULTI34, F.PB_OVR34_LO, F.PB_OVR34_HI, F.PB_OVR34_CNT_COUNT, F.PB_OVR34_RUN_RUN,
        F.PB_OVR34_RUN_LONGEST)
    | 35 => (F.AP_STAT_OVR35, F.AP_STAT_MULTI35, F.AP_OVR35_LO, F.AP_OVR35_HI, F.AP_OVR35_CNT_COUNT, F.AP_OVR35_RUN_RUN,
        F.AP_OVR35_RUN_LONGEST)
    | 36 => (F.AP_STAT_OVR36, F.AP_STAT_MULTI36, F.AP_OVR36_LO, F.AP_OVR36_HI, F.AP_OVR36_CNT_COUNT, F.AP_OVR36_RUN_RUN,
        F.AP_OVR36_RUN_LONGEST)
    | 37 => (F.NW_STAT_OVR37, F.NW_STAT_MULTI37, F.NW_OVR37_LO, F.NW_OVR37_HI, F.NW_OVR37_CNT_COUNT, F.NW_OVR37_RUN_RUN,
        F.NW_OVR37_RUN_LONGEST)
    | 38 => (F.NW_STAT_OVR38, F.NW_STAT_MULTI38, F.NW_OVR38_LO, F.NW_OVR38_HI, F.NW_OVR38_CNT_COUNT, F.NW_OVR38_RUN_RUN,
        F.NW_OVR38_RUN_LONGEST)
    | 39 => (F.SH_STAT_OVR39, F.SH_STAT_MULTI39, F.SH_OVR39_LO, F.SH_OVR39_HI, F.SH_OVR39_CNT_COUNT, F.SH_OVR39_RUN_RUN,
        F.SH_OVR39_RUN_LONGEST)
    | _ => (F.SH_STAT_OVR40, F.SH_STAT_MULTI40, F.SH_OVR40_LO, F.SH_OVR40_HI, F.SH_OVR40_CNT_COUNT, F.SH_OVR40_RUN_RUN,
        F.SH_OVR40_RUN_LONGEST)

/-- R47, R48: unit `u` missed row `row`. -/
def Side.overrun (sd : Side) (u row : Nat) : Side :=
  let f := ovrFlds u
  let sd := (sd.incSat f.2.2.2.2.1).incSat f.2.2.2.2.2.1
  let run := sd.get f.2.2.2.2.2.1
  let sd := if sd.get f.2.2.2.2.2.2 < run then sd.set f.2.2.2.2.2.2 run else sd
  if sd.flag f.1 then sd.set f.2.1 1
  else ((sd.set64 f.2.2.1 f.2.2.2.1 row).set f.1 1).raise 0x0002 u (leBytes 8 row)

/-- R47: unit `u` completed a row: RUN becomes zero. -/
def Side.completedRow (sd : Side) (u : Nat) : Side := sd.set (ovrFlds u).2.2.2.2.2.1 0

/-! ### Targets and gates of the memory space -/

/-- R441: the target that decodes an address; 31 where none does. -/
def fabTarget (a : Nat) : Nat :=
  if a < 0x06000000 then a / 0x800000
  else if a < 0x07000000 then 12 + (a - 0x06000000) / 0x200000
  else if a < 0x09000000 then 20
  else if a < 0x09800000 then 22
  else if a < 0x09C00000 then 23
  else if a < 0x0A000000 then 24
  else if a < 0x0A100000 then 21
  else if a < 0x0A110000 then 25
  else if 0x0B000000 ≤ a ∧ a < 0x0B400000 then 26
  else 31

/-- The gate of the island that holds a register block of the Side window (Tables AR-7 and CK-6). -/
def blockGate (off : Nat) : Option Nat :=
  if 0x100000 ≤ off ∧ off < 0x300000 then some ((off - 0x100000) / 0x10000)
  else
    match off / 0x10000 with
    | 3 => some 37
    | 4 => some 38
    | 5 => some 39
    | 8 => some 32
    | 9 => some 33
    | _ => none

/-- The gate of the island that an address of the memory space lies in. -/
def addrGate (a : Nat) : Option Nat :=
  match fabTarget a with
  | 20 => some 32
  | 21 => some 33
  | 24 => some 38
  | 26 => blockGate (a - 0x0B000000)
  | t => if 12 ≤ t ∧ t < 20 then some ((a - 0x06000000) / 0x80000) else none

end Sys2Proof.Machine
end

