-- ==== Sys2Proof/Machine/Collector.lean ====
section
/-!
DEFINITION. The Collectors (R392 to R400) and what a change of the block's state does to the host Collector.
-/
namespace Sys2Proof.Machine

open Sys2Proof

/-! ### Sources -/

/-- The host Collector's pulse sources (Table HP-3). -/
def pulseSource (k : Nat) : Bool :=
  decide (k = 4 ∨ k = 7 ∨ (16 ≤ k ∧ k ≤ 18) ∨ (24 ≤ k ∧ k ≤ 26) ∨ (32 ≤ k ∧ k < 96))

/-- A source at its reset configuration (Table HP-7). `host` tells the host Collector from a Dorden Collector. -/
def srcDefault (host : Bool) (k : Nat) : ColSrc :=
  { prio := 0, sense := if host && pulseSource k then 2 else 0, maxrate := 0, coal := 0, pend := false, insvc := false
    raw := false, storm := false, cnt := 0 }

/-- A source of a Collector. -/
def Collector.src (c : Collector) (host : Bool) (k : Nat) : ColSrc := Sparse.get (srcDefault host) c.srcs k

/-- Replaces a source. -/
def Collector.put (c : Collector) (host : Bool) (k : Nat) (x : ColSrc) : Collector :=
  { c with srcs := Sparse.set (srcDefault host) c.srcs k x }

/-- Whether a source has a level sense, and whether a level source is active (R393). -/
def ColSrc.level (x : ColSrc) : Bool := decide (x.sense ≤ 1)
def ColSrc.active (x : ColSrc) : Bool := if x.sense = 0 then x.raw else !x.raw

/-- PEND (R394). -/
def ColSrc.pending (x : ColSrc) : Bool := if x.level then x.active && !x.insvc && !x.storm else x.pend

/-- R395: a source qualifies above running priority `rp`. -/
def ColSrc.qualifies (x : ColSrc) (rp : Nat) : Bool := x.pending && !x.insvc && !x.storm && decide (rp < x.prio)

/-- The source that a CLAIM returns: the highest PRIO, the lowest number among equals (R396). A source whose configuration is
the reset one has PRIO 0 and never qualifies. -/
def Collector.best (c : Collector) (host : Bool) : Option Nat :=
  c.srcs.foldl (fun (b : Option Nat) p =>
    let x := c.src host p.1
    if x.qualifies c.rp then
      match b with
      | some k => if (c.src host k).prio < x.prio ∨ ((c.src host k).prio = x.prio ∧ p.1 < k) then some p.1 else b
      | none => some p.1
    else b) none

/-- REQ (R395). -/
def Collector.reqNow (c : Collector) (host : Bool) : Bool := (c.best host).isSome

/-! ### Inputs -/

/-- R393, R394, R399: a source triggers, with `more` further edges in the same cycle. -/
def ColSrc.trigger (x : ColSrc) (more : Nat) : ColSrc :=
  if x.storm then x
  else
    let n := if x.maxrate = 0 then x.cnt else x.cnt + 1
    if x.maxrate ≠ 0 ∧ x.maxrate < n then { x with cnt := n, storm := true, pend := x.pend && x.insvc }
    else if x.level then { x with cnt := n }
    else { x with cnt := n, pend := true, coal := min (x.coal + more + x.pend.toNat) 255 }

/-- R393: the input of a source rises `rises` times and falls `falls` times in one Collector cycle and then stands at
`level`. -/
def ColSrc.input (x : ColSrc) (rises falls : Nat) (level : Bool) : ColSrc :=
  let y := { x with raw := level }
  let n := if x.sense = 2 then rises else if x.sense = 3 then falls else if x.sense = 4 then rises + falls else 0
  if x.level then (if y.active && !x.active then y.trigger 0 else y)
  else if n = 0 then y
  else y.trigger (n - 1)

/-- A change of the input of source `k`. -/
def Collector.input (c : Collector) (host : Bool) (k rises falls : Nat) (level : Bool) : Collector :=
  c.put host k ((c.src host k).input rises falls level)

/-! ### CLAIM and EOI -/

/-- R396: a CLAIM and what it returns. -/
def Collector.claim (c : Collector) (host : Bool) : Collector × Nat :=
  match c.best host with
  | none => (c, 0)
  | some k =>
    if 16 ≤ c.stack.length then ({ c with stackErr := true }, 0)
    else
      let x := c.src host k
      let c := c.put host k { x with insvc := true, pend := x.pend && x.level }
      ({ c with stack := (c.rp, k) :: c.stack, rp := x.prio }, k)

/-- R397: an EOI that names source `v`. -/
def Collector.eoi (c : Collector) (host : Bool) (v : Nat) : Collector :=
  match c.stack with
  | [] => { c with stackErr := true }
  | (p, k) :: rest =>
    let c := c.put host k { c.src host k with insvc := false }
    { c with stack := rest, rp := p, eoiMismatch := c.eoiMismatch || decide (v ≠ k) }

/-! ### Configuration -/

/-- R400: a write of SENSE; one that changes it clears PEND and COALESCED. -/
def ColSrc.setSense (x : ColSrc) (v : Nat) : ColSrc :=
  if x.sense = v then x else { x with sense := v, pend := false, coal := 0 }

/-- R399: a W1C write of STORM. -/
def ColSrc.clearStorm (x : ColSrc) : ColSrc := { x with storm := false }

/-- R399: a new 1 ms window. -/
def Collector.window (c : Collector) (host : Bool) : Collector :=
  c.srcs.foldl (fun (c : Collector) p =>
    if (c.src host p.1).maxrate = 0 then c else c.put host p.1 { c.src host p.1 with cnt := 0 }) c

/-- The word of a source's register (Table HP-7). -/
def ColSrc.word (x : ColSrc) : Nat :=
  x.prio + 16 * x.sense + 256 * x.maxrate + 65536 * x.coal + 2 ^ 24 * x.pending.toNat + 2 ^ 25 * x.insvc.toNat +
    2 ^ 26 * x.raw.toNat + 2 ^ 27 * x.storm.toNat

/-! ### The host Collector in the block -/

/-- Whether the host port can send an MSI (R395, R376, R379). -/
def HostRegion.msiOn (h : HostRegion) : Bool :=
  !h.flag F.HP_STRAP_HOSTSEL && h.flag F.HP_PCIE_MSI_EN && h.flag F.HP_PCIE_BME && !h.d3hot && h.flag F.HP_PCIE_SPEED

/-- R395: REQ as it follows from the sources; an MSI at its rise, and after an EOI that leaves it at 1. -/
def HostRegion.updateReq (h : HostRegion) (eoi : Bool) : HostRegion :=
  let now := h.col.reqNow true
  let send := now && (eoi || !h.col.req) && h.msiOn
  { h with col := { h.col with req := now }, msis := h.msis + send.toNat }

/-- A change of the input of host source `k`. In power-on reset the Collector stays as it is. -/
def HostRegion.input (h : HostRegion) (k rises falls : Nat) (level : Bool) : HostRegion :=
  if h.held then h else ({ h with col := h.col.input true k rises falls level } : HostRegion).updateReq false

/-- A pulse on host source `k` (R392). -/
def HostRegion.pulse (h : HostRegion) (k : Nat) : HostRegion := h.input k 1 1 false

/-- The condition of a host level source (Table HP-3). -/
def State.colLevel (s : State) (k : Nat) : Bool :=
  let h := s.host
  let stopped := fun (m : Mode) => decide (m = .coast ∨ m = .halt)
  match k with
  | 1 => h.col.stackErr || h.col.eoiMismatch
  | 2 => h.flag F.HP_ACC_ERR_SIDE0 || h.flag F.HP_ACC_ERR_SIDE1
  | 3 => h.flag F.HP_MB_STAT_TWIN_REF
  | 5 => h.flag F.HP_SEAM_STAT_REFUSED || h.flag F.HP_SEAM_STAT_SAME_CYCLE
  | 6 => h.flag F.HP_RLY_STAT_NO_ROUTE || h.flag F.HP_RLY_STAT_REROUTED
  | 8 => h.flag F.HP_BF_STAT_ERR
  | 19 => stopped s.side0.mode
  | 27 => stopped s.side1.mode
  | 20 => h.flag F.HP_MB_STAT_DB_REF0
  | 28 => h.flag F.HP_MB_STAT_DB_REF1
  | _ => false

/-- The host Collector's level sources (Table HP-3). -/
def levelSources : List Nat := [1, 2, 3, 5, 6, 8, 19, 20, 27, 28]

/-- The host region once its Collector has followed the state: level sources whose condition has changed, and the mode copies that
changed since `old` (Table HP-3). -/
def State.followed (s old : State) : HostRegion :=
  let copy := fun (h : HostRegion) (k : Nat) (a b : Mode) => if a = b then h else h.pulse k
  levelSources.foldl (fun (h : HostRegion) k =>
    let on := s.colLevel k
    if (h.col.src true k).raw = on then h else h.input k on.toNat (!on).toNat on)
    (copy (copy s.host 18 old.side0.mode s.side0.mode) 26 old.side1.mode s.side1.mode)

/-- The host Collector follows the state. -/
def State.settle (s old : State) : State := { s with host := s.followed old }

/-- What a command answers when it goes on. -/
abbrev Answer : Type := Host.Outcome State Fault Refusal

/-- A command's answer: the state it leads to, which the host Collector follows. -/
def State.answer (old new : State) : Answer := .next (new.settle old)

/-- A command that changes one Side. -/
def State.go (s : State) (sd : SideId) (f : Side → Side) : Answer := s.answer (s.onSide sd f)

end Sys2Proof.Machine
end

