-- ==== Sys2Proof/Machine/Checksums.lean ====
section
/-!
DEFINITION. The comparison of row checksums (R210 to R212) and the failure of Rejoin (R241, R244).
-/
namespace Sys2Proof.Machine

open Sys2Proof

/-- Changes the Twin state. -/
def Side.onTwin (sd : Side) (f : Twin → Twin) : Side := { sd with twin := f sd.twin }

/-- TW_STAT.LINK_HEARD and SEAM_HEARD: the path is not silent for the timeout (R216). -/
def Side.linkHeard (sd : Side) : Bool := decide (sd.get F.TW_SILENT_LINK < sd.get F.TW_CTRL_TIMEOUT)
def Side.seamHeard (sd : Side) : Bool := decide (sd.get F.TW_SILENT_SEAM < sd.get F.TW_CTRL_TIMEOUT)

/-- TW_STAT.IN_STEP (R212). -/
def Side.inStep (sd : Side) : Bool := decide (1024 ≤ sd.get F.TW_MATCH)

/-- Rework, rejoining (R238): TW_MIR.STATE from pass 1 to checking. -/
def Side.rejoining (sd : Side) : Bool :=
  decide (sd.mode = .rework ∧ 1 ≤ sd.get F.TW_MIR_STATE ∧ sd.get F.TW_MIR_STATE ≤ 5)

/-- The checking phase of Rejoin (R244). -/
def Side.checking (sd : Side) : Bool := decide (sd.mode = .rework ∧ sd.get F.TW_MIR_STATE = 5)

/-- R222, R241, R244: Rejoin fails with a cause: the Side leaves rejoining at its next row boundary. -/
def Side.rejoinFail (sd : Side) (cause : Nat) : Side :=
  if sd.rejoining && sd.twin.failDue.isNone then sd.onTwin (fun t => { t with failDue := some cause }) else sd

/-- The checksum this Side formed of a row. -/
def Twin.chk (t : Twin) (row : Nat) : Option Nat := (t.chks.find? (fun p => p.1 = row)).map Prod.snd

/-- R211: a mismatch in row `m`. In the checking phase it ends Rejoin (R244). -/
def Side.mismatch (sd : Side) (m : Nat) : Side :=
  let sd := (sd.incSat F.TW_DIV_CNT_COUNT).set F.TW_MATCH 0
  let sd :=
    if sd.flag F.TW_STAT_DIVERGE then sd.set F.TW_STAT_DIV_MULTI 1
    else ((sd.set64 F.TW_DIV_ROW_LO F.TW_DIV_ROW_HI m).set F.TW_STAT_DIVERGE 1).raise 0x0008 0 (leBytes 8 m)
  if sd.checking then sd.rejoinFail 2 else sd

/-- R210: whether a Side may compare rows, as far as it goes by its own state: its link path is heard, and it is in Lead, in Follow and not
unlinked, or in the checking phase. -/
def Side.comparing (sd : Side) : Bool :=
  sd.linkHeard && (decide (sd.mode = .lead) || (decide (sd.mode = .follow) && !sd.flag F.TW_STAT_UNLINKED) || sd.checking)

/-- R210: whether Side `x` compares rows with partner `y`. -/
def compares (x y : Side) : Bool :=
  x.comparing &&
    (if x.checking then decide (y.mode = .lead)
     else decide (y.mode = .lead ∨ y.mode = .follow) || (decide (x.mode = .lead) && y.checking))

/-- R210, R212: the comparison of row `m` with the partner's checksum, if it formed one. -/
def Side.compareRow (sd : Side) (m : Nat) (peer : Option Nat) : Side :=
  let own := sd.twin.chk m
  if own.isNone && peer.isNone then sd
  else
    let sd := ((sd.set F.TW_CHK_ROW m).set F.TW_CHK_OWN (own.getD 0)).set F.TW_CHK_PEER (peer.getD 0)
    if own = peer then sd.incSat F.TW_MATCH else sd.mismatch m

/-- R210: whether the Side has its own checksum of row `m`, or has ended that row without one. -/
def Side.hasOwn (sd : Side) (m : Nat) : Bool := (sd.twin.chk m).isSome || (decide (m < sd.row) && decide (sd.gauge.waits ≠ some m))

/-- R210: the rows whose heartbeat has come are compared, in order, once the Side has its own checksum of them. -/
def Side.compareDue (sd : Side) : Side :=
  let now := sd.twin.peers.filter (fun p => sd.hasOwn p.1)
  let sd := sd.onTwin (fun t => { t with peers := t.peers.filter (fun p => !now.contains p) })
  now.foldl (fun (x : Side) p => if x.comparing then x.compareRow p.1 p.2 else x) sd

end Sys2Proof.Machine
end

