-- ==== Sys2Proof/Machine/Fixed.lean ====
section
/-!
DEFINITION. Fixed-point arithmetic for the tables and constants the spec gives by a formula: sine (R141), powers of two and of
ten (Table PB-8), to 128 fraction bits, which is far finer than any rounding the spec asks for.
-/
namespace Sys2Proof.Machine

/-- One, with 128 fraction bits. -/
def fxOne : Int := 2 ^ 128

/-- π with 128 fraction bits. -/
def fxPi : Int := 1069028584064966747859680373161870783300

/-- ln 2 with 128 fraction bits. -/
def fxLn2 : Int := 235865763225513294137944142764154484399

/-- ln 10 with 128 fraction bits. -/
def fxLn10 : Int := 783529105480883066805338482703447369891

/-- The sum of `n` more terms of the sine series from term `t`, the `k`-th, of argument squared `x2`. -/
def fxSinSum : Nat → Int → Int → Int → Int
  | 0, _, _, _ => 0
  | n + 1, t, x2, k => t + fxSinSum n (-(t * x2 / fxOne) / ((2 * k) * (2 * k + 1))) x2 (k + 1)

/-- The sine of `x`. -/
def fxSin (x : Int) : Int := fxSinSum 24 x (x * x / fxOne) 1

/-- The sum of `n` more terms of the exponential series from term `t`, the `k`-th, of argument `x`. -/
def fxExpSum : Nat → Int → Int → Int → Int
  | 0, _, _, _ => 0
  | n + 1, t, x, k => t + fxExpSum n (t * x / fxOne / k) x (k + 1)

/-- e to the power `x`, for `x` at most zero: halved until small, then squared back. -/
def fxExpNeg : Nat → Int → Int
  | 0, x => fxExpSum 40 fxOne x 1
  | n + 1, x => if x < -fxOne then let y := fxExpNeg n (x / 2); y * y / fxOne else fxExpSum 40 fxOne x 1

end Sys2Proof.Machine
end

