-- ==== Sys2Proof/Machine/Flags.lean ====
section
/-!
DEFINITION. Every number-format and flag computation of the Stitch cores: clamping into the accumulator (R70), store
rounding and saturation (R73, R74), wide loads (R76), the lane flags (R115) and the overflow record (R71, R75).
-/
namespace Sys2Proof.Machine

open Sys2Proof

/-- R70: an exact result as the accumulator receives it, and whether it was clamped. -/
def clamp56 (x : Int) : BitVec 56 × Bool :=
  if x > 2 ^ 55 - 1 then (BitVec.ofInt 56 (2 ^ 55 - 1), true)
  else if x < -(2 ^ 55) then (BitVec.ofInt 56 (-(2 ^ 55)), true)
  else (BitVec.ofInt 56 x, false)

/-- Saturation of an integer to 24 bits, and whether it saturated. -/
def sat24 (q : Int) : BitVec 24 × Bool :=
  if q > 2 ^ 23 - 1 then (BitVec.ofInt 24 (2 ^ 23 - 1), true)
  else if q < -(2 ^ 23) then (BitVec.ofInt 24 (-(2 ^ 23)), true)
  else (BitVec.ofInt 24 q, false)

/-- Rounds `x / 2^k` half to even. -/
def roundHalfEven (x : Int) (k : Nat) : Int :=
  let q := x / 2 ^ k
  let r := x - q * 2 ^ k
  if 2 * r > 2 ^ k then q + 1
  else if 2 * r = 2 ^ k && q % 2 = 1 then q + 1
  else q

/-- R73: the 24-bit result of a single-precision store with shift `k` (−8 to 7), and whether it saturated. The
accumulator times 2^(k+8) is an integer for every `k`, so the 23 bits below the kept field become 31. -/
def store24 (a : BitVec 56) (k : Int) : BitVec 24 × Bool :=
  sat24 (roundHalfEven (a.toInt * 2 ^ (k + 8).toNat) 31)

/-- R74: the 48-bit value of a double-precision store with shift `k`, and whether it saturated. -/
def store48 (a : BitVec 56) (k : Int) : BitVec 48 × Bool :=
  let e := a.toInt * 2 ^ (k + 8).toNat / 2 ^ 8
  if e > 2 ^ 47 - 1 then (BitVec.ofInt 48 (2 ^ 47 - 1), true)
  else if e < -(2 ^ 47) then (BitVec.ofInt 48 (-(2 ^ 47)), true)
  else (BitVec.ofInt 48 e, false)

/-- The right shift of a wide load: 9 to 15 count as 8 (Table SI-9). -/
def wideShift (k : Fin 16) : Nat := min k.val 8

/-- R76: a wide load into an accumulator. -/
def wideAcc (w : BitVec 32) (k : Nat) : BitVec 56 := BitVec.ofInt 56 (w.toInt * 2 ^ (23 - k))

/-- R76: a wide load into a data register, and whether it saturated. -/
def wideReg (w : BitVec 32) (k : Nat) : BitVec 24 × Bool := sat24 (roundHalfEven w.toInt k)

/-- Table SI-4: the exact accumulator value after a product `p`. -/
def fselApply (f : FSel) (a p : Int) : Int :=
  match f with
  | .add => a + p
  | .sub => a - p
  | .load => p
  | .neg => -p

/-- The exact result of a Format A instruction (Table SI-8). -/
def arithResult (fn : AFn) (x y k : Int) : Int :=
  match fn with
  | .add => x + y
  | .sub => x - y
  | .neg => -x
  | .abs => if x < 0 then -x else x
  | .ash => x * 2 ^ (k + 8).toNat / 2 ^ 8
  | .max => if x < y then y else x
  | .min => if y < x then y else x
  | .reserved => x

/-- Whether lane `l` is enabled (R102). -/
def laneOn (le : Fin 16) (l : Fin 4) : Bool := le.val.testBit l.val

/-- Four bits from a lane predicate. -/
def laneBits (f : Fin 4 → Bool) : BitVec 4 :=
  BitVec.ofNat 4 ((f 0).toNat + 2 * (f 1).toNat + 4 * (f 2).toNat + 8 * (f 3).toNat)

/-- The enabled lanes take new values, the others keep theirs (R102). -/
def mergeLanes {α : Type} (le : Fin 16) (old : Lanes α) (new : Fin 4 → α) : Lanes α :=
  Vector.ofFn (fun l => if laneOn le l then new l else old[l])

/-- A lane flag after an instruction: the enabled lanes take `new`. -/
def mergeBits (le : Fin 16) (old : BitVec 4) (new : Fin 4 → Bool) : BitVec 4 :=
  laneBits (fun l => if laneOn le l then new l else old.getLsbD l.val)

/-- R115: Z and N of the enabled lanes, from the value written. -/
def StitchRegs.setZN (r : StitchRegs) (le : Fin 16) (val : Fin 4 → Int) : StitchRegs :=
  { r with z := mergeBits le r.z (fun l => val l = 0), n := mergeBits le r.n (fun l => decide (val l < 0)) }

/-- R73, R76: the sticky SAT flags of the enabled lanes that saturated. -/
def StitchRegs.orSat (r : StitchRegs) (le : Fin 16) (sat : Fin 4 → Bool) : StitchRegs :=
  { r with sat := r.sat ||| laneBits (fun l => laneOn le l && sat l) }

/-- R70: the sticky OVF flags of the enabled lanes that clamped. -/
def StitchRegs.orOvf (r : StitchRegs) (le : Fin 16) (ovf : Fin 4 → Bool) : StitchRegs :=
  { r with ovf := r.ovf ||| laneBits (fun l => laneOn le l && ovf l) }

/-- R71: the overflow record of core `k` after an instruction at `pc` that clamped `lanes`; no lane, no entry. The first
one since the record was cleared raises ARITH. -/
def Side.recordOvf (sd : Side) (k : Nat) (pc : BitVec 14) (lanes : BitVec 4) : Side :=
  if lanes = 0 then sd
  else
    let sd := sd.incSat (F.SK_ARITH_CNT_OVF_COUNT k)
    if sd.flag (F.SK_OVF_PC_VALID k) then sd.set (F.SK_OVF_PC_MULTI k) 1
    else
      (((sd.set (F.SK_OVF_PC_PC k) pc.toNat).set (F.SK_OVF_PC_LANES k) lanes.toNat).set (F.SK_OVF_PC_VALID k) 1).raise
        0x0003 k (leBytes 2 pc.toNat ++ leBytes 1 lanes.toNat)

/-- R75: each instruction that saturates in at least one lane counts once. -/
def Side.recordSat (sd : Side) (k : Nat) (lanes : BitVec 4) : Side :=
  if lanes = 0 then sd else sd.incSat (F.SK_ARITH_CNT_SAT_COUNT k)

/-- The lanes an instruction clamped or saturated. -/
def hitLanes (le : Fin 16) (f : Fin 4 → Bool) : BitVec 4 := laneBits (fun l => laneOn le l && f l)

end Sys2Proof.Machine
end

