-- ==== Sys2Proof/Machine/Operands.lean ====
section
/-!
DEFINITION. The operand forms of the Stitch instruction set: memory operands (R103 to R105), circular addressing (R81),
delivery regions (R104), low-half addresses (R494), and reads and writes of vector words by lane (R62, R63).
-/
namespace Sys2Proof.Machine

open Sys2Proof

/-- The smallest power of two that is at least `n`, for `n` up to 2^14. -/
def pow2AtLeast (n : Nat) : Nat :=
  ((List.range 15).find? (fun i => decide (n ≤ 2 ^ i))).elim (2 ^ 14) (fun i => 2 ^ i)

/-- R81: a pointer after post-modification with step `m` and length `len`. -/
def postModify (p : BitVec 16) (m : Int) (len : BitVec 14) : BitVec 16 :=
  if len = 0 then BitVec.ofInt 16 (p.toNat + m)
  else
    let b := pow2AtLeast len.toNat
    let base : Int := p.toNat - p.toNat % b
    BitVec.ofInt 16 (base + (p.toNat - base + m) % len.toNat)

/-- R104: a region mode with SP other than X executes as mode 4 or mode 2. -/
def mofNorm (o : Mof) : Mof :=
  match o.sp, o.mode with
  | .x, _ => o
  | sp, .regOff p _ u => ⟨sp, .off p u⟩
  | sp, .regInc p _ => ⟨sp, .postInc p⟩
  | _, _ => o

/-- The pointer register an operand names; mode 5 names none. -/
def mofPtr (o : Mof) : Option (Fin 8) :=
  match o.mode with
  | .ind p | .postMod p | .postInc p | .postDec p | .off p _ | .regOff p _ _ | .regInc p _ => some p
  | .abs _ => none

/-- The region an operand names, in modes 6 and 7. -/
def mofRegion (o : Mof) : Option (Fin 8) :=
  match (mofNorm o).mode with
  | .regOff _ g _ | .regInc _ g => some g
  | _ => none

/-- R104: the page base of region `g` of core `k`: KIND OUT names the working page, IN and SUM the page that is read. -/
def Side.pageBase (sd : Side) (k : Nat) (g : Nat) : Nat :=
  let page :=
    match sd.get (F.SK_REG_KIND k g) with
    | 1 | 2 => sd.get (F.SK_REG_PAGE k g)
    | 3 => 1 - sd.get (F.SK_REG_PAGE k g)
    | _ => 0
  sd.get (F.SK_REG_BASE k g) + page * sd.get (F.SK_REG_LEN k g)

/-- Table SI-3: the address an operand forms, before R80. -/
def Side.mofAddr (sd : Side) (k : Nat) (r : StitchRegs) (o : Mof) : BitVec 16 :=
  match (mofNorm o).mode with
  | .ind p | .postMod p | .postInc p | .postDec p => r.p[p]
  | .off p u => r.p[p] + BitVec.ofNat 16 u.val
  | .abs a => BitVec.ofNat 16 a.val
  | .regOff p g u => BitVec.ofNat 16 (sd.pageBase k g.val) + r.p[p] + BitVec.ofNat 16 u.val
  | .regInc p g => BitVec.ofNat 16 (sd.pageBase k g.val) + r.p[p]

/-- Table SI-3: the operand's pointer and its value afterwards. -/
def StitchRegs.mofStep (r : StitchRegs) (o : Mof) : Option (Fin 8 × BitVec 16) :=
  match (mofNorm o).mode with
  | .postMod p => some (p, postModify r.p[p] (r.m[p]).toInt r.l[p])
  | .postInc p => some (p, postModify r.p[p] 1 r.l[p])
  | .postDec p => some (p, postModify r.p[p] (-1) r.l[p])
  | .regInc p _ => some (p, r.p[p] + 1)
  | _ => none

/-- Writes a pointer step back. -/
def StitchRegs.stepPtr (r : StitchRegs) : Option (Fin 8 × BitVec 16) → StitchRegs
  | some (p, v) => { r with p := r.p.set p v }
  | none => r

/-- Pointer modification of an instruction with one memory operand. -/
def StitchRegs.step1 (r : StitchRegs) (o : Mof) : StitchRegs := r.stepPtr (r.mofStep o)

/-- R105: pointer modification with two memory operands. When both name one pointer register, it receives only the
modification of the later-encoded operand `b`. -/
def StitchRegs.step2 (r : StitchRegs) (a b : Mof) : StitchRegs :=
  if (mofPtr a).isSome && mofPtr a = mofPtr b then r.stepPtr (r.mofStep b)
  else (r.stepPtr (r.mofStep a)).stepPtr (r.mofStep b)

/-- R494: the low-half address of a double sample whose high half lies at `v`. -/
def StitchRegs.lowHalf (r : StitchRegs) (o : Mof) (v : BitVec 16) : BitVec 16 :=
  match (mofNorm o).mode with
  | .ind p | .postMod p | .postInc p | .postDec p => postModify v 1 r.l[p]
  | _ => v + 1

/-- The memory address of a vector word of core `k` (R62, R80, Table MM-2); C names the active bank. -/
def Side.vecAddr (sd : Side) (k : Nat) (sp : Space) (v : BitVec 16) : Nat :=
  match sp with
  | .x => coreBase k + 0x20000 + 16 * (v.toNat % 8192)
  | .y => coreBase k + 0x40000 + 16 * (v.toNat % 8192)
  | .c | .cb => coreBase k + 0x60000 + 0x10000 * sd.get (F.SK_CBANK_ACTIVE k) + 16 * (v.toNat % 4096)

/-- R62: the 32-bit lane word an instruction reads in lane `l`; a broadcast read takes lane word 0. -/
def Side.laneWord (sd : Side) (k : Nat) (sp : Space) (v : BitVec 16) (l : Fin 4) : BitVec 32 :=
  match sp with
  | .cb => sd.rtWord (sd.vecAddr k sp v)
  | _ => sd.rtWord (sd.vecAddr k sp v + 4 * l.val)

/-- R63: the sample in a lane word, bits [31:8]. -/
def sampleOf (w : BitVec 32) : BitVec 24 := w.extractLsb' 8 24

/-- R63: a lane word holding a sample. -/
def wordOf (d : BitVec 24) : BitVec 32 := d ++ 0#8

/-- R447: what a read of a vector word does to the error marks and records of its two 64-bit words. -/
def Side.touchVec (sd : Side) (k : Nat) (sp : Space) (v : BitVec 16) : Side :=
  (sd.eccTouch (sd.vecAddr k sp v)).eccTouch (sd.vecAddr k sp v + 8)

/-- R88: whether a read through the operand must wait for its region's announcement. -/
def Side.regionWaits (sd : Side) (k : Nat) (o : Mof) : Bool :=
  match mofRegion o with
  | some g => (sd.get (F.SK_REG_KIND k g.val) = 1 || sd.get (F.SK_REG_KIND k g.val) = 2) && !sd.flag (F.SK_REG_READY k g.val)
  | none => false

/-- R105, R104: whether a write through the operand is carried out; C and IN or SUM regions take none. -/
def Side.mofWrites (sd : Side) (k : Nat) (o : Mof) : Bool :=
  match o.sp with
  | .c | .cb => false
  | _ =>
    match mofRegion o with
    | some g => !(sd.get (F.SK_REG_KIND k g.val) = 1 || sd.get (F.SK_REG_KIND k g.val) = 2)
    | none => true

/-- Writes the enabled lanes of a vector word (R102). Two lanes fill a 64-bit word, which then needs no merge (R448). -/
def Side.putVec (sd : Side) (k : Nat) (sp : Space) (v : BitVec 16) (le : Fin 16) (w : Fin 4 → BitVec 32) : Side :=
  let put := fun (s : Side) (l : Fin 4) => if laneOn le l then s.putWord (sd.vecAddr k sp v + 4 * l.val) (w l) else s
  let whole := fun (s : Side) (l m : Fin 4) => if laneOn le l && laneOn le m then s.setUpset (sd.vecAddr k sp v + 4 * l.val) 0 else s
  put (put (put (put (whole (whole sd 0 1) 2 3) 0) 1) 2) 3

/-- A store through a memory operand. -/
def Side.storeMof (sd : Side) (k : Nat) (o : Mof) (v : BitVec 16) (le : Fin 16) (w : Fin 4 → BitVec 32) : Side :=
  if sd.mofWrites k o then sd.putVec k o.sp v le w else sd

end Sys2Proof.Machine
end

