-- ==== Sys2Proof/Machine/Stitch.lean ====
section
/-!
DEFINITION. The Stitch instructions: what each does to its core's registers, to the Side's memory and records, and where
issue goes next (chapters Stitch Core Architecture and Stitch Instruction Set).
-/
namespace Sys2Proof.Machine

open Sys2Proof

/-! ### Loops and issue -/

/-- R117: the end test after an instruction at `a` issued, over the active loops: the innermost loop's start and end,
LC, and the enclosing loops. The result is where issue goes, with the loops and LC afterwards. LC keeps its last value when the outermost
loop ends: the spec says only that it takes the enclosing loop's count (DESIGN CHOICE, log entry 132). -/
def endTest (a : BitVec 14) (inner : Option (BitVec 14 × BitVec 14)) (lc : BitVec 16) :
    List LoopEntry → BitVec 14 × Option (BitVec 14 × BitVec 14) × BitVec 16 × List LoopEntry
  | [] =>
    match inner with
    | some (s, e) =>
      if e = a then
        if 1 < lc.toNat then (s, inner, lc - 1, []) else (a + 1, none, lc, [])
      else (a + 1, inner, lc, [])
    | none => (a + 1, none, lc, [])
  | o :: rest =>
    match inner with
    | some (s, e) =>
      if e = a then
        if 1 < lc.toNat then (s, inner, lc - 1, o :: rest)
        else endTest a (some (o.start, o.stop)) o.count rest
      else (a + 1, inner, lc, o :: rest)
    | none => (a + 1, none, lc, o :: rest)

/-- Issue goes on after the instruction at the core's pc, with the end test. -/
def Core.advance (c : Core) : Core :=
  let t := endTest c.pc c.r.inner c.r.lc c.r.stack
  { c with pc := t.1, r := { c.r with inner := t.2.1, lc := t.2.2.1, stack := t.2.2.2 } }

/-- Issue goes to `target` without an end test: a taken JMP, a LOOP that skips its body. -/
def Core.jumpTo (c : Core) (target : BitVec 14) : Core := { c with pc := target }

/-- The number of active loops, LDEPTH. -/
def StitchRegs.depth (r : StitchRegs) : Nat := r.inner.isSome.toNat + r.stack.length

/-- The end addresses of the active loops. -/
def StitchRegs.loopEnds (r : StitchRegs) : List (BitVec 14) :=
  (match r.inner with
    | some p => [p.2]
    | none => []) ++ r.stack.map LoopEntry.stop

/-! ### Register writes -/

/-- Writes the enabled lanes of a data register. -/
def StitchRegs.putV (r : StitchRegs) (d : Fin 8) (le : Fin 16) (x : Fin 4 → BitVec 24) : StitchRegs :=
  { r with v := r.v.set d (mergeLanes le r.v[d] x) }

/-- Writes the enabled lanes of an accumulator. -/
def StitchRegs.putA (r : StitchRegs) (d : Fin 4) (le : Fin 16) (x : Fin 4 → BitVec 56) : StitchRegs :=
  { r with a := r.a.set d (mergeLanes le r.a[d] x) }

/-- The low register of pair `n`: V(n + 4). -/
def pairLow (n : Fin 4) : Fin 8 := ⟨n.val + 4, by omega⟩

/-- The high register of pair `n`. -/
def pairHigh (n : Fin 4) : Fin 8 := ⟨n.val, by omega⟩

/-- Table SK-2: a double sample from its two halves; the low half is unsigned. -/
def dblOf (hi lo : BitVec 24) : Int := (hi ++ lo).toInt

/-- R77: what a write of `x` leaves in a length register. -/
def lenOf (x : Nat) : BitVec 14 := BitVec.ofNat 14 (min x 8192)

/-- Table SI-12: writes the shared register CLS:IDX; classes 4 to 7 name none (R116). -/
def StitchRegs.putShared (r : StitchRegs) (cls : Fin 8) (idx : Fin 8) (x : BitVec 16) : StitchRegs :=
  match cls.val with
  | 0 => { r with p := r.p.set idx x }
  | 1 => { r with m := r.m.set idx x }
  | 2 => { r with l := r.l.set idx (lenOf x.toNat) }
  | 3 => { r with lc := x }
  | _ => r

/-- The value of the shared register CLS:IDX; none for classes 4 to 7. -/
def StitchRegs.shared (r : StitchRegs) (cls : Fin 8) (idx : Fin 8) : Option (BitVec 16) :=
  match cls.val with
  | 0 => some r.p[idx]
  | 1 => some r.m[idx]
  | 2 => some (r.l[idx].setWidth 16)
  | 3 => some r.lc
  | _ => none

/-! ### Accumulator updates -/

/-- Table SI-4 with R70 and R71: accumulator `acc` takes `f` of its value and the lane products; the enabled lanes that
clamp set OVF and enter the overflow record. Gives the registers and the clamped lanes. -/
def StitchRegs.accumulate (r : StitchRegs) (le : Fin 16) (acc : Fin 4) (f : FSel) (p : Fin 4 → Int) :
    StitchRegs × BitVec 4 :=
  let res := fun l : Fin 4 => clamp56 (fselApply f (r.a[acc][l]).toInt (p l))
  ((r.putA acc le (fun l => (res l).1)).orOvf le (fun l => (res l).2), hitLanes le (fun l => (res l).2))

/-- Installs the registers of a core and records its clamped lanes. -/
def Side.commitAcc (sd : Side) (k : Fin 32) (x : StitchRegs × BitVec 4) : Side :=
  ((sd.setRegs k x.1).recordOvf k.val ((sd.cores[k]).pc) x.2)

/-- R68: the scaled product of a sample and a coefficient. -/
def product (d c : BitVec 24) (s : Fin 4) : Int := d.toInt * c.toInt * 2 ^ s.val

/-- R69: the scaled double-precision product. -/
def dblProduct (D : Int) (c : BitVec 24) (s : Fin 4) : Int := D * c.toInt / 2 ^ 23 * 2 ^ s.val

/-! ### Memory waits -/

/-- The operands an instruction reads memory through. -/
def opReads : StOp → List Mof
  | .tap _ m | .macm _ m => [m.mofa, m.mofb]
  | .macr _ r => if r.csel || r.mdir.val = 1 then [r.mof] else []
  | .dmac _ d => if d.dsrc then [d.mofa, d.mofb] else [d.mofb]
  | .lda _ l => if l.src then [l.mof] else []
  | .ldw l => [l.mof]
  | .ld l => [l.mof]
  | _ => []

/-- The data registers an instruction reads or writes (Table SI-13, for data of a far load still to come). -/
def opDataRegs : StOp → List (Fin 8)
  | .macr _ r => r.da :: (if r.csel then [] else if r.mdir.val = 1 || r.mdir.val = 2 then [r.db, r.dm] else [r.db])
  | .dmac _ d => if d.dsrc then [] else [pairHigh d.n, pairLow d.n]
  | .lda _ l =>
    if l.src then [] else if l.dbl then [pairHigh ⟨l.dr.val % 4, by omega⟩, pairLow ⟨l.dr.val % 4, by omega⟩] else [l.dr]
  | .ldw l => if l.dest then [l.dr] else []
  | .ld l | .st l => [l.dr]
  | .mva l => [l.dr]
  | .dmva l => [pairHigh l.n, pairLow l.n]
  | .mov l => [l.dr, l.dr2]
  | .cmov l => [l.dr, l.dr2]
  | .fld p | .fst p => [p.dr]
  | _ => []

/-- R88: the instruction waits for a region's announcement. -/
def Side.waitsIn (sd : Side) (k : Nat) (op : StOp) : Bool := (opReads op).any (fun o => sd.regionWaits k o)

/-- R88: the regions it waits for. -/
def Side.waitRegions (sd : Side) (k : Nat) (op : StOp) : List Nat :=
  (((opReads op).filter (fun o => sd.regionWaits k o)).filterMap mofRegion).map Fin.val

/-- R83: the instruction waits for far data, or for a free entry of the far queue. -/
def Core.waitsFar (c : Core) (op : StOp) : Bool :=
  (opDataRegs op).any (fun d => c.far.any (fun f => f.load && f.dr = d)) ||
    (match op with
      | .fld _ | .fst _ => decide (8 ≤ c.far.length)
      | _ => false)

/-! ### Instructions -/

/-- R108: whether TAP's sample operand allows its write-behind. -/
def mofTapOk (o : Mof) : Bool :=
  match o.sp, o.mode with
  | .x, .ind _ | .x, .postMod _ | .x, .postInc _ | .x, .postDec _ => true
  | _, _ => false

/-- MACM (R109): multiply with two memory operands. -/
def Side.runMacm (sd : Side) (k : Fin 32) (f : FSel) (m : FmtM) : Side :=
  let r := (sd.cores[k]).r
  let va := sd.mofAddr k r m.mofa
  let vb := sd.mofAddr k r m.mofb
  let p := fun l => product (sampleOf (sd.laneWord k m.mofa.sp va l)) (sampleOf (sd.laneWord k m.mofb.sp vb l)) m.s
  let res := r.accumulate m.le m.acc f p
  ((sd.touchVec k m.mofa.sp va).touchVec k m.mofb.sp vb).commitAcc k (res.1.step2 m.mofa m.mofb, res.2)

/-- TAP (R108): MACM with the write-behind of the sample to the next address; without it where the operand forbids it. -/
def Side.runTap (sd : Side) (k : Fin 32) (f : FSel) (m : FmtM) : Side :=
  if mofTapOk m.mofa then
    let r := (sd.cores[k]).r
    let x := sd.mofAddr k r m.mofa
    let x' := r.lowHalf m.mofa x
    (sd.runMacm k f m).putVec k .x x' m.le (fun l => wordOf (sampleOf (sd.laneWord k .x x l)))
  else sd.runMacm k f m

/-- MACR (R110): multiply with a register operand and an optional parallel move. -/
def Side.runMacr (sd : Side) (k : Fin 32) (f : FSel) (o : FmtR) : Side :=
  let r := (sd.cores[k]).r
  let v := sd.mofAddr k r o.mof
  let word := fun l => sampleOf (sd.laneWord k o.mof.sp v l)
  let c := fun l => if o.csel then word l else r.v[o.db][l]
  let res := r.accumulate o.le o.acc f (fun l => product (r.v[o.da][l]) (c l) o.s)
  if o.csel then (sd.touchVec k o.mof.sp v).commitAcc k (res.1.step1 o.mof, res.2)
  else
    match o.mdir.val with
    | 1 => (sd.touchVec k o.mof.sp v).commitAcc k ((res.1.putV o.dm o.le word).step1 o.mof, res.2)
    | 2 => (sd.storeMof k o.mof v o.le (fun l => wordOf (r.v[o.dm][l]))).commitAcc k (res.1.step1 o.mof, res.2)
    | _ => sd.commitAcc k res

/-- DMAC (R111): double-precision multiply. -/
def Side.runDmac (sd : Side) (k : Fin 32) (f : FSel) (o : FmtD) : Side :=
  let r := (sd.cores[k]).r
  let vb := sd.mofAddr k r o.mofb
  let c := fun l => sampleOf (sd.laneWord k o.mofb.sp vb l)
  if o.dsrc then
    let va := sd.mofAddr k r o.mofa
    let va' := r.lowHalf o.mofa va
    let d := fun l => dblOf (sampleOf (sd.laneWord k o.mofa.sp va l)) (sampleOf (sd.laneWord k o.mofa.sp va' l))
    let res := r.accumulate o.le o.acc f (fun l => dblProduct (d l) (c l) o.s)
    (((sd.touchVec k o.mofa.sp va).touchVec k o.mofa.sp va').touchVec k o.mofb.sp vb).commitAcc k
      (res.1.step2 o.mofa o.mofb, res.2)
  else
    let d := fun l => dblOf (r.v[pairHigh o.n][l]) (r.v[pairLow o.n][l])
    let res := r.accumulate o.le o.acc f (fun l => dblProduct (d l) (c l) o.s)
    (sd.touchVec k o.mofb.sp vb).commitAcc k (res.1.step1 o.mofb, res.2)

/-- Format A (R112). FN 7 leaves everything as it is. -/
def Side.runArith (sd : Side) (k : Fin 32) (fn : AFn) (o : FmtA) : Side :=
  match fn with
  | .reserved => sd
  | _ =>
    let r := (sd.cores[k]).r
    let res := fun l : Fin 4 =>
      clamp56 (arithResult fn (r.a[o.aa][l]).toInt (r.a[o.ab][l]).toInt (BitVec.ofNat 4 o.k.val).toInt)
    sd.commitAcc k
      (((r.putA o.ad o.le (fun l => (res l).1)).orOvf o.le (fun l => (res l).2)).setZN o.le (fun l => ((res l).1).toInt),
        hitLanes o.le (fun l => (res l).2))

/-- The LDA family (R114, R72). -/
def Side.runLda (sd : Side) (k : Fin 32) (f : FSel) (o : LdaF) : Side :=
  let r := (sd.cores[k]).r
  let v := sd.mofAddr k r o.mof
  let v' := r.lowHalf o.mof v
  let n : Fin 4 := ⟨o.dr.val % 4, by omega⟩
  let p := fun l =>
    if o.src then
      if o.dbl then dblOf (sampleOf (sd.laneWord k o.mof.sp v l)) (sampleOf (sd.laneWord k o.mof.sp v' l))
      else (sampleOf (sd.laneWord k o.mof.sp v l)).toInt * 2 ^ 23
    else if o.dbl then dblOf (r.v[pairHigh n][l]) (r.v[pairLow n][l])
    else (r.v[o.dr][l]).toInt * 2 ^ 23
  let res := r.accumulate o.le o.acc f p
  if o.src then
    let sd' := sd.touchVec k o.mof.sp v
    (if o.dbl then sd'.touchVec k o.mof.sp v' else sd').commitAcc k (res.1.step1 o.mof, res.2)
  else sd.commitAcc k res

/-- LDW (R76). -/
def Side.runLdw (sd : Side) (k : Fin 32) (o : LdwF) : Side :=
  let r := (sd.cores[k]).r
  let v := sd.mofAddr k r o.mof
  let w := fun l => sd.laneWord k o.mof.sp v l
  let sh := wideShift o.k
  let sd := sd.touchVec k o.mof.sp v
  if o.dest then
    let q := fun l => wideReg (w l) sh
    let r := ((r.putV o.dr o.le (fun l => (q l).1)).orSat o.le (fun l => (q l).2)).setZN o.le (fun l => ((q l).1).toInt)
    (sd.setRegs k (r.step1 o.mof)).recordSat k (hitLanes o.le (fun l => (q l).2))
  else
    let a := fun l => wideAcc (w l) sh
    let r := (r.putA o.acc o.le a).setZN o.le (fun l => (a l).toInt)
    sd.setRegs k (r.step1 o.mof)

/-- LD (R114). -/
def Side.runLd (sd : Side) (k : Fin 32) (o : LdF) : Side :=
  let r := (sd.cores[k]).r
  let v := sd.mofAddr k r o.mof
  (sd.touchVec k o.mof.sp v).setRegs k
    ((r.putV o.dr o.le (fun l => sampleOf (sd.laneWord k o.mof.sp v l))).step1 o.mof)

/-- ST (R114). -/
def Side.runSt (sd : Side) (k : Fin 32) (o : LdF) : Side :=
  let r := (sd.cores[k]).r
  let v := sd.mofAddr k r o.mof
  (sd.storeMof k o.mof v o.le (fun l => wordOf (r.v[o.dr][l]))).setRegs k (r.step1 o.mof)

/-- The flags and the saturation count of a rounded store or move (R73, R115). -/
def StitchRegs.storeFlags (r : StitchRegs) (le : Fin 16) (q : Fin 4 → BitVec 24 × Bool) : StitchRegs :=
  (r.orSat le (fun l => (q l).2)).setZN le (fun l => ((q l).1).toInt)

/-- STA (R73). -/
def Side.runSta (sd : Side) (k : Fin 32) (o : StaF) : Side :=
  let r := (sd.cores[k]).r
  let v := sd.mofAddr k r o.mof
  let q := fun l => store24 (r.a[o.acc][l]) (BitVec.ofNat 4 o.k.val).toInt
  ((sd.storeMof k o.mof v o.le (fun l => wordOf (q l).1)).setRegs k ((r.storeFlags o.le q).step1 o.mof)).recordSat k
    (hitLanes o.le (fun l => (q l).2))

/-- MVA (R73). -/
def Side.runMva (sd : Side) (k : Fin 32) (o : MvaF) : Side :=
  let r := (sd.cores[k]).r
  let q := fun l => store24 (r.a[o.acc][l]) (BitVec.ofNat 4 o.k.val).toInt
  (sd.setRegs k ((r.putV o.dr o.le (fun l => (q l).1)).storeFlags o.le q)).recordSat k (hitLanes o.le (fun l => (q l).2))

/-- The flags of a double-precision store or move (R74, R115). -/
def StitchRegs.storeFlags48 (r : StitchRegs) (le : Fin 16) (q : Fin 4 → BitVec 48 × Bool) : StitchRegs :=
  (r.orSat le (fun l => (q l).2)).setZN le (fun l => ((q l).1).toInt)

/-- DSTA (R74, R494). -/
def Side.runDsta (sd : Side) (k : Fin 32) (o : DstaF) : Side :=
  let r := (sd.cores[k]).r
  let v := sd.mofAddr k r o.mof
  let q := fun l => store48 (r.a[o.acc][l]) (BitVec.ofNat 4 o.k.val).toInt
  let sd1 := sd.storeMof k o.mof v o.le (fun l => wordOf ((q l).1.extractLsb' 24 24))
  let sd2 := sd1.storeMof k o.mof (r.lowHalf o.mof v) o.le (fun l => wordOf ((q l).1.extractLsb' 0 24))
  (sd2.setRegs k ((r.storeFlags48 o.le q).step1 o.mof)).recordSat k (hitLanes o.le (fun l => (q l).2))

/-- DMVA (R74). -/
def Side.runDmva (sd : Side) (k : Fin 32) (o : DmvaF) : Side :=
  let r := (sd.cores[k]).r
  let q := fun l => store48 (r.a[o.acc][l]) (BitVec.ofNat 4 o.k.val).toInt
  let r1 := (r.putV (pairHigh o.n) o.le (fun l => (q l).1.extractLsb' 24 24)).putV (pairLow o.n) o.le
    (fun l => (q l).1.extractLsb' 0 24)
  (sd.setRegs k (r1.storeFlags48 o.le q)).recordSat k (hitLanes o.le (fun l => (q l).2))

/-- MOV (R114). -/
def Side.runMov (sd : Side) (k : Fin 32) (o : MovF) : Side :=
  let r := (sd.cores[k]).r
  sd.setRegs k (r.putV o.dr o.le (fun l => r.v[o.dr2][l]))

/-- COND of CMOV in one lane (Table SI-9). -/
def cmovHolds (r : StitchRegs) (cond : Fin 8) (l : Fin 4) : Bool :=
  match cond.val with
  | 0 => r.z.getLsbD l.val
  | 1 => !r.z.getLsbD l.val
  | 2 => r.n.getLsbD l.val
  | 3 => !r.n.getLsbD l.val
  | _ => false

/-- CMOV (R114): per lane. -/
def Side.runCmov (sd : Side) (k : Fin 32) (o : CmovF) : Side :=
  let r := (sd.cores[k]).r
  sd.setRegs k (r.putV o.dr o.le (fun l => if cmovHolds r o.cond l then r.v[o.dr2][l] else r.v[o.dr][l]))

/-- PSET (R116). -/
def Side.runPset (sd : Side) (k : Fin 32) (o : PsetF) : Side :=
  sd.setRegs k ((sd.cores[k]).r.putShared o.cls o.idx (BitVec.ofNat 16 o.imm.val))

/-- PADD (Table SI-12). -/
def Side.runPadd (sd : Side) (k : Fin 32) (o : PaddF) : Side :=
  let r := (sd.cores[k]).r
  sd.setRegs k { r with p := r.p.set o.idx (postModify r.p[o.idx] (BitVec.ofNat 16 o.imm.val).toInt r.l[o.idx]) }

/-- PMOV (R116). -/
def Side.runPmov (sd : Side) (k : Fin 32) (o : PmovF) : Side :=
  let r := (sd.cores[k]).r
  match r.shared o.scls o.sidx with
  | some x => sd.setRegs k (r.putShared o.cls o.idx x)
  | none => sd

/-- CLRF (Table SI-12). -/
def Side.runClrf (sd : Side) (k : Fin 32) (mask : Fin 8) : Side :=
  let r := (sd.cores[k]).r
  sd.setRegs k
    { r with
      ovf := if mask.val.testBit 0 then 0 else r.ovf
      sat := if mask.val.testBit 1 then 0 else r.sat
      loopErr := if mask.val.testBit 2 then false else r.loopErr }

/-- R118: whether a JMP is taken. -/
def jmpTaken (r : StitchRegs) (o : JmpF) : Bool :=
  let on := fun l : Fin 4 => laneOn o.le l
  let any := fun (f : BitVec 4) =>
    (on 0 && f.getLsbD 0) || (on 1 && f.getLsbD 1) || (on 2 && f.getLsbD 2) || (on 3 && f.getLsbD 3)
  let all := fun (f : BitVec 4) =>
    (!on 0 || f.getLsbD 0) && (!on 1 || f.getLsbD 1) && (!on 2 || f.getLsbD 2) && (!on 3 || f.getLsbD 3)
  match o.cond.val with
  | 0 => true
  | 1 => any r.z
  | 2 => o.le.val ≠ 0 && all r.z
  | 3 => any r.n
  | 4 => o.le.val ≠ 0 && all r.n
  | _ => false

/-- R117: LOOP at the core's pc. -/
def Core.runLoop (c : Core) (o : LoopF) : Core :=
  let r := c.r
  let stop := BitVec.ofNat 14 o.stop.val
  let count := if o.csrc then r.p[o.idx] else BitVec.ofNat 16 o.count.val
  if o.stop.val ≤ c.pc.toNat || c.pc ∈ r.loopEnds then c.advance
  else if count = 0 then c.jumpTo (stop + 1)
  else if 4 ≤ r.depth then { c with r := { r with loopErr := true } }.advance
  else
    let stack :=
      match r.inner with
      | some p => { start := p.1, stop := p.2, count := r.lc : LoopEntry } :: r.stack
      | none => r.stack
    { c with pc := c.pc + 1, r := { r with inner := some (c.pc + 1, stop), lc := count, stack := stack } }

/-- R82: the bank and the vector-word address a pointer pair names. -/
def StitchRegs.farAddr (r : StitchRegs) (j : Fin 4) : Nat × Nat :=
  let hi := r.p[(⟨2 * j.val + 1, by omega⟩ : Fin 8)]
  let lo := r.p[(⟨2 * j.val, by omega⟩ : Fin 8)]
  (hi.toNat / 8 % 16, (hi.toNat % 8) * 65536 + lo.toNat)

/-- R120: the 19-bit far address steps by 1; the other bits of P(2j+1) stay. -/
def StitchRegs.farStep (r : StitchRegs) (j : Fin 4) : StitchRegs :=
  let hi := r.p[(⟨2 * j.val + 1, by omega⟩ : Fin 8)]
  let a := ((r.farAddr j).2 + 1) % 2 ^ 19
  let p1 := r.p.set (⟨2 * j.val + 1, by omega⟩ : Fin 8) (BitVec.ofNat 16 (hi.toNat / 8 * 8 + a / 65536))
  { r with p := p1.set (⟨2 * j.val, by omega⟩ : Fin 8) (BitVec.ofNat 16 (a % 65536)) }

/-- FLD and FST (R120): one entry of the far queue. An access to a bank that the core's group does not own, to bank 12
to 15, or to a bank that is not On is discarded and sets FAR_ERR (R82, R446). -/
def Side.runFar (sd : Side) (k : Fin 32) (load : Bool) (o : FarF) : Side :=
  let c := sd.cores[k]
  let t := c.r.farAddr o.j
  let bad := decide (12 ≤ t.1) || sd.bankOwnerOf t.1 ≠ 1 + k.val / 4 || !sd.bankOn t.1
  let acc : FarAcc :=
    { load := load, dr := o.dr, le := o.le, bank := t.1, addr := t.2, data := c.r.v[o.dr], discarded := bad }
  let sd := sd.setCore k { c with r := if o.post then c.r.farStep o.j else c.r, far := c.far ++ [acc] }
  if bad then sd.set (F.SK_STAT_FAR_ERR k) 1 else sd

/-- What an instruction does besides its step of the pc. -/
def Side.runOp (sd : Side) (k : Fin 32) : StOp → Side
  | .tap f m => sd.runTap k f m
  | .macm f m => sd.runMacm k f m
  | .macr f r => sd.runMacr k f r
  | .dmac f d => sd.runDmac k f d
  | .arith fn a => sd.runArith k fn a
  | .lda f l => sd.runLda k f l
  | .ldw l => sd.runLdw k l
  | .ld l => sd.runLd k l
  | .st l => sd.runSt k l
  | .sta l => sd.runSta k l
  | .mva l => sd.runMva k l
  | .dsta l => sd.runDsta k l
  | .dmva l => sd.runDmva k l
  | .mov l => sd.runMov k l
  | .cmov l => sd.runCmov k l
  | .pset p => sd.runPset k p
  | .padd p => sd.runPadd k p
  | .pmov p => sd.runPmov k p
  | .clrf m => sd.runClrf k m
  | .fld p => sd.runFar k true p
  | .fst p => sd.runFar k false p
  | .eor => sd.setCore k { sd.cores[k] with eorIssued := true }
  | .loop _ | .jmp _ | .nop | .reserved _ => sd

/-- Where issue goes after an instruction: a LOOP and a taken JMP choose, every other instruction runs the end test. -/
def Core.next (c : Core) : StOp → Core
  | .loop o => c.runLoop o
  | .jmp o => if jmpTaken c.r o then c.jumpTo (BitVec.ofNat 14 o.target.val) else c.advance
  | _ => c.advance

/-- An instruction at the core's pc, with its waits: a wait sets STALL_IN or FAR_WAIT and issues nothing (R83, R88). -/
def Side.issueOp (sd : Side) (k : Fin 32) (op : StOp) : Side :=
  let c := sd.cores[k]
  if sd.waitsIn k op then sd.setCore k { c with stallOn := sd.waitRegions k op }
  else if c.waitsFar op then sd.setCore k { c with farWait := true }
  else
    let sd := sd.runOp k op
    let c' := (sd.cores[k]).next op
    sd.setCore k { c' with lastPc := c.pc, stallOn := [], farWait := false, brkPass := false }

/-- R98: breakpoints and HALT act in the Maker and Open states alone. -/
def Side.debugOn (sd : Side) : Bool := decide (sd.fuses.lc ≤ 1)

/-- R98: the breakpoint matches the instruction about to issue. -/
def Side.brkHit (sd : Side) (k : Fin 32) : Bool :=
  sd.debugOn && sd.flag (F.SK_BRK_EN k) && decide (sd.get (F.SK_BRK_ADDR k) = (sd.cores[k]).pc.toNat) &&
    !(sd.cores[k]).brkPass

/-- R90, R23: the core takes part in the row: its gate is open, RUN is set, its row work has started and EOR has not
issued. -/
def Side.coreActive (sd : Side) (k : Fin 32) : Bool :=
  sd.clocked && sd.gateOpen k.val && sd.flag (F.SK_CTRL_RUN k) && (sd.cores[k]).inRow && !(sd.cores[k]).eorIssued

/-- A Stitch core fetches (R447) and issues an instruction. A halted core issues none, and one that reaches its breakpoint
halts. -/
def Side.stitch (sd : Side) (k : Fin 32) (op : StOp) : Side :=
  if !sd.coreActive k || (sd.cores[k]).halted then sd
  else if sd.brkHit k then sd.setCore k { sd.cores[k] with halted := true }
  else (sd.eccTouch (coreBase k + 8 * (sd.cores[k]).pc.toNat)).issueOp k op

end Sys2Proof.Machine
end

