-- ==== Sys2Proof/Machine/StitchCtl.lean ====
section
/-!
DEFINITION. A Stitch core's row and its control: what a row pulse does to it (R87 to R93), end of row, the coefficient
bank swap and refill (R85), far accesses, announcements, RUN, HALT, STEP and breakpoints (R98).
-/
namespace Sys2Proof.Machine

open Sys2Proof

/-- How a producer marks an announcement (R87). -/
inductive Mark where
  | complete | held | idle
  deriving DecidableEq, Repr

/-- The code a published copy's mark is kept as. -/
def Mark.code : Mark → Nat
  | .complete => 0
  | .held => 1
  | .idle => 2

/-- R87, R89: region `g` of core `k` takes an announcement for row `row`; `toggle` says whether the page bit changes. -/
def Side.announce (sd : Side) (k g row : Nat) (m : Mark) (toggle : Bool) : Side :=
  let sd := if toggle then sd.set (F.SK_REG_PAGE k g) (1 - sd.get (F.SK_REG_PAGE k g)) else sd
  ((sd.set (F.SK_REG_HELD k g) (decide (m = .held)).toNat).set (F.SK_REG_IDLE k g) (decide (m = .idle)).toNat).set
    (F.SK_REG_ROW k g) (row % 65536)

/-- Applies `f` to each of the eight regions. -/
def Side.eachRegion (sd : Side) (f : Side → Nat → Side) : Side := (List.range 8).foldl f sd

/-- R89, R93: the announcements of a core's OUT regions for row `row`. -/
def Side.announceOut (sd : Side) (k row : Nat) (m : Mark) : Side :=
  let sd := sd.eachRegion (fun s g =>
    if s.get (F.SK_REG_KIND k g) = 3 then s.announce k g row m (decide (m = .complete)) else s)
  { sd with pages := { sd.pages with mark := Sparse.set (fun _ => 0) sd.pages.mark k m.code } }

/-- R88: READY is cleared in every IN and SUM region. -/
def Side.clearReady (sd : Side) (k : Nat) : Side :=
  sd.eachRegion (fun s g =>
    if s.get (F.SK_REG_KIND k g) = 1 ∨ s.get (F.SK_REG_KIND k g) = 2 then s.set (F.SK_REG_READY k g) 0 else s)

/-- The base of a core's C bank in the Side's memory space. -/
def cBank (k bank : Nat) : Nat := coreBase k + 0x60000 + 0x10000 * bank

/-- R448: the write of a copy into the 64-bit words from `dst` that carry error marks: one written whole needs no merge. `copied` says
which 32-bit words, by byte offset, are written. -/
def Side.mergeCopy (sd : Side) (dst len : Nat) (copied : Nat → Bool) : Side :=
  sd.upsets.foldl (fun (x : Side) u =>
    let o := 8 * u.1 - dst
    if dst ≤ 8 * u.1 ∧ 8 * u.1 < dst + len then
      if copied o && copied (o + 4) then x.setUpset (8 * u.1) 0
      else if copied o || copied (o + 4) then x.mergeUpset (8 * u.1)
      else x
    else x) sd

/-- Copies the bytes at the offsets below `len` that `copied` names from `src` to `dst`, as a reader receives them: a word with a
double-bit error as zero (R447). -/
def Side.copyBytes (sd : Side) (src dst len : Nat) (copied : Nat → Bool) : Side :=
  let dead := fun a => decide (sd.upset a = 2)
  let moved := sd.mem.filter (fun c => decide (src ≤ c.1 ∧ c.1 < src + len) && copied (c.1 - src) && !dead c.1)
  let x := sd.mergeCopy dst len copied
  let kept := x.mem.filter (fun c => !(decide (dst ≤ c.1 ∧ c.1 < dst + len) && copied (c.1 - dst)))
  { x with mem := moved.foldr (fun c m => Sparse.set memDefault m (c.1 - src + dst) c.2) kept }

/-- Copies `len` bytes from `src` to `dst`, but for the offsets that `skip` names; the reads count and correct error marks (R447). -/
def Side.copyRegion (sd : Side) (src dst len : Nat) (skip : Nat → Bool) : Side :=
  let read := fun (u : Nat) => decide (src ≤ 8 * u ∧ 8 * u < src + len) && !(skip (8 * u - src) && skip (8 * u + 4 - src))
  let sd := sd.upsets.foldl (fun (x : Side) u => if read u.1 then x.eccTouch (8 * u.1) else x) sd
  sd.copyBytes src dst len (fun o => !skip o)

/-- R85: the end of a refill: every vector word of the shadow bank that the fabric did not write since the swap equals
the active bank. A word of which the fabric has written some lanes keeps the rest as they stood in the shadow bank, whether or not the copy
had passed it: the spec says that the word is skipped and not what its other lanes hold (DESIGN CHOICE, log entry 132). -/
def Side.refillDone (sd : Side) (k : Fin 32) : Side :=
  let c := sd.cores[k]
  if c.refill then
    let act := sd.get (F.SK_CBANK_ACTIVE k)
    let sd := sd.copyRegion (cBank k act) (cBank k (1 - act)) 0x10000 (fun o => c.refillWritten.contains (o / 16))
    sd.setCore k { c with refill := false, refillWritten := [] }
  else sd

/-- R85: a Take that names the core swaps its C banks at row `row` and starts the refill. R86 has every refill end before
the next swap, so one still listed ends here first. -/
def Side.cSwap (sd : Side) (k : Fin 32) (row : Nat) : Side :=
  let sd := sd.refillDone k
  let sd := (sd.set (F.SK_CBANK_ACTIVE k) (1 - sd.get (F.SK_CBANK_ACTIVE k))).set (F.SK_CBANK_SWAP_ROW k) (row % 65536)
  sd.setCore k { sd.cores[k] with refill := true, refillWritten := [] }

/-- R90: the core starts row work, at INIT in the first row after RUN was set and at ENTRY in every later one, with an
empty loop stack. -/
def Side.startRow (sd : Side) (k : Fin 32) : Side :=
  let c := sd.cores[k]
  let pc := BitVec.ofNat 14 (if c.firstRow then sd.get (F.SK_INIT k) else sd.get (F.SK_ENTRY k))
  sd.setCore k
    { c with
      pc := pc, r := { c.r with inner := none, stack := [] }, inRow := true, done := false, firstRow := false
      eorIssued := false, stallOn := [], farWait := false, brkPass := false }

/-- A core's share of the row pulse for row `row`, with IDLE in place of a row of which it did no work (its first pulse with RUN set, R89:
DESIGN CHOICE, log entry 132): publication of the row before (R26, R89, R93), the Take's swap (R25),
READY (R88) and the start of row work (R90, R91). The pulse is dropped for a gated core (R24), whose gate cell announces
IDLE in its place (R260). -/
def Side.corePulse (sd : Side) (k : Fin 32) (row : Nat) (swap : Bool) : Side :=
  let prev := (row + 2 ^ 64 - 1) % 2 ^ 64
  if !sd.gateOpen k.val then
    let sd := sd.setCore k { sd.cores[k] with inRow := false, done := false }
    { sd with pages := { sd.pages with mark := Sparse.set (fun _ => 0) sd.pages.mark k.val Mark.idle.code } }
  else
    let c := sd.cores[k]
    let run := sd.producing && sd.flag (F.SK_CTRL_RUN k)
    let sd :=
      if !run then sd.announceOut k prev .idle
      else if c.done then sd.announceOut k prev .complete
      else if c.inRow then (sd.announceOut k prev .held).overrun k.val prev
      else sd.announceOut k prev .idle
    let sd := if swap then sd.cSwap k row else sd
    let sd := sd.clearReady k
    if run then sd.startRow k
    else sd.setCore k { sd.cores[k] with inRow := false, done := false, eorIssued := false, stallOn := [] }

/-- R495: a core whose gate closes abandons its row work and publishes nothing for it. -/
def Side.coreGateClosed (sd : Side) (k : Fin 32) : Side :=
  sd.setCore k { sd.cores[k] with inRow := false, done := false, eorIssued := false, stallOn := [], farWait := false }

/-- The mark a code stands for. -/
def Mark.ofCode : Nat → Mark
  | 0 => .complete
  | 1 => .held
  | _ => .idle

/-- R28: a producer announces row `row` to destination `d` (8 × core + region, or 256 for the Cross feed page). -/
def Side.sendAnnounce (sd : Side) (d row : Nat) (m : Mark) : Side :=
  { sd with pages := { sd.pages with due := sd.pages.due ++ [(d, row, m.code)] } }

/-- The announcements of a producer to every region of kind `kind` in the cores whose gates are open (R87, R23). -/
def Side.announceRegions (sd : Side) (kind row : Nat) (m : Mark) : Side :=
  (List.range 256).foldl (fun s d =>
    if s.gateOpen (d / 8) && s.get (F.SK_REG_KIND (d / 8) (d % 8)) = kind then s.sendAnnounce d row m else s) sd

/-- R87, R88: the oldest announcement on its way to region `g` of core `k` reaches it; a read that waited for it alone goes on. -/
def Side.takeAnnounce (sd : Side) (k : Fin 32) (g : Nat) : Side :=
  match sd.pages.due.find? (fun e => e.1 = 8 * k.val + g) with
  | some e =>
    if sd.alive && sd.gateOpen k.val then
      let sd := { sd with pages := { sd.pages with due := sd.pages.due.erase e } }
      let m := Mark.ofCode e.2.2
      let sd := (sd.announce k g e.2.1 m (decide (m = .complete))).set (F.SK_REG_READY k g) 1
      sd.setCore k { sd.cores[k] with stallOn := (sd.cores[k]).stallOn.filter (fun r => r ≠ g) }
    else sd
  | none => sd

/-- R124: the oldest announcement of the feed page reaches the Cross array. -/
def Side.takeFeeds (sd : Side) : Side :=
  match sd.pages.due.find? (fun e => e.1 = 256) with
  | some e =>
    if sd.alive && sd.gateOpen 32 then
      let sd := { sd with pages := { sd.pages with due := sd.pages.due.erase e } }
      let x := sd.cross
      { sd with cross := { x with feedRow := some e.2.1, feeds := if e.2.2 = 0 then x.feedNext else x.feeds } }
    else sd
  | none => sd

/-- The page, 0 or 1, that the producer of a region fills (R87): the one its last complete announcement does not name. -/
def Side.fillPage (sd : Side) (k g : Nat) : Nat :=
  1 - (sd.get (F.SK_REG_PAGE k g) + (sd.pages.due.filter (fun e => e.1 = 8 * k + g && e.2.2 = 0)).length) % 2

/-- R119, R92, R94: EOR retires after `cycles` Stitch cycles, once every far store of the core has been accepted. -/
def Side.eorRetire (sd : Side) (k : Fin 32) (cycles : Nat) : Side :=
  let c := sd.cores[k]
  if sd.clocked && sd.gateOpen k.val && c.inRow && c.eorIssued && !c.far.any (fun f => !f.load) then
    let sd := sd.set (F.SK_CYC_LAST k) cycles
    let sd := if sd.get (F.SK_CYC_HWM k) < sd.get (F.SK_CYC_LAST k) then sd.set (F.SK_CYC_HWM k) (sd.get (F.SK_CYC_LAST k)) else sd
    (sd.setCore k { c with inRow := false, done := true, eorIssued := false, snap := c.r, snapRow := sd.pulse.row, snapBank := sd.get (F.SK_CBANK_ACTIVE k) }).completedRow
      k.val
  else sd

/-- The address of lane `l` of a far vector word. -/
def farLane (bank addr : Nat) (l : Fin 4) : Nat := 0x800000 * bank + 16 * addr + 4 * l.val

/-- R83: the oldest far access of a core completes. A discarded load gives zero in every lane (R82). -/
def Side.farComplete (sd : Side) (k : Fin 32) : Side :=
  let c := sd.cores[k]
  match c.far with
  | [] => sd
  | f :: rest =>
    let c := { c with far := rest, farWait := false }
    if f.load then
      let w := fun l : Fin 4 => if f.discarded then 0#24 else sampleOf (sd.rtWord (farLane f.bank f.addr l))
      let sd := if f.discarded then sd else (sd.eccTouch (farLane f.bank f.addr 0)).eccTouch (farLane f.bank f.addr 2)
      sd.setCore k { c with r := c.r.putV f.dr f.le w }
    else
      let put := fun (s : Side) (l : Fin 4) =>
        if laneOn f.le l && !f.discarded then s.putWord (farLane f.bank f.addr l) (wordOf f.data[l]) else s
      (put (put (put (put sd 0) 1) 2) 3).setCore k c

/-- R95, R33: whether a write to a register block is carried out: firmware's always, the host's in Maker and Open. -/
def Side.mayWrite (sd : Side) (w : Writer) : Bool :=
  match w with
  | .firmware => sd.alive
  | .host => sd.alive && decide (sd.fuses.lc ≤ 1)

/-- Whether a writer reaches an ungated register of Side `sd`: the host while its port is open. -/
def State.mayWrite (s : State) (sd : SideId) (w : Writer) : Bool :=
  (s.side sd).mayWrite w && (decide (w = .firmware) || s.host.open)

/-- SK_CTRL.RUN (R90): a change from 0 to 1 makes the next row the first. -/
def Side.writeRun (sd : Side) (k : Fin 32) (v : Bool) : Side :=
  let c := sd.cores[k]
  let sd' := sd.set (F.SK_CTRL_RUN k) v.toNat
  if v && !sd.flag (F.SK_CTRL_RUN k) then sd'.setCore k { c with firstRow := true, inRow := false, done := false } else sd'

/-- SK_CTRL.HALT (R98): 1 halts the core before its next instruction, 0 resumes it. A core that resumes passes a breakpoint at its next
instruction once: the spec does not say whether it matches again (DESIGN CHOICE, log entry 132). -/
def Side.writeHalt (sd : Side) (k : Fin 32) (v : Bool) : Side :=
  if sd.debugOn then
    (sd.set (F.SK_CTRL_HALT k) v.toNat).setCore k { sd.cores[k] with halted := v, brkPass := !v && (sd.cores[k]).halted }
  else sd

/-- The program word at an address; a double-bit error reads as zero, which is a NOP (R447, R101). -/
def Side.pmWord (sd : Side) (k : Fin 32) (pc : BitVec 14) : Nat :=
  leVal ((List.range 8).map (fun i => sd.rtByte (coreBase k + 8 * pc.toNat + i)))

/-- SK_CTRL.STEP (R98): a halted core issues the instruction at its pc and halts again. -/
def Side.writeStep (sd : Side) (k : Fin 32) : Side :=
  let c := sd.cores[k]
  if sd.debugOn && c.halted && sd.coreActive k then
    (sd.eccTouch (coreBase k + 8 * c.pc.toNat)).issueOp k (decodeStitch (sd.pmWord k c.pc))
  else sd

/-- SK_CTRL.CLR_FLAGS (R79). -/
def Side.writeClrFlags (sd : Side) (k : Fin 32) : Side :=
  sd.setRegs k { (sd.cores[k]).r with ovf := 0, sat := 0, loopErr := false }

/-- A breakpoint halts the core before it issues the instruction at SK_BRK's address (R98). -/
def Side.breakpoint (sd : Side) (k : Fin 32) : Side :=
  if sd.coreActive k && !(sd.cores[k]).halted && sd.brkHit k then sd.setCore k { sd.cores[k] with halted := true } else sd

end Sys2Proof.Machine
end

