-- ==== Sys2Proof/Machine/Cross.lean ====
section
/-!
DEFINITION. The Cross array: gains and sums (R123 to R131), banks and roles (R132 to R135), Takes and ramps (R136 to R145),
publication (R146 to R148).
-/
namespace Sys2Proof.Machine

open Sys2Proof

/-! ### Gains -/

/-- The sums that exist at the Side's row rate (R6, R130). -/
def Side.sums (sd : Side) : Nat := if 4 ≤ sd.rate then 512 else 1024

/-- The address of gain (f, s) in a physical bank (Table XA-3). -/
def gainAddr (b f s : Nat) : Nat := 0x08000000 + 0x400000 * b + 4 * (1024 * f + s)

/-- The gain that a reader of a physical bank receives (R125); bits [31:24] of a word are not stored (R133). -/
def Side.gain (sd : Side) (b f s : Nat) : Int :=
  toSigned 24 (leVal [sd.rtByte (gainAddr b f s), sd.rtByte (gainAddr b f s + 1), sd.rtByte (gainAddr b f s + 2)])

/-- Stores a gain, bits [23:0] of `g`. -/
def Side.putGain (sd : Side) (b f s g : Nat) : Side :=
  (sd.mergeUpset (gainAddr b f s)).putBytes (gainAddr b f s) (leBytes 3 g)

/-- The crosspoint (f, s) that a word offset in a bank or a view names. -/
def gainIndex (off : Nat) : Nat × Nat := (off / 4 / 1024 % 1024, off / 4 % 1024)

/-- Table XA-3: the physical bank behind view `v` for sum `s`; the two unmapped ranges have none. -/
def Side.viewBank (sd : Side) (v s : Nat) : Option Nat :=
  match v with
  | 0 => some (sd.get (F.XA_ROLE_LIVE s))
  | 1 => some (sd.get (F.XA_ROLE_TARGET s))
  | 2 => some (sd.get (F.XA_ROLE_STAGING s))
  | 4 => some 0
  | 5 => some 1
  | 6 => some 2
  | _ => none

/-- Marks the gain words the fabric writes during a refill (R139). -/
def Side.noteGainWrite (sd : Side) (b f s : Nat) : Side :=
  if sd.cross.refill.any (fun p => p.1 = s) then
    { sd with cross := { sd.cross with written := gainAddr b f s :: sd.cross.written } }
  else sd

/-! ### Ramps -/

/-- Q of R141. -/
def qTable (j : Nat) : Nat :=
  if 4096 ≤ j then 2 ^ 23 else (roundHalfEven (fxSin (fxPi * j / 8192)) 105).toNat

/-- P of R141. -/
def equalPower (y : Nat) : Nat :=
  let j := y / 2048
  let u := y % 2048
  if 4096 ≤ j then 2 ^ 23 else qTable j + (qTable (j + 1) - qTable j) * u / 2048

/-- R140: the weights (wL, wT) at position `x` of a curve. -/
def rampWeights (curve x : Nat) : Nat × Nat :=
  match curve with
  | 1 => (equalPower (2 ^ 23 - x), equalPower x)
  | 2 => let w := (3 * x * x * 2 ^ 23 - 2 * x * x * x) / 2 ^ 46; (2 ^ 23 - w, w)
  | _ => (2 ^ 23 - x, x)

/-- R140: the position in row R0 + i of a ramp of `n` rows. -/
def rampPos (i n : Nat) : Nat := (i + 1) * 2 ^ 23 / n

/-- The first row of instance `n`. -/
def Cross.start (x : Cross) (n : Nat) : Nat := Sparse.get (fun _ => 0) x.starts n

/-- The weights of instance `n` in row `row`. -/
def Side.instWeights (sd : Side) (n row : Nat) : Nat × Nat :=
  let len := sd.get (F.XA_INST_LEN n)
  rampWeights (sd.get (F.XA_INST_CURVE n)) (rampPos (min (row - sd.cross.start n) (len - 1)) len)

/-- Whether sum `s` is ramping. -/
def Side.ramping (sd : Side) (s : Nat) : Bool := sd.flag (F.XA_ROLE_RAMP s)

/-- The row one past the last row of the ramp that sum `s` belongs to. -/
def Side.rampEnd (sd : Side) (s : Nat) : Nat :=
  let n := sd.get (F.XA_ROLE_INST s)
  sd.cross.start n + sd.get (F.XA_INST_LEN n)

/-- Sets a sum's roles. -/
def Side.setRoles (sd : Side) (s l t g : Nat) : Side :=
  ((sd.set (F.XA_ROLE_LIVE s) l).set (F.XA_ROLE_TARGET s) t).set (F.XA_ROLE_STAGING s) g

/-- A sum leaves its instance (R138). -/
def Side.leaveRamp (sd : Side) (s : Nat) : Side :=
  if sd.ramping s then
    let n := sd.get (F.XA_ROLE_INST s)
    ((sd.set (F.XA_ROLE_RAMP s) 0).set (F.XA_ROLE_INST s) 0).set (F.XA_INST_SUMS n) (sd.get (F.XA_INST_SUMS n) - 1)
  else sd

/-- Table XA-5, ramp ends: the sums whose ramp had its last row before `row`. -/
def Side.endRamps (sd : Side) (row : Nat) : Side :=
  (List.range 1024).foldl (fun x s =>
    if sd.ramping s && decide (sd.rampEnd s ≤ row) then
      (x.leaveRamp s).setRoles s (sd.get (F.XA_ROLE_TARGET s)) (sd.get (F.XA_ROLE_LIVE s)) (sd.get (F.XA_ROLE_STAGING s))
    else x) sd

/-- The sums of a mask that exist. -/
def Side.maskSums (sd : Side) (mask : Nat) : List Nat := (List.range sd.sums).filter (fun s => mask.testBit s)

/-- Table XA-5, a cut of sums. -/
def Side.cutSums (sd : Side) (ss : List Nat) : Side :=
  let sd := ss.foldl (fun x s =>
    (x.leaveRamp s).setRoles s (x.get (F.XA_ROLE_STAGING s)) (x.get (F.XA_ROLE_TARGET s)) (x.get (F.XA_ROLE_LIVE s))) sd
  { sd with cross := { sd.cross with refill := ss.map (fun s => (s, false)) } }

/-- R138: the instance a ramp Take on sums `ss` takes: the lowest that was free before the boundary (`before`), else the
lowest that this boundary frees. -/
def Side.pickInst (sd : Side) (before : Nat → Bool) (ss : List Nat) : Option Nat :=
  let left := ss.foldl Side.leaveRamp sd
  ((List.range 32).find? before).or ((List.range 32).find? (fun n => decide (left.get (F.XA_INST_SUMS n) = 0)))

/-- Table XA-5, a ramp of sums under instance `n` from row `row`. -/
def Side.startRamp (sd : Side) (n row : Nat) (l : XLatch) (ss : List Nat) : Side :=
  let sd := ss.foldl (fun x s =>
    (((x.leaveRamp s).setRoles s (x.get (F.XA_ROLE_LIVE s)) (x.get (F.XA_ROLE_STAGING s)) (x.get (F.XA_ROLE_TARGET s))).set
      (F.XA_ROLE_RAMP s) 1).set (F.XA_ROLE_INST s) n) sd
  let sd := ((((sd.set (F.XA_INST_LEN n) l.len).set (F.XA_INST_CURVE n) l.curve).set (F.XA_INST_ALLOC n) 1).set
    (F.XA_INST_START n) (row % 65536)).set (F.XA_INST_SUMS n) ss.length
  { sd with
    cross := { sd.cross with starts := Sparse.set (fun _ => 0) sd.cross.starts n row, refill := ss.map (fun s => (s, true)) } }

/-- R136, R137, R138: the Take latched for `row` on the array, and whether the array acknowledges it. -/
def Side.crossApply (sd : Side) (row : Nat) (before : Nat → Bool) : Side × Bool :=
  match sd.cross.latch with
  | none => (sd, false)
  | some l =>
    if l.row ≠ row then (sd, false)
    else
      let ss := sd.maskSums l.mask
      if l.len = 0 then (sd.cutSums ss, true)
      else if ss.isEmpty then (sd, true)
      else
        match sd.pickInst before ss with
        | some n => (sd.startRamp n row l ss, true)
        | none => (sd.set F.XA_STAT_NO_INST 1, false)

/-- R138: instances whose last sum has left are freed; the others take their position and weight for `row`. -/
def Side.settleInsts (sd : Side) (row : Nat) : Side :=
  let sd := (List.range 32).foldl (fun x n =>
    if x.flag (F.XA_INST_ALLOC n) then
      if x.get (F.XA_INST_SUMS n) = 0 then x.set (F.XA_INST_ALLOC n) 0
      else (x.set (F.XA_INST_POS n) (row - x.cross.start n)).set (F.XA_INST_WT n) (x.instWeights n row).2
    else x) sd
  let count := ((List.range 32).filter (fun n => sd.flag (F.XA_INST_ALLOC n))).length
  (sd.set F.XA_STAT_INSTANCES count).set F.XA_STAT_RAMPING (decide (count ≠ 0)).toNat

/-- R136: the array latches descriptor `d` for a Take due at row `row`. -/
def Side.latchDesc (sd : Side) (d row : Nat) : Side :=
  let mask := ((List.range 32).map (fun w => sd.get (F.XA_MASK (32 * d + w)) * 2 ^ (32 * w))).sum
  { sd with
    cross := { sd.cross with
      latch := some { row := row, mask := mask, curve := sd.get (F.XA_DESC_CURVE d), len := sd.get (F.XA_DESC_LEN d) } } }

/-- R143, R144: the sums to collapse in row `row`: those a latched ramp for the next row overtakes. -/
def Side.overtaken (sd : Side) (row : Nat) : List Nat :=
  match sd.cross.latch with
  | some l =>
    if l.row = row + 1 ∧ l.len ≠ 0 then
      (sd.maskSums l.mask).filter (fun s => sd.ramping s && decide (row + 1 < sd.rampEnd s))
    else []
  | none => []

/-! ### The row's work -/

/-- The byte addresses of a bank's words for which `p f s` holds. -/
def inBank (b : Nat) (p : Nat → Nat → Bool) (a : Nat) : Bool :=
  decide (gainAddr b 0 0 ≤ a ∧ a < gainAddr b 1024 0) && p (gainIndex (a - gainAddr b 0 0)).1 (gainIndex (a - gainAddr b 0 0)).2

/-- R139: copies sum `s` from bank `src` to bank `dst`, but for the words the fabric has written since the boundary and
the feeds the pass had not reached. -/
def Side.refillSum (sd : Side) (s src dst : Nat) (reached : Nat → Bool) : Side :=
  sd.copyBytes (gainAddr src 0 0) (gainAddr dst 0 0) 0x400000 (fun o =>
    decide ((gainIndex o).2 = s) && reached (gainIndex o).1 && !sd.cross.written.contains (gainAddr dst 0 0 + o / 4 * 4))

/-- R139: the refills of the row, as far as they got: a sum is copied in the pass that reads the bank it is copied from. -/
def Side.runRefills (sd : Side) (reached : Bool → Nat → Nat → Bool) : Side :=
  sd.cross.refill.foldl (fun x p =>
    x.refillSum p.1 (if p.2 then sd.get (F.XA_ROLE_TARGET p.1) else sd.get (F.XA_ROLE_LIVE p.1))
      (sd.get (F.XA_ROLE_STAGING p.1)) (fun f => reached p.2 f p.1)) sd

/-- R144: the blend of two gains, saturated. -/
def blendGain (wL wT : Nat) (gL gT : Int) : Int :=
  min (max (roundHalfEven (wL * gL + wT * gT) 23) (-(2 ^ 23))) (2 ^ 23 - 1)

/-- R144: the collapse of sum `s` in row `row`, as far as it got. -/
def Side.collapseSum (sd : Side) (row s : Nat) (reached : Nat → Bool) : Side :=
  let w := sd.instWeights (sd.get (F.XA_ROLE_INST s)) row
  let l := sd.get (F.XA_ROLE_LIVE s)
  let t := sd.get (F.XA_ROLE_TARGET s)
  (List.range 1024).foldl (fun x f =>
    if reached f then x.putGain l f s (ofSigned 24 (blendGain w.1 w.2 (sd.gain l f s) (sd.gain t f s))) else x) sd

/-- The collapses of the row: each gain once the Target gain has been read, in the second pass. -/
def Side.runCollapses (sd : Side) (reached : Bool → Nat → Nat → Bool) : Side :=
  sd.cross.collapse.foldl (fun x s => x.collapseSum sd.cross.row s (fun f => reached true f s)) sd

/-- R126: S for sum `s` with the gains of bank `b`. -/
def Side.exactSum (sd : Side) (b s : Nat) : Int :=
  (sd.cross.feeds.map (fun p => p.2.toInt * sd.gain b p.1 s)).sum

/-- R127: a sum's word and whether it saturated, from its value rounded to Q8.23. -/
def sat32 (q : Int) : BitVec 32 × Bool :=
  if q > 2 ^ 31 - 1 then (BitVec.ofInt 32 (2 ^ 31 - 1), true)
  else if q < -(2 ^ 31) then (BitVec.ofInt 32 (-(2 ^ 31)), true)
  else (BitVec.ofInt 32 q, false)

/-- R127, R142: sum `s` of row `row`. -/
def Side.sumOut (sd : Side) (row s : Nat) : BitVec 32 × Bool :=
  let sl := sd.exactSum (sd.get (F.XA_ROLE_LIVE s)) s
  if sd.ramping s then
    let w := sd.instWeights (sd.get (F.XA_ROLE_INST s)) row
    sat32 (roundHalfEven (w.1 * sl + w.2 * sd.exactSum (sd.get (F.XA_ROLE_TARGET s)) s) 42)
  else sat32 (roundHalfEven sl 19)

/-- R128: a saturated sum in row `row`. -/
def Side.sumSaturated (sd : Side) (row s : Nat) : Side :=
  let sd := (sd.setBit (F.XA_SAT_MAP (s / 32)) (s % 32) true).incSat F.XA_SAT_CNT_COUNT
  if sd.flag F.XA_SAT_FIRST_VALID then sd.set F.XA_SAT_FIRST_MULTI 1
  else
    (((sd.set F.XA_SAT_FIRST_SUM s).set F.XA_SAT_FIRST_VALID 1).set64 F.XA_SAT_ROW_LO F.XA_SAT_ROW_HI row).raise 0x0004 s
      (leBytes 8 row)

/-- The first vector word of the page of a region that its producer fills. -/
def Side.otherPage (sd : Side) (k g : Nat) : Nat := sd.get (F.SK_REG_BASE k g) + sd.fillPage k g * sd.get (F.SK_REG_LEN k g)

/-- A producer's write of lane word `l` of word `v` in the page it fills of a region. -/
def Side.deliverLane (sd : Side) (k g v l : Nat) (w : BitVec 32) : Side :=
  if sd.gateOpen k then sd.putWord (sd.vecAddr k .x (BitVec.ofNat 16 (sd.otherPage k g + v)) + 4 * l) w else sd

/-- R64: a delivery that loses to the core's port A. -/
def Side.deliveryCollide (sd : Side) (k : Nat) : Side := sd.set (F.SK_STAT_DLV_COLLIDE k) 1

/-- R146, R64: the delivery of the working page to the SUM regions; the entries of the map in `lost` lose. -/
def Side.deliverSums (sd : Side) : Side :=
  sd.cross.deliver.zipIdx.foldl (fun (x : Side) e =>
    let d := e.1
    if sd.cross.lost.contains e.2 then x.deliveryCollide d.2.1
    else x.deliverLane d.2.1 d.2.2.1 d.2.2.2.1 d.2.2.2.2 (Sparse.get (fun _ => 0) sd.cross.work d.1)) sd

/-- R447: the error marks in the gain words the array reads in this row. -/
def Side.touchGains (sd : Side) : Side :=
  sd.upsets.foldl (fun x u =>
    let a := 8 * u.1
    let reads := fun b => inBank b (fun _ s => [s, s + 1].any (fun t => decide (t < sd.sums) &&
      (decide (sd.get (F.XA_ROLE_LIVE t) = b) || (sd.ramping t && decide (sd.get (F.XA_ROLE_TARGET t) = b))))) a
    if reads 0 || reads 1 || reads 2 then x.eccTouch a else x) sd

/-- The sums of the row and their saturations. -/
def Side.formSums (sd : Side) : Side :=
  (List.range sd.sums).foldl (fun x s =>
    let o := sd.sumOut sd.cross.row s
    let x := { x with cross := { x.cross with work := Sparse.set (fun _ => 0) x.cross.work s o.1 } }
    if o.2 then x.sumSaturated sd.cross.row s else x) { sd with cross := { sd.cross with work := [] } }

/-- R130: the end of the array's row work, `cycles` Cross cycles after pulse receipt, once the row's feed page is
announced (R124, R28). A row in which RUN has been 0 forms no sums (R148). -/
def Side.crossComplete (sd : Side) (cycles : Nat) : Side :=
  if sd.clocked && sd.gateOpen 32 && sd.cross.inRow && !sd.cross.wasIdle && decide (sd.cross.feedRow = some sd.cross.row) then
    let all := fun _ _ _ => true
    let sd := ((((sd.formSums).deliverSums).runRefills all).runCollapses all).touchGains
    let sd := sd.set F.XA_CYC_LAST cycles
    let sd := if sd.get F.XA_CYC_HWM < sd.get F.XA_CYC_LAST then sd.set F.XA_CYC_HWM (sd.get F.XA_CYC_LAST) else sd
    let sd := ((sd.set F.XA_STAT_IN_ROW 0).set F.XA_STAT_REFILL 0).set F.XA_STAT_COLLAPSE 0
    { sd with
      cross := { sd.cross with inRow := false, done := true, refill := [], collapse := [], written := [] } }.completedRow 32
  else sd

/-! ### The row pulse -/

/-- Notes how unit `u` published the row before. -/
def Side.markUnit (sd : Side) (u : Nat) (m : Mark) : Side :=
  { sd with pages := { sd.pages with mark := Sparse.set (fun _ => 0) sd.pages.mark u m.code } }

/-- R130: whether block `b` holds a ramping sum, so that it takes a second pass. -/
def Side.blockRamps (sd : Side) (b : Nat) : Bool :=
  (List.range 256).any (fun j => decide (256 * b + j < sd.sums) && sd.ramping (256 * b + j))

/-- R130: the MAC cycles of a row's work before a pass of block `b`, its first or its `second`. -/
def Side.passStart (sd : Side) (b : Nat) (second : Bool) : Nat :=
  ((List.range b).map (fun j => 1024 + 1024 * (sd.blockRamps j).toNat)).sum + 1024 * second.toNat

/-- XA_STAT while no row work runs. -/
def Side.crossStill (sd : Side) : Side := ((sd.set F.XA_STAT_IN_ROW 0).set F.XA_STAT_REFILL 0).set F.XA_STAT_COLLAPSE 0

/-- R145: a row abandoned after `reached` MAC cycles: each refill and collapse stops where it stood, and BANK_ERR says that one had not
ended. -/
def Side.abandonBanks (sd : Side) (reached : Nat) : Side :=
  let got := fun second f s => decide (sd.passStart (s / 256) second + f < reached)
  let cut := sd.cross.refill.any (fun p => !got p.2 1023 p.1) || sd.cross.collapse.any (fun s => !got true 1023 s)
  let sd := (sd.runRefills got).runCollapses got
  if cut then sd.set F.XA_STAT_BANK_ERR 1 else sd

/-- XA_CTRL.RUN (R148). RUN = 0 ends the row's work at once: the array does no summing. -/
def Side.writeCrossRun (sd : Side) (run : Bool) : Side :=
  let sd := sd.set F.XA_CTRL_RUN run.toNat
  if run then sd else { sd.crossStill with cross := { sd.cross with wasIdle := true } }

/-- R147, R26: publication of the row before `row` on the pulse; IDLE where RUN is or has been 0 (R148). -/
def Side.crossPublish (sd : Side) (row reached : Nat) : Side :=
  let prev := (row + 2 ^ 64 - 1) % 2 ^ 64
  let say := fun (x : Side) m => (x.announceRegions 2 prev m).markUnit 32 m
  if sd.cross.wasIdle || !sd.producing then say (if sd.cross.inRow then sd.abandonBanks reached else sd) .idle
  else if sd.cross.done then say { sd with cross := { sd.cross with page := sd.cross.work } } .complete
  else if sd.cross.inRow then (say (sd.abandonBanks reached) .held).overrun 32 prev
  else say sd .idle

/-- The array's share of the row pulse for row `row`: publication (R147), the ends of ramps and the Take's changes (R137,
R138), the latch of a descriptor noticed for the next row (R136), and the start of row work (R130, R148). The flag says
whether the array acknowledges the Take of this row. `take` says whether the mask names the array; `lost` names the deliveries of the row
that lose to a core's port A. -/
def Side.crossPulse (sd : Side) (row : Nat) (take : Bool) (notice : Option Nat) (reached : Nat) (lost : List Nat) : Side × Bool :=
  if !sd.gateOpen 32 then
    let sd := { sd with cross := { sd.cross with inRow := false, done := false } }
    ((sd.announceRegions 2 ((row + 2 ^ 64 - 1) % 2 ^ 64) .idle).markUnit 32 .idle, false)
  else
    let run := sd.producing && sd.flag F.XA_CTRL_RUN
    let sd := sd.crossPublish row reached
    let before := fun n => !sd.flag (F.XA_INST_ALLOC n)
    let sd := { sd with
      cross := { sd.cross with row := row, inRow := false, done := false, refill := [], collapse := [], written := [], lost := lost } }
    let sd := sd.endRamps row
    let r := if take && run then sd.crossApply row before else (sd, false)
    let sd := r.1.settleInsts row
    let sd := if run && sd.cross.wasIdle then
        { sd with cross := { sd.cross with refill := (List.range sd.sums).map (fun s => (s, false)) } }
      else sd
    let sd := { sd with cross := { sd.cross with latch := none, wasIdle := !run, inRow := run } }
    let sd :=
      match notice with
      | some d => if run then sd.latchDesc d ((row + 1) % 2 ^ 64) else sd
      | none => sd
    let sd := if run then { sd with cross := { sd.cross with collapse := sd.overtaken row } } else sd
    (((sd.set F.XA_STAT_IN_ROW run.toNat).set F.XA_STAT_REFILL (!sd.cross.refill.isEmpty).toNat).set F.XA_STAT_COLLAPSE
      (!sd.cross.collapse.isEmpty).toNat, r.2)

end Sys2Proof.Machine
end

