-- ==== Sys2Proof/Machine/Crypto.lean ====
section
/-!
DEFINITION. The CRC-32 of R209 and SHA-256 (FIPS 180-4), which the spec names for images, signatures and checksums.
-/
namespace Sys2Proof.Machine

open Sys2Proof

/-! ### CRC-32 -/

/-- One bit of the reflected CRC-32 with polynomial 0xEDB8_8320. -/
def crcBit (c : BitVec 32) : BitVec 32 := if c.getLsbD 0 then (c >>> 1) ^^^ 0xEDB88320#32 else c >>> 1

/-- One byte of the CRC. -/
def crcByte (c : BitVec 32) (b : Byte) : BitVec 32 :=
  let c := c ^^^ b.setWidth 32
  crcBit (crcBit (crcBit (crcBit (crcBit (crcBit (crcBit (crcBit c)))))))

/-- The CRC-32 of R209: initial value and final XOR 0xFFFF_FFFF. -/
def crc32 (bs : List Byte) : Nat := ((bs.foldl crcByte 0xFFFFFFFF#32) ^^^ 0xFFFFFFFF#32).toNat

/-! ### SHA-256

FIPS 180-4 gives its constants as fractions of roots of primes, and the working words as a row that each round moves by one; both are
written so here. -/

/-- The greatest `r + m` with `m < 2 ^ n` whose `k`-th power is at most `x`. -/
def rootFrom (k x : Nat) : Nat → Nat → Nat
  | 0, r => r
  | n + 1, r => rootFrom k x n (if (r + 2 ^ n) ^ k ≤ x then r + 2 ^ n else r)

/-- The first 32 bits of the fraction of the `k`-th root of `p`. -/
def rootFraction (k p : Nat) : BitVec 32 := BitVec.ofNat 32 (rootFrom k (p * 2 ^ (32 * k)) 36 0)

/-- The primes below 312: there are 64. -/
def primes : List Nat := (List.range 312).filter (fun n => decide (2 ≤ n) && (List.range 18).all (fun d => decide (d < 2 ∨ n ≤ d) || decide (n % d ≠ 0)))

/-- The round constants, of cube roots, and the initial hash, of square roots. -/
def shaRounds : List (BitVec 32) := primes.map (rootFraction 3)
def shaStart : List (BitVec 32) := (primes.take 8).map (rootFraction 2)

/-- A word turned right by three amounts, the results added bitwise. -/
def turned (w : BitVec 32) (i j k : Nat) : BitVec 32 := w.rotateRight i ^^^ (w.rotateRight j ^^^ w.rotateRight k)

/-- One round: the row of working words moves by one, with a new first word, and the fifth takes up the first part of it. -/
def shaRound (v : List (BitVec 32)) (kw : BitVec 32 × BitVec 32) : List (BitVec 32) :=
  let at' := fun n => v.getD n 0
  let choice := at' 6 ^^^ (at' 4 &&& (at' 5 ^^^ at' 6))
  let most := (at' 0 &&& at' 1) ||| (at' 2 &&& (at' 0 ||| at' 1))
  let part := kw.1 + kw.2 + choice + turned (at' 4) 6 11 25 + at' 7
  (turned (at' 0) 2 13 22 + most + part) :: (v.take 7).set 3 (at' 3 + part)

/-- `n` more words of the schedule; the last 16 words stand newest first at its head. -/
def shaExtend : Nat → List (BitVec 32) → List (BitVec 32)
  | 0, w => w
  | n + 1, w =>
    let old := w.getD 14 0
    let new := w.getD 1 0
    shaExtend n (((old.rotateRight 7 ^^^ (old.rotateRight 18 ^^^ old >>> 3)) + (new.rotateRight 17 ^^^ (new.rotateRight 19 ^^^ new >>> 10)) +
      w.getD 6 0 + w.getD 15 0) :: w)

/-- The hash after one more block of 64 bytes. -/
def shaBlock (v : List (BitVec 32)) (block : List Byte) : List (BitVec 32) :=
  let first := (List.range 16).map (fun i => BitVec.ofNat 32 (beVal ((block.drop (4 * i)).take 4)))
  let mixed := (shaRounds.zip (shaExtend 48 first.reverse).reverse).foldl shaRound v
  List.zipWith (· + ·) v mixed

/-- SHA-256 of a message, as 32 bytes: the message, a 1 bit, zeros and its length in bits fill whole blocks. -/
def sha256 (bs : List Byte) : List Byte :=
  let fill := (119 - bs.length % 64) % 64
  let whole := bs ++ 0x80#8 :: List.replicate fill 0 ++ beBytes 8 (8 * bs.length)
  ((List.range (whole.length / 64)).foldl (fun v i => shaBlock v ((whole.drop (64 * i)).take 64)) shaStart).flatMap (fun w => beBytes 4 w.toNat)

end Sys2Proof.Machine
end

