-- ==== Sys2Proof/Machine/Gauge.lean ====
section
/-!
DEFINITION. The Gauge island: the Patchbay's points and selections (R151 to R161, R496), Gather and Emit (R50, R124, R156),
and the Gauge engine's measurements (R162 to R165).
-/
namespace Sys2Proof.Machine

open Sys2Proof

/-- The row rate in Hz (Table PL-3). -/
def rateHz (rate : Nat) : Nat :=
  match rate with
  | 0 => 44100
  | 1 => 48000
  | 2 => 88200
  | 3 => 96000
  | 4 => 176400
  | _ => 192000

/-! ### Tables (Table PB-12) -/

/-- The base of a selection table, by physical table. -/
def selBase (t : Nat) : Nat := 0x0A000000 + 0x10000 * t

/-- The physical table that is Active. -/
def Side.active (sd : Side) : Nat := sd.get F.PB_STAT_ACTIVE

/-- A destination's Active selection (R154). -/
def Side.selection (sd : Side) (d : Nat) : Nat := (sd.rtWord (selBase sd.active + 4 * d)).toNat

/-- A source point's location word (R152). -/
def Side.location (sd : Side) (n : Nat) : Nat := (sd.rtWord (0x0A020000 + 4 * n)).toNat

/-- A destination's descriptor, words 0 and 1 (Tables PB-1, PB-2). -/
def Side.destDesc (sd : Side) (d : Nat) : Nat × Nat :=
  ((sd.rtWord (0x0A030000 + 8 * d)).toNat, (sd.rtWord (0x0A030000 + 8 * d + 4)).toNat)

/-- The destinations the Pattern uses, in ascending order: those whose KIND is not 0. -/
def Side.usedDests (sd : Side) : List Nat :=
  sd.mem.filterMap (fun c =>
    if 0x0A030000 ≤ c.1 ∧ c.1 < 0x0A050000 ∧ c.1 % 8 = 0 ∧ c.2.toNat % 16 ≠ 0 then some ((c.1 - 0x0A030000) / 8) else none)

/-- A source point's latency entry (Table PL-8); zero without a Pattern. -/
def Side.latency (sd : Side) (n : Nat) : Nat :=
  match sd.fw.pattern with
  | some p => leVal ((p.latency.drop (8 + 4 * n)).take 4)
  | none => 0

/-- Whether the Pattern uses a source point. -/
def Side.sourceUsed (sd : Side) (n : Nat) : Bool := (sd.latency n).testBit 31

/-- R447: what reads of these addresses do to error marks and counts. -/
def Side.touchRead (sd : Side) (addrs : List Nat) : Side :=
  sd.upsets.foldl (fun x u => if addrs.any (fun a => a / 8 = u.1) then x.eccTouch (8 * u.1) else x) sd

/-! ### Source points -/

/-- The published copy of a receive unit as it stood for input row `row`: the newest that is not younger. A unit that published nothing
for a row, its gate being closed, leaves the copy before it (R260). -/
def copyAt (l : List (Nat × Sparse (BitVec 24))) (row : Nat) : Sparse (BitVec 24) :=
  (l.find? (fun e => decide ((row + 2 ^ 64 - e.1) % 2 ^ 64 < 2 ^ 63))).elim [] Prod.snd

/-- The entry for row `row` of a list by row. -/
def copyOf (l : List (Nat × Sparse (BitVec 24))) (row : Nat) : Sparse (BitVec 24) :=
  (l.find? (fun e => e.1 = row)).elim [] Prod.snd

/-- The address of index `i` of core `k`'s published copy: its OUT regions' published pages in region order. -/
def Side.outAddr (sd : Side) (k i : Nat) : Option Nat :=
  let find := (List.range 8).foldl (fun (acc : Option Nat × Nat) g =>
    if acc.1.isSome || sd.get (F.SK_REG_KIND k g) ≠ 3 then acc
    else
      let n := 4 * sd.get (F.SK_REG_LEN k g)
      if i < acc.2 + n then
        let v := sd.get (F.SK_REG_BASE k g) + sd.get (F.SK_REG_PAGE k g) * sd.get (F.SK_REG_LEN k g) + (i - acc.2) / 4
        (some (sd.vecAddr k .x (BitVec.ofNat 16 v) + 4 * ((i - acc.2) % 4)), 0)
      else (none, acc.2 + n)) (none, 0)
  find.1

/-- The value of a source point as it stands in the published copy that is `back` rows older than the newest (R50), in
units of 2^−23; the Cross sums and the cores keep one copy only. -/
def Side.sourceValue (sd : Side) (n row back : Nat) : Int :=
  let w := sd.location n
  let u := w % 64
  let i := w / 256
  let input := fun l => (Sparse.get (fun _ => 0#24) (copyAt l ((row + 2 ^ 64 - 1 - back) % 2 ^ 64)) i).toInt
  if u < 32 then (sd.outAddr u i).elim 0 (fun a => (sampleOf (sd.rtWord a)).toInt)
  else if u = 32 then (Sparse.get (fun _ => 0#32) sd.cross.page i).toInt
  else if u = 35 then input sd.pages.port
  else if u = 37 then input sd.pages.net
  else if u = 39 then input sd.pages.shemas
  else 0

/-- Whether a source point is a WIDE one (R152). -/
def Side.sourceWide (sd : Side) (n : Nat) : Bool := (sd.location n).testBit 6

/-- R50: how many rows older than the newest copy a stage reads: an input source of age A is read at age A by Emit and at
A − 1 by Gather, and the newest copy has age 1. -/
def Side.sourceBack (sd : Side) (n : Nat) (gather : Bool) : Nat :=
  let e := sd.latency n
  if e.testBit 30 then e % 65536 - (if gather then 2 else 1) else 0

/-- The value a selection delivers, and whether its source is WIDE (R154, R496). -/
def Side.selected (sd : Side) (d row : Nat) (gather : Bool) : Int × Bool :=
  let s := sd.selection d
  let n := s % 16384
  if s.testBit 15 || !sd.sourceUsed n then (0, false)
  else (sd.sourceValue n row (sd.sourceBack n gather), sd.sourceWide n)

/-- R156: a value as it reaches a destination that takes 24 bits, and whether it saturated. -/
def narrow24 (v : Int × Bool) : BitVec 24 × Bool := if v.2 then sat24 v.1 else (BitVec.ofInt 24 v.1, false)

/-- R156: the count of saturated values of unit 33 or 34. -/
def Side.convSat (sd : Side) (u : Nat) (hit : Bool) : Side :=
  if hit then
    if u = 33 then (sd.incSat F.PB_CONV_SAT_U33).set F.PB_STAT_CONV_SAT33 1
    else (sd.incSat F.PB_CONV_SAT_U34).set F.PB_STAT_CONV_SAT34 1
  else sd

/-! ### Gather and Emit -/

/-- Unit 33 delivers destination `d` in row `row` (R50, R156); `lost` names the destinations whose delivery loses (R64). -/
def Side.gatherDest (sd : Side) (row : Nat) (lost : List Nat) (d : Nat) : Side :=
  let desc := sd.destDesc d
  let v := sd.selected d row true
  let n := narrow24 v
  match desc.1 % 16 with
  | 1 =>
    let k := desc.2 % 32
    let wide := desc.1.testBit 4 && v.2
    let w := if wide then BitVec.ofInt 32 v.1 else wordOf n.1
    let sd := sd.convSat 33 (!wide && n.2)
    if lost.contains d then sd.deliveryCollide k
    else sd.deliverLane k (desc.2 / 32 % 8) (desc.2 / 256 % 8192) (desc.2 / 2 ^ 21 % 4) w
  | 2 =>
    let sd := sd.convSat 33 n.2
    { sd with cross := { sd.cross with feedNext := Sparse.set (fun _ => 0) sd.cross.feedNext (desc.2 % 1024) n.1 } }
  | _ => sd

/-- R124, R50: unit 33's work of row `row`. -/
def Side.gather (sd : Side) (row : Nat) (lost : List Nat) : Side :=
  let sd := { sd with cross := { sd.cross with feedNext := [] } }
  (sd.usedDests.foldl (fun x d => x.gatherDest row lost d) sd).sendAnnounce 256 row .complete

/-- Places a value in an Emit row. -/
def EmitRow.place (e : EmitRow) (kind w : Nat) (v : BitVec 24) : EmitRow :=
  match kind with
  | 3 => { e with tdm := Sparse.set (fun _ => 0) e.tdm (w % 16 * 32 + w / 16 % 32) v }
  | 4 => { e with flow := Sparse.set (fun _ => 0) e.flow (w % 128 * 64 + w / 128 % 64) v }
  | 5 => { e with skein := Sparse.set (fun _ => 0) e.skein (w % 4 * 4096 + w / 4 % 16 * 256 + w / 64 % 256) v }
  | _ => e

/-- Unit 34 delivers destination `d` in row `row` (R50, R156). -/
def Side.emitDest (acc : Side × EmitRow) (row d : Nat) : Side × EmitRow :=
  let sd := acc.1
  let desc := sd.destDesc d
  if 3 ≤ desc.1 % 16 ∧ desc.1 % 16 ≤ 5 then
    let n := narrow24 (sd.selected d row false)
    (sd.convSat 34 n.2, acc.2.place (desc.1 % 16) desc.2 n.1)
  else acc

/-- An Emit row of zeros. -/
def EmitRow.zero (row : Nat) : EmitRow := { row := row, tdm := [], flow := [], skein := [] }

/-- R209, R160: the bytes of the checksum of row `row`: the row number and the lane word Emit delivers to each used destination of
KIND 3, 4 or 5, zero with RUN = 0. -/
def Side.emitBytes (sd : Side) (row : Nat) : List Byte :=
  leBytes 8 row ++ sd.usedDests.flatMap (fun d =>
    let kind := (sd.destDesc d).1 % 16
    if 3 ≤ kind ∧ kind ≤ 5 then
      leBytes 4 (if sd.gauge.running then (wordOf (narrow24 (sd.selected d row false)).1).toNat else 0)
    else [])

/-- R209: the checksum of a row in which Emit runs. -/
def Side.formChecksum (sd : Side) (row : Nat) : Side :=
  { sd with twin := { sd.twin with chks := ((row, crc32 (sd.emitBytes row)) :: sd.twin.chks).take 8 } }

/-- R156, R160: unit 34's work of row `row`; with RUN = 0 every output carries zero. The two newest rows are kept: what was
placed in a row leaves in the next (R51). -/
def Side.emit (sd : Side) (row : Nat) : Side :=
  let r := if sd.gauge.running then sd.usedDests.foldl (fun a d => Side.emitDest a row d) (sd, EmitRow.zero row)
    else (sd, EmitRow.zero row)
  { r.1 with pages := { r.1.pages with emitted := (r.2 :: r.1.pages.emitted).take 2 } }

/-- The table words and source words that Gather and Emit read in a row (R447). -/
def Side.patchReads (sd : Side) : List Nat :=
  sd.usedDests.flatMap (fun d =>
    let n := sd.selection d % 16384
    let src := if sd.location n % 64 < 32 then (sd.outAddr (sd.location n % 64) (sd.location n / 256)).toList else []
    [selBase sd.active + 4 * d, 0x0A030000 + 8 * d, 0x0A020000 + 4 * n] ++ src)

/-! ### The tables' swap -/

/-- R159: the copy of the new Active table into Shadow, but for the words the fabric has written since the boundary. -/
def Side.patchRefill (sd : Side) : Side :=
  if sd.gauge.refill then
    let sd := (sd.copyRegion (selBase sd.active) (selBase (1 - sd.active)) 0x10000
      (fun o => sd.gauge.written.contains (o / 4))).set F.PB_STAT_REFILL 0
    { sd with gauge := { sd.gauge with refill := false, written := [] } }
  else sd

/-- R157: Active and Shadow exchange roles for row `row`, and the refill starts. -/
def Side.patchSwap (sd : Side) (row : Nat) : Side :=
  let sd := ((sd.set F.PB_STAT_ACTIVE (1 - sd.active)).set64 F.PB_SWAP_ROW_LO F.PB_SWAP_ROW_HI row).set F.PB_STAT_REFILL 1
  { sd with gauge := { sd.gauge with refill := true, written := [] } }

/-! ### The Gauge engine -/

/-- The base of a point's parameter record and of its meter record. -/
def meterParam (p : Nat) : Nat := 0x0A050000 + 32 * p
def meterRec (p : Nat) : Nat := 0x0A070000 + 32 * p

/-- A word of a point's parameter record (Table PB-6). -/
def Side.mparam (sd : Side) (p off : Nat) : Nat := (sd.rtWord (meterParam p + off)).toNat

/-- A stored value of a point's meter record (Table PB-8), `n` bytes long. -/
def Side.mval (sd : Side) (p off n : Nat) : Nat := leVal (sd.bytes (meterRec p + off) n)

/-- Writes a value of a point's meter record. -/
def Side.setMval (sd : Side) (p off n v : Nat) : Side := sd.putBytes (meterRec p + off) (leBytes n v)

/-- R163: a meter value is at most 2^32 − 1. -/
def cap32 (x : Nat) : Nat := min x (2 ^ 32 - 1)

/-- Phases 0 and 1 of the interpolating filter of ITU-R BS.1770-4 Annex 2, scaled by 2^23 (PRESUMED, log entry 20). -/
def tpPhase0 : List Int :=
  [14336, 92160, -164864, 278528, -498688, 1152000, 8155136, -858112, 399360, -223232, 124928, -69632]
def tpPhase1 : List Int :=
  [-244736, 245760, -434176, 747520, -1396736, 3901440, 6541312, -1680384, 851968, -488448, 277504, -158720]

/-- The twelve coefficients h[4j + k] of phase `k`; the filter is symmetric. -/
def tpPhase (k : Nat) : List Int :=
  match k with
  | 0 => tpPhase0
  | 1 => tpPhase1
  | 2 => tpPhase1.reverse
  | _ => tpPhase0.reverse

/-- TPEAK's t (Table PB-5) from the last twelve samples, newest first. -/
def truePeak (hist : List Int) : Nat :=
  let y := fun k => (roundHalfEven ((List.zipWith (· * ·) (tpPhase k) hist).sum) 23).natAbs
  (List.range 4).foldl (fun m k => max m (y k)) ((hist.headD 0).natAbs)

/-- The integer square root of `n`, below 2^(2b): the bits from `b − 1` down that fit. -/
def isqrtBits : Nat → Nat → Nat → Nat
  | 0, _, r => r
  | b + 1, n, r => isqrtBits b n (if (r + 2 ^ b) * (r + 2 ^ b) ≤ n then r + 2 ^ b else r)

/-- The meter state of a point. -/
def Gauge.meter (g : Gauge) (p : Nat) : Meter := Sparse.get (fun _ => { ms := 0, timer := 0, run := 0, hist := [] }) g.meters p

/-- Table PB-5: point `p` takes the sample of row `row`. -/
def Side.measurePoint (sd : Side) (row p : Nat) : Side :=
  let w0 := sd.mparam p 0
  let n := w0 % 16384
  let x := sd.sourceValue n row 0
  let m := sd.gauge.meter p
  let hist := (x :: m.hist).take 12
  let ax := x.natAbs
  let t := cap32 (truePeak hist)
  let ms := (m.ms + (x * x - m.ms) * sd.mparam p 0x10 / 2 ^ 32).toNat % 2 ^ 64
  let v := if w0.testBit 15 then t else ax
  let hold := sd.mval p 12 4
  let h : Nat × Nat :=
    if hold ≤ v then (v, sd.mparam p 0x14 % 2 ^ 21)
    else if 0 < m.timer then (hold, m.timer - 1)
    else if sd.mparam p 8 % 1024 ≠ 0 then (hold * sd.mparam p 0x18 / 2 ^ 32, m.timer)
    else (hold, m.timer)
  let clip := decide (sd.mparam p 0x0C ≤ ax)
  let run := if clip then m.run + 1 else 0
  let events := if run = w0 / 2 ^ 20 % 16 + 1 then min (sd.mval p 20 2 + 1) 65535 else sd.mval p 20 2
  let u := sd.location n % 64
  let mark := fun k => Sparse.get (fun _ => 0) sd.pages.mark k
  let held := mark u = 1 ∨ (u = 39 ∧ mark (64 + sd.location n / 256 / 256) = 1)
  let flags := sd.mval p 22 2 ||| (w0 / 2 ^ 14 % 2) ||| (if held then 2 else 0) ||| (if clip then 4 else 0)
  let rec8 := leBytes 4 (max (sd.mval p 0 4) ax) ++ leBytes 4 (max (sd.mval p 4 4) t) ++ leBytes 4 (cap32 (isqrtBits 32 ms 0)) ++
    leBytes 4 (cap32 h.1) ++ leBytes 4 (sd.mval p 16 4 + clip.toNat) ++ leBytes 2 events ++ leBytes 2 flags ++ leBytes 2 p
  let sd := sd.putBytes (meterRec p) rec8
  { sd with
    gauge := { sd.gauge with
      meters := Sparse.set (fun _ => { ms := 0, timer := 0, run := 0, hist := [] }) sd.gauge.meters p
        { ms := ms, timer := h.2, run := run, hist := hist } } }

/-- R165: the reset of a point at a row boundary. -/
def Side.resetPoint (sd : Side) (p : Nat) : Side :=
  let m := sd.gauge.meter p
  let sd := ((sd.setMval p 0 8 0).setMval p 12 8 0).setMval p 20 2 0
  { sd with
    gauge := { sd.gauge with
      meters := Sparse.set (fun _ => { ms := 0, timer := 0, run := 0, hist := [] }) sd.gauge.meters p { m with timer := 0 } } }

/-- R163: the Gauge engine's work of row `row`. -/
def Side.measure (sd : Side) (row : Nat) : Side :=
  let sd := sd.touchRead (sd.gauge.used.flatMap (fun p => [meterParam p, meterParam p + 8, meterParam p + 16, meterParam p + 24]))
  let sd := sd.gauge.used.foldl (fun x p => x.measurePoint row p) sd
  { sd with gauge := { sd.gauge with captureDue := true } }

/-- R165: the resets that became due at this boundary. -/
def Side.applyMeterResets (sd : Side) : Side :=
  let sd := sd.gauge.resetDue.foldl Side.resetPoint sd
  { sd with gauge := { sd.gauge with resetDue := [] } }

/-! ### The row pulse -/

/-- Whether a unit's work of the row before does not finish. -/
def Side.missed (sd : Side) (u : Nat) : Bool := sd.pages.unfinished.contains u

/-- R260, R495: whether a unit publishes nothing for the row before: its gate was closed, or closed while the row's work was unfinished. -/
def Side.skipped (sd : Side) (u : Nat) : Bool := sd.pages.abandoned.contains u

/-- Notes that the units `us` publish nothing for this row, and that they take the row that starts up again. -/
def Side.skip (sd : Side) (us : List Nat) : Side :=
  { sd with pages := { sd.pages with abandoned := us ++ sd.pages.abandoned.filter (fun u => !us.contains u) } }
def Side.rejoinRow (sd : Side) (us : List Nat) : Side :=
  { sd with pages := { sd.pages with abandoned := sd.pages.abandoned.filter (fun u => !us.contains u) } }

/-- R26: the mark of a unit's publication of the row before, with its overrun record. -/
def Side.transmitMark (sd : Side) (u prev : Nat) : Side :=
  if sd.skipped u then sd.markUnit u .idle
  else if sd.missed u then (sd.markUnit u .held).overrun u prev
  else (sd.markUnit u .complete).completedRow u

/-- R26, R89, R160: what units 33 and 34 publish of the row before `row`. -/
def Side.gaugePublish (sd : Side) (row : Nat) : Side :=
  let prev := (row + 2 ^ 64 - 1) % 2 ^ 64
  let say := fun (x : Side) m => (x.announceRegions 1 prev m).markUnit 33 m
  let sd :=
    if !sd.gauge.running || sd.skipped 33 then say sd .idle
    else if sd.missed 33 then ((say sd .held).sendAnnounce 256 prev .held).overrun 33 prev
    else (say sd .complete).completedRow 33
  sd.transmitMark 34 prev

/-! ### Waiting for producers (R28, R55) -/

/-- A word and a field of the skein record `i` (32 × link + 16 × DIR + SKEIN). -/
def Shemas.word (x : Shemas) (i w : Nat) : Nat := Sparse.get (fun _ => 0) x.skeins (4 * i + w)
def Shemas.fld (x : Shemas) (i w lo len : Nat) : Nat := bitsOf (x.word i w) lo len
def Side.skeinF (sd : Side) (i w lo len : Nat) : Nat := sd.shemas.fld i w lo len

/-- Whether skein record `i` is enabled. -/
def Side.skeinOn (sd : Side) (i : Nat) : Bool := decide (sd.skeinF i 0 0 1 = 1)

/-- Whether the receive skein `i` is done with input row `m`. -/
def Side.skeinTaken (sd : Side) (i m : Nat) : Bool := decide (Sparse.get (fun _ => 0) sd.shemas.taken i = m + 1)

/-- The gate of the island that holds a producer of source points. -/
def sourceGate (u : Nat) : Nat := match u with | 35 => 37 | 37 => 38 | u => u

/-- R28: whether unit `u`, a producer of source points, has published the row before `row`: its island has taken the pulse for `row`, or
is gated and the gate cell answers for it. A receive skein has, besides, met its block or been given up (R55). -/
def Side.published (sd : Side) (u row : Nat) : Bool :=
  if u < 33 ∨ u = 35 ∨ u = 37 ∨ u = 39 then
    !sd.gateOpen (sourceGate u) ||
      (decide (Sparse.get (fun _ => 0) sd.pages.pulsed u = row + 1) &&
        (decide (u ≠ 39) || (List.range 64).all (fun j =>
          let i := j / 16 * 32 + j % 16
          !sd.skeinOn i || sd.skeinTaken i ((row + 2 ^ 64 - 1) % 2 ^ 64))))
  else true

/-- The units whose source points units 33 and 34 and the Gauge engine read in a row. -/
def Side.readUnits (sd : Side) : List Nat :=
  (if sd.gauge.running then
    sd.usedDests.filterMap (fun d => let s := sd.selection d; if s.testBit 15 then none else some (sd.location (s % 16384) % 64))
  else []) ++ sd.gauge.used.map (fun p => sd.location (sd.mparam p 0 % 16384) % 64)

/-- The work of units 33 and 34 and of the Gauge engine in row `row` (R50, R124, R156, R163). -/
def Side.gaugeWork (sd : Side) (row : Nat) : Side :=
  let sd := if sd.gauge.running then sd.touchRead sd.patchReads else sd
  let sd := if sd.gauge.running && !sd.missed 33 then sd.gather row sd.gauge.lost else sd
  let sd := if sd.missed 34 then sd else (sd.formChecksum row).emit row
  (sd.measure row).compareDue

/-- R28, R55: the row's work is done once every producer that it reads has published. -/
def Side.gaugeTry (sd : Side) : Side :=
  match sd.gauge.waits with
  | none => sd
  | some row =>
    if sd.pulsing && sd.gateOpen 33 && sd.readUnits.all (fun u => sd.published u row) then
      ({ sd with gauge := { sd.gauge with waits := none } } : Side).gaugeWork row
    else sd

/-- Notes that the island of the producing units `us` has taken the pulse for row `row`. -/
def Side.tookPulse (sd : Side) (us : List Nat) (row : Nat) : Side :=
  us.foldl (fun (x : Side) u =>
    { x with pages := { x.pages with pulsed := Sparse.set (fun _ => 0) x.pages.pulsed u (row + 1) } }) sd

/-- R26: units 33 and 34 have not finished a row whose work still waits at the next pulse. -/
def Side.gaugeLate (sd : Side) : Side :=
  if sd.gauge.waits.isSome then { sd with pages := { sd.pages with unfinished := 33 :: 34 :: sd.pages.unfinished } } else sd

/-- The Gauge island's share of the row pulse for row `row`: publication (R26), the Patchbay's swap (R157), RUN (R160), the meter
resets (R165), and the row's work, at once or when the producers it reads have published (R28). Units 33 or 34 in `unfinished` do not
complete the row that starts. The flag says whether the Patchbay acknowledges the Take of this row. -/
def Side.gaugePulse (sd : Side) (row : Nat) (take : Bool) (unfinished lost : List Nat) : Side × Bool :=
  let prev := (row + 2 ^ 64 - 1) % 2 ^ 64
  if !sd.gateOpen 33 then
    (((((sd.announceRegions 1 prev .idle).sendAnnounce 256 row .idle).markUnit 33 .idle).markUnit 34 .idle).skip [33, 34], false)
  else
    let sd := (sd.gaugeLate.gaugePublish row).rejoinRow [33, 34]
    let sd := { sd with
      pages := { sd.pages with
        unfinished := sd.pages.unfinished.filter (fun u => u ≠ 33 && u ≠ 34) ++ unfinished.filter (fun u => u = 33 || u = 34) }
      gauge := { sd.gauge with running := sd.flag F.PB_CTRL_RUN, row := row, captureDue := false, waits := some row, lost := lost } }
    let sd := sd.patchRefill
    let swap := take && sd.gauge.running
    let sd := if swap then sd.patchSwap row else sd
    let sd := if sd.gauge.running then sd else sd.sendAnnounce 256 row .idle
    (sd.applyMeterResets.gaugeTry, swap)

/-- R165, R166: the end of a frame's capture for point `p`: PEAK, TPEAK and the flags since the last frame start anew. -/
def Side.framed (sd : Side) (p : Nat) : Side := (sd.setMval p 0 8 0).setMval p 22 2 (sd.mval p 22 2 % 2)

/-- Table PB-6: ALPHA, HOLD_ROWS and DECAY_F from W, H and D (R164). -/
def alphaOf (w r : Nat) : Nat := (roundHalfEven (fxOne - fxExpNeg 8 (-(fxOne * 1000 / (w * r)))) 96).toNat
def holdRowsOf (h r : Nat) : Nat :=
  let q := h * r / 1000
  let m := h * r % 1000
  if 500 < m ∨ (m = 500 ∧ q % 2 = 1) then q + 1 else q
def decayOf (d r : Nat) : Nat :=
  min (roundHalfEven (fxExpNeg 8 (-(fxLn10 * d / (200 * r)))) 96).toNat (2 ^ 32 - 1)

end Sys2Proof.Machine
end

