-- ==== Sys2Proof/Machine/Takes.lean ====
section
/-!
DEFINITION. The Take scheduler (R172 to R187, R199) and the Cue logic but for the loader's writes (R188 to R198, R497).
-/
namespace Sys2Proof.Machine

open Sys2Proof

/-! ### The queue -/

/-- Whether the scheduler accepts posts and the trigger logic fires Cues (R199). -/
def Side.takesTakes (sd : Side) : Bool := sd.pulsing

/-- The queue as a list of entries. -/
def Side.takeList (sd : Side) : List Take := sd.takes.queue.toList.filterMap id

/-- Replaces a queue entry. -/
def Side.putTake (sd : Side) (q : Fin 8) (t : Option Take) : Side :=
  { sd with takes := { sd.takes with queue := sd.takes.queue.set q t } }

/-- The lowest free entry. -/
def Side.freeEntry (sd : Side) : Option (Fin 8) := (List.finRange 8).find? (fun q => (sd.takes.queue[q]).isNone)

/-- The entry of Take `num`. -/
def Side.entryOf (sd : Side) (num : Nat) : Option (Fin 8) :=
  (List.finRange 8).find? (fun q => (sd.takes.queue[q]).any (fun t => t.num = num))

/-- Whether a mask names unit `u` of Table TK-1. -/
def names (mask u : Nat) : Bool := mask.testBit u

/-- Whether a queued Take names the Cross array at a row (R177). -/
def Side.crossAt (sd : Side) (row : Nat) : Bool := sd.takeList.any (fun t => t.row = some row && names t.mask 32)

/-- The unit of Table TK-1 whose shadow copy an address holds. -/
def unitOf (a : Nat) : Option Nat :=
  match fabTarget a with
  | 20 => some 32
  | 21 => some 33
  | 24 => if 0x09F90000 ≤ a ∧ a < 0x09F98000 then some 35 else none
  | 26 => if 0x0B030000 ≤ a ∧ a < 0x0B040000 then some 34 else none
  | t => if 12 ≤ t ∧ t < 20 then some ((a - 0x06000000) / 0x80000) else none

/-- R192, R174: whether Take `t` is due before the Take `num` at row `row`; one that still awaits its row counts by its number. -/
def dueBefore (t : Take) (num : Nat) (row : Option Nat) : Bool :=
  decide (t.num ≠ num ∧ t.state ≠ 4) &&
    (match t.row, row with
     | some r, some r' => decide (r < r')
     | some _, none => true
     | none, _ => decide (t.num < num))

/-- R174: the held writes that belong to a queued Take wait, besides, for every queued Take that names the unit and has come to be due
before it. -/
def Side.rebind (sd : Side) : Side :=
  let more := fun (w : HeldWrite) =>
    match sd.takeList.find? (fun t => decide (w.take ≠ 0) && t.num = w.take), unitOf w.addr with
    | some n, some u =>
      ((sd.takeList.filter (fun t => names t.mask u && dueBefore t n.num n.row)).map Take.num).filter (fun k => !w.after.contains k)
    | _, _ => []
  { sd with fw := { sd.fw with held := sd.fw.held.map (fun w => { w with after := w.after ++ more w }) } }

/-- R177: the first row from `r` at which a mask can be placed; eight entries keep it within eight rows. -/
def Side.placeRow (sd : Side) (mask r : Nat) : Nat :=
  if names mask 32 then ((List.range 9).find? (fun i => !sd.crossAt (r + i))).elim r (fun i => r + i) else r

/-- The loaded Pattern's CORE_MASK (Table PL-3). -/
def Side.coreMask (sd : Side) : Nat :=
  match sd.fw.pattern with
  | some p => leVal ((p.header.drop 0x20).take 4)
  | none => 0

/-- R172: the mask sets no reserved bit and names no core outside CORE_MASK. -/
def Side.maskOk (sd : Side) (mask : Nat) : Bool :=
  decide (mask / 2 ^ 36 = 0) && (List.range 32).all (fun k => !names mask k || sd.coreMask.testBit k)

/-- The number the next accepted Take receives, and the number after it (R179). -/
def Side.nextNum (sd : Side) : Nat := sd.get F.TK_NEXT_NUM
def Side.bumpNum (sd : Side) : Side :=
  sd.set F.TK_NEXT_NUM (if sd.nextNum = 2 ^ 32 - 1 then 1 else sd.nextNum + 1)

/-- Whether this Side is a Follow that has lost the Twin Link (R187). -/
def Side.unlinked (sd : Side) : Bool := decide (sd.mode = .follow) && sd.flag F.TW_STAT_UNLINKED

/-- Whether this Side waits for the Lead's rows of floated Takes. -/
def Side.awaitsLead (sd : Side) : Bool := decide (sd.mode = .follow) && !sd.unlinked

/-- The earliest row of a floated Take received in row `k` (R185, R187). -/
def Side.floatFrom (sd : Side) (k : Nat) : Nat := if sd.mode = .lead ∨ sd.unlinked then k + 4 else k + 3

/-! ### Closing (R182 to R184) -/

/-- R184: a history entry. -/
def Side.putHistory (sd : Side) (t : Take) (row : Nat) (ok : Bool) : Side :=
  let h := sd.get F.TK_STAT_HNEXT
  let sd := (sd.set (F.TK_H_NUM h) t.num).set64 (F.TK_H_ROW_LO h) (F.TK_H_ROW_HI h) row
  let sd := (sd.set64 (F.TK_H_MASK_LO h) (F.TK_H_MASK_HI h) t.mask).set64 (F.TK_H_ACK_LO h) (F.TK_H_ACK_HI h) t.acked
  ((sd.set (F.TK_H_OK h) ok.toNat).set (F.TK_H_SLIPPED h) t.slipped.toNat).set F.TK_STAT_HNEXT (h + 1)

/-- The units of a Take that did not acknowledge. -/
def Take.missing (t : Take) : Nat :=
  ((List.range 36).map (fun u => if names t.mask u && !names t.acked u then 2 ^ u else 0)).sum

/-- R183: the failure of a Take due at row `row`. -/
def Side.takeFail (sd : Side) (t : Take) (row : Nat) : Side :=
  let sd := sd.incSat F.TK_FAIL_CNT_COUNT
  if sd.flag F.TK_STAT_FAIL then sd.set F.TK_STAT_MULTI 1
  else
    ((((sd.set F.TK_FAIL_NUM t.num).set64 F.TK_FAIL_ROW_LO F.TK_FAIL_ROW_HI row).set64 F.TK_FAIL_MISS_LO F.TK_FAIL_MISS_HI
      t.missing).set F.TK_STAT_FAIL 1).raise 0x0005 0 (leBytes 4 t.num ++ leBytes 8 row ++ leBytes 8 t.missing)

/-- Table TK-10: ROW of a slot takes the row of its Take, once that is known. -/
def Side.cueAt (sd : Side) (cue row : Option Nat) : Side :=
  match cue, row with
  | some n, some r => sd.set64 (F.TK_CUE_ROW_LO n) (F.TK_CUE_ROW_HI n) r
  | _, _ => sd

/-- R196: a Cue at the close of its Take. -/
def Side.cueClose (sd : Side) (n row : Nat) : Side :=
  let trig := sd.get (F.TK_CUE_TRIG n)
  let rearm := sd.flag (F.TK_CUE_AUTO_REARM n) && decide (trig = 0 ∨ trig = 2 ∨ trig = 3)
  ((sd.incSat (F.TK_CUE_FIRES n)).cueAt (some n) (some row)).set (F.TK_CUE_STATE n) (if rearm then 2 else 4)

/-- R180 step 6, R182: the close of a Take. -/
def Side.closeTake (sd : Side) (t : Take) (row : Nat) : Side :=
  let ok := decide (t.missing = 0)
  let sd := sd.putHistory t row ok
  let sd := if ok then sd else sd.takeFail t row
  match t.cue with
  | some n => sd.cueClose n row
  | none => sd

/-! ### Posting -/

/-- What posting a Take answers: the refusal, or its number and row (none while a Follow waits for it). -/
inductive Posted where
  | accepted (num : Nat) (row : Option Nat)
  | badValue
  | queueFull
  | rowBusy
  | tooLate
  deriving DecidableEq, Repr

/-- Takes an entry for a Take with a row already chosen. A Cue's Take names descriptor 8 + q (R173). -/
def Side.enqueue (sd : Side) (q : Fin 8) (row : Option Nat) (mask desc : Nat) (floated : Bool) (cue : Option Nat)
    (slipped : Bool) (planned : Nat) : Side :=
  let d := if !names mask 32 then 0 else if cue.isSome then 8 + q.val else desc
  (((sd.putTake q (some
    { num := sd.nextNum, row := row, mask := mask, desc := d, floated := floated, cue := cue, state := 1, acked := 0
      slipped := slipped, waits := false, planned := planned })).bumpNum).cueAt cue row).rebind

/-- R187: the row and number of a floated Take go to the Follow. -/
def Side.sendRow (sd : Side) (num row : Nat) : Side :=
  if sd.mode = .lead then { sd with takes := { sd.takes with rowsSent := sd.takes.rowsSent ++ [(num, row)] } } else sd

/-- An explicit Take for row `row`, received in the Side's row (R175, R177). -/
def Side.postExplicit (sd : Side) (row mask desc : Nat) (cue : Option Nat) : Side × Posted :=
  if row < sd.row + 3 then (sd, .tooLate)
  else
    match sd.freeEntry with
    | none => (sd, .queueFull)
    | some q =>
      if names mask 32 && sd.crossAt row then (sd, .rowBusy)
      else (sd.enqueue q (some row) mask desc false cue false row, .accepted sd.nextNum (some row))

/-- R187, R177: what the Lead's row can be for a Take of mask `mask` on the Follow that posts its copy for it as an explicit Take. -/
inductive RowFit where
  | taken (row : Nat)
  | slips (row : Nat)
  | fails
  deriving DecidableEq, Repr

/-- R175, R177, R194: a row that comes too late fails the Take. So does one at which another Take names the Cross array, for a host's Take;
a Cue's Take slips from it (DEDUCED from R177, log entry 133). -/
def Side.rowFit (sd : Side) (mask : Nat) (cue : Option Nat) (row : Nat) : RowFit :=
  if row < sd.row + 3 then .fails
  else if names mask 32 && sd.crossAt row then
    if cue.isSome then .slips (sd.placeRow mask (row + 3)) else .fails
  else .taken row

/-- R194: a Cue Take has slipped from row `planned` to row `used`. -/
def Side.slipEvent (sd : Side) (n planned used : Nat) : Side :=
  (sd.set F.TK_STAT_SLIP 1).raise 0x0006 n (leBytes 8 planned ++ leBytes 8 used)

/-- The Take of a Cue has slipped. -/
def Side.slipCue (sd : Side) (cue : Option Nat) (planned used : Nat) : Side :=
  match cue with
  | some n => sd.slipEvent n planned used
  | none => sd

/-- A floated Take received in the Side's row (R185, R187). On a Follow it waits for the Lead's row, which may have come
first; a kept row that fails closes the Take at once, without an entry. -/
def Side.postFloated (sd : Side) (mask desc : Nat) (cue : Option Nat) : Side × Posted :=
  let num := sd.nextNum
  let kept := if sd.awaitsLead then (sd.takes.kept.find? (fun e => e.1 = num)).map Prod.snd else none
  let x : Side := { sd with takes := { sd.takes with kept := sd.takes.kept.filter (fun e => e.1 ≠ num) } }
  match kept.map (fun r => (r, sd.rowFit mask cue r)), sd.freeEntry with
  | some (r, .fails), _ =>
    let t : Take :=
      { num := num, row := some r, mask := mask, desc := desc, floated := true, cue := cue, state := 1, acked := 0
        slipped := false, waits := false, planned := r }
    ((x.closeTake t r).bumpNum, .accepted num (some r))
  | _, none => (sd, .queueFull)
  | some (r, .taken row), some q => (x.enqueue q (some row) mask desc true cue false r, .accepted num (some row))
  | some (r, .slips row), some q => ((x.enqueue q (some row) mask desc true cue true r).slipCue cue r row, .accepted num (some row))
  | none, some q =>
    if sd.awaitsLead then (sd.enqueue q none mask desc true cue false (sd.row + 4), .accepted num none)
    else
      let row := sd.placeRow mask (sd.floatFrom sd.row)
      ((sd.enqueue q (some row) mask desc true cue false row).sendRow num row, .accepted num (some row))

/-- A queued Take is given its row (R177, R187). -/
def Side.giveRow (sd : Side) (q : Fin 8) (t : Take) (row planned : Nat) (slipped : Bool) : Side :=
  ((sd.putTake q (some { t with row := some row, waits := false, planned := planned, slipped := t.slipped || slipped })).cueAt t.cue
    (some row)).rebind

/-- Whether a Take number is still to be given, within half the numbers from the next one on (R179). -/
def Side.numAhead (sd : Side) (num : Nat) : Bool := decide ((num + (2 ^ 32 - 1) - sd.nextNum) % (2 ^ 32 - 1) < 2 ^ 31)

/-- R187: a Side that no longer waits for the Lead gives its waiting Takes rows itself, from row `k` on, in number order. -/
def Side.giveRows (sd : Side) (k : Nat) : Side :=
  if sd.awaitsLead then sd
  else
    (List.finRange 8).foldl (fun x q =>
      match x.takes.queue[q] with
      | some t =>
        if t.row.isNone && !t.waits then
          let row := x.placeRow t.mask (if x.unlinked then k + 4 else k + 3)
          (x.giveRow q t row row false).sendRow t.num row
        else x
      | none => x) sd

/-- Removes a Cue from the loader's queue. -/
def Side.dropJob (sd : Side) (num : Nat) : Side :=
  { sd with takes := { sd.takes with loader := sd.takes.loader.filter (fun j => j.num ≠ num) } }

/-- A Cue's slot whose Take is cancelled goes to state `back`; one that is armed for a row again shows that row (Table TK-10). -/
def Side.cueBack (sd : Side) (n back : Nat) : Side :=
  let sd := if back = 2 ∧ sd.get (F.TK_CUE_TRIG n) = 1 then sd.cueAt (some n) (some (Sparse.get (fun _ => 0) sd.takes.arms n)) else sd
  sd.set (F.TK_CUE_STATE n) back

/-- Takes a queued Take out of the queue; its Cue's slot goes to state `back`. -/
def Side.removeTake (sd : Side) (q : Fin 8) (back : Nat) : Side :=
  match sd.takes.queue[q] with
  | some t =>
    let sd := (sd.putTake q none).dropJob t.num
    match t.cue with
    | some n => sd.cueBack n back
    | none => sd
  | none => sd

/-- What cancelling a Take answers (R178). -/
inductive Cancelled where
  | done
  | tooLate
  | badValue
  deriving DecidableEq, Repr

/-- R278, R473: every queued Take that `p` holds of is cancelled, and its Cue returns to LOADED. -/
def Side.cancelWhere (sd : Side) (p : Take → Bool) : Side :=
  let sd := (List.finRange 8).foldl (fun x q =>
    if (x.takes.queue[q]).any (fun t => t.state ≠ 4 && p t) then x.removeTake q 1 else x) sd
  sd.takes.slips.foldl (fun x r => x.set (F.TK_CUE_STATE r.slot) 1) { sd with takes := { sd.takes with slips := [] } }

/-- R473: every ARMED Cue returns to LOADED. -/
def Side.disarmAll (sd : Side) : Side :=
  (List.range 128).foldl (fun x n => if x.get (F.TK_CUE_STATE n) = 2 then x.set (F.TK_CUE_STATE n) 1 else x) sd

/-! ### Cues -/

/-- The memory of a Cue slot (R188). -/
def cueBase (n : Nat) : Nat := 0x09000000 + 0x10000 * n

/-- A Cue's take mask. -/
def Side.cueMask (sd : Side) (n : Nat) : Nat := sd.get64 (F.TK_CUE_MASK_LO n) (F.TK_CUE_MASK_HI n)

/-- A Cue's row E. -/
def Side.cueRow (sd : Side) (n : Nat) : Nat := sd.get64 (F.TK_CUE_ROW_LO n) (F.TK_CUE_ROW_HI n)

/-- A little-endian word of a byte list. -/
def wordAt (bs : List Byte) (o : Nat) : Nat := leVal ((bs.drop o).take 4)

/-- The words of a list of bytes. -/
def wordsOf (bs : List Byte) (n : Nat) : List Nat := (List.range n).map (fun i => wordAt bs (4 * i))

/-- Table TK-6: the records of a slot, up to the end record, a reserved OP or the end of the slot. -/
def cueRecords : Nat → List Byte → List (Nat × List Nat)
  | 0, _ => []
  | fuel + 1, bs =>
    let w0 := wordAt bs 0
    if w0 / 2 ^ 28 % 16 ≠ 1 ∨ (bs.drop 7).isEmpty then []
    else
      let n := w0 / 65536 % 4096 + 1
      (wordAt bs 4, wordsOf (bs.drop 8) n) :: cueRecords fuel (bs.drop (8 + 4 * n))

/-- The records a slot holds. -/
def Side.slotRecords (sd : Side) (n : Nat) : List (Nat × List Nat) :=
  cueRecords 8192 (sd.bytes (cueBase n + 0x100) 65280)

/-- R193: a fired Cue joins the loader's queue: those fired in one row in ascending slot order. -/
def Side.addJob (sd : Side) (j : LoaderJob) : Side :=
  let ahead := fun (x : LoaderJob) => x.started || decide (x.fired < j.fired ∨ (x.fired = j.fired ∧ x.slot < j.slot))
  { sd with
    takes := { sd.takes with
      loader := sd.takes.loader.filter ahead ++ [j] ++ sd.takes.loader.filter (fun x => !ahead x) } }

/-- A Cue that fired in row `fired` and whose Take is in the queue: LAST_NUM, and its place with the loader (R191, R193). -/
def Side.cueQueued (sd : Side) (n num fired : Nat) : Side :=
  (sd.set (F.TK_CUE_LAST_NUM n) num).addJob
    { slot := n, fired := fired, num := num, started := false, records := [] }

/-- R194: the Take of Cue `n`, fired in row `fired`, at the first row from `r` that R177 allows, if an entry is free. -/
def Side.slipInto (sd : Side) (n planned r fired : Nat) : Option Side :=
  match sd.freeEntry with
  | none => none
  | some q =>
    let row := sd.placeRow (sd.cueMask n) r
    let num := sd.nextNum
    some (((sd.enqueue q (some row) (sd.cueMask n) 0 true (some n) true planned).cueQueued n num fired).slipEvent n planned row)

/-- R194, R199: Cues that wait for an entry take one in row `row`, at the earliest three rows on. -/
def Side.admitSlips (sd : Side) (row : Nat) : Side :=
  if sd.takesTakes then
    sd.takes.slips.foldl (fun x r =>
      match x.slipInto r.slot r.planned (row + 3) r.fired with
      | some y => { y with takes := { y.takes with slips := y.takes.slips.erase r } }
      | none => x) sd
  else sd

/-- R178, R196: a cancel by Take number; a Cue's slot returns to ARMED, and a Cue that waits for an entry takes the one
that is free now (R194). -/
def Side.cancelTake (sd : Side) (num : Nat) : Side × Cancelled :=
  match sd.entryOf num with
  | some q =>
    if (sd.takes.queue[q]).any (fun t => t.state = 1) then ((sd.removeTake q 2).admitSlips sd.row, .done) else (sd, .tooLate)
  | none => (sd, .badValue)

/-- R187: the Lead's row for floated Take `num` arrives: the Follow posts its copy for it, closes it as failed, or keeps the row until the
request is accepted. -/
def Side.floatRow (sd : Side) (num row : Nat) : Side :=
  if !sd.takesTakes then sd
  else
    match sd.entryOf num with
    | some q =>
      match sd.takes.queue[q] with
      | some t =>
        if t.row.isSome || t.waits then sd
        else
          match sd.rowFit t.mask t.cue row with
          | .taken r => sd.giveRow q t r r false
          | .slips r => (sd.giveRow q t r row true).slipCue t.cue row r
          | .fails => (((sd.putTake q none).dropJob t.num).closeTake { t with row := some row } row).admitSlips sd.row
      | none => sd
    | none =>
      if sd.numAhead num then { sd with takes := { sd.takes with kept := sd.takes.kept ++ [(num, row)] } } else sd

/-- The row a firing Cue plans its Take for: none for a floated one (Table TK-7, R195, R197). -/
inductive CueTake where
  | explicit (row : Nat)
  | floated
  deriving DecidableEq, Repr

/-- R191, R194: Cue `n` fires: its slot goes to FIRING and its Take is queued, or slips. -/
def Side.fireCue (sd : Side) (n : Nat) (how : CueTake) : Side :=
  let sd := sd.set (F.TK_CUE_STATE n) 3
  let mask := sd.cueMask n
  let wait := fun (planned : Nat) =>
    { sd with takes := { sd.takes with slips := sd.takes.slips ++ [{ slot := n, planned := planned, fired := sd.row }] } }
  match how with
  | .explicit row =>
    match sd.postExplicit row mask 0 (some n) with
    | (sd', .accepted num _) => sd'.cueQueued n num sd.row
    | (_, .queueFull) => wait row
    | (_, _) => (sd.slipInto n row (max row sd.row + 3) sd.row).getD (wait row)
  | .floated =>
    match sd.postFloated mask 0 (some n) with
    | (sd', .accepted num _) =>
      if (sd'.entryOf num).isSome then sd'.cueQueued n num sd.row else sd'.set (F.TK_CUE_LAST_NUM n) num
    | (_, _) => wait (sd.floatFrom sd.row)

/-- R197: a Cue that fires on its own device, in row `g`; one with BCAST names a row for the frame and broadcasts it (in
Twin, the Lead alone). -/
def Side.fireOwn (sd : Side) (n : Nat) (how : CueTake) : Side :=
  if sd.flag (F.TK_CUE_BCAST n) then
    let e := sd.row + 3 + sd.get F.TK_BCAST_MARGIN
    let sd := sd.fireCue n (.explicit e)
    if sd.mode = .follow ∨ sd.mode = .rework then sd
    else { sd with takes := { sd.takes with casts := sd.takes.casts ++ [(sd.get (F.TK_CUE_BID n), e)] } }
  else sd.fireCue n how

/-- R191: the row triggers at the boundary of the Side's row, in slot order: armed TRIG 1 Cues with E three rows on, and
armed TRIG 3 Cues whose broadcast named a row three rows on. -/
def Side.rowTriggers (sd : Side) : Side :=
  let heard := sd.takes.heard
  let sd := { sd with takes := { sd.takes with heard := heard.filter (fun h => decide (sd.row + 3 < h.2)) } }
  (List.range 128).foldl (fun x n =>
    if x.get (F.TK_CUE_STATE n) = 2 then
      if x.get (F.TK_CUE_TRIG n) = 1 ∧ x.cueRow n = x.row + 3 then x.fireOwn n (.explicit (x.cueRow n))
      else if x.get (F.TK_CUE_TRIG n) = 3 ∧ heard.contains (x.get (F.TK_CUE_BID n), x.row + 3) then
        x.fireCue n (.explicit (x.row + 3))
      else x
    else x) sd

/-- R191: a processed edge of GPIO `g` fires every armed TRIG 2 Cue on it. -/
def Side.gpioTriggers (sd : Side) (g : Nat) (rising : Bool) : Side :=
  if sd.takesTakes then
    (List.range 128).foldl (fun x n =>
      let edge := x.get (F.TK_CUE_EDGE n)
      if x.get (F.TK_CUE_STATE n) = 2 ∧ x.get (F.TK_CUE_TRIG n) = 2 ∧ x.get (F.TK_CUE_GPIO n) = g ∧
          (edge = 3 ∨ edge = (if rising then 1 else 2)) then
        x.fireOwn n .floated
      else x) sd
  else sd

/-- R195: a late broadcast or a passed row: LATE, CUE_LATE, and by LATE_POLICY a floated Take or nothing. -/
def Side.fireLate (sd : Side) (n e : Nat) : Side :=
  let sd := (sd.set F.TK_STAT_LATE 1).raise 0x0007 n (leBytes 8 e)
  if sd.flag (F.TK_CUE_LATE_POLICY n) then sd else sd.fireCue n .floated

/-- R191, R195: a broadcast of BID `bid` for row `e` is heard: armed TRIG 3 Cues with that BID fire at row E − 3, or are
late once that row has begun. -/
def Side.castTriggers (sd : Side) (bid e : Nat) : Side :=
  if !sd.takesTakes then sd
  else if sd.row + 3 < e then { sd with takes := { sd.takes with heard := sd.takes.heard ++ [(bid, e)] } }
  else
    (List.range 128).foldl (fun x n =>
      if x.get (F.TK_CUE_STATE n) = 2 ∧ x.get (F.TK_CUE_TRIG n) = 3 ∧ x.get (F.TK_CUE_BID n) = bid then x.fireLate n e
      else x) sd

/-! ### The boundary (R180) -/

/-- R180 step 6 at the boundary of `row`: the Takes of the row before close. -/
def Side.closeTakes (sd : Side) (row : Nat) : Side :=
  (List.finRange 8).foldl (fun x q =>
    match x.takes.queue[q] with
    | some t =>
      match t.row with
      | some r => if t.state = 4 ∧ r < row then (x.putTake q none).closeTake t r else x
      | none => x
    | none => x) { sd with takes := { sd.takes with ackDue := 0 } }

/-- R194: at the boundary of row T − 1 a Cue Take whose writes the loader has not ended loses its row. -/
def Side.slipUnloaded (sd : Side) (row : Nat) : Side :=
  (List.finRange 8).foldl (fun x q =>
    match x.takes.queue[q] with
    | some t =>
      if t.row = some (row + 1) && x.takes.loader.any (fun j => j.num = t.num) then
        x.putTake q (some { t with row := none, waits := true, floated := true, slipped := true, state := 1 })
      else x
    | none => x) sd

/-- R180 steps 2 to 4 for one entry at the boundary of `row`. -/
def Take.advance (t : Take) (row : Nat) : Take :=
  match t.row with
  | none => t
  | some r =>
    if r = row then { t with state := 4, acked := 0 }
    else if r = row + 1 then { t with state := if names t.mask 32 then 3 else max t.state 2 }
    else if r = row + 2 then { t with state := max t.state 2 }
    else t

/-- The mask that goes with the pulse of `row` (R177). -/
def Side.commitMask (sd : Side) (row : Nat) : Nat :=
  (sd.takeList.filter (fun t => t.state = 4 && t.row = some row)).foldl (fun m t => m ||| t.mask) 0

/-- The descriptor noticed with the pulse of `row` for a Take due at the next (R136). -/
def Side.noticeDesc (sd : Side) (row : Nat) : Option Nat :=
  (sd.takeList.find? (fun t => t.row = some (row + 1) && names t.mask 32)).map Take.desc

/-- R198: the releases of the Cue Takes that commit at `row`. -/
def Side.planReleases (sd : Side) (row : Nat) : Side :=
  sd.takeList.foldl (fun x t =>
    match t.cue with
    | some n =>
      if t.row = some row ∧ t.state = 4 then
        let rel := (List.range (min (x.get (F.TK_CUE_PKTS n)) 4)).map (fun p =>
          let w := leVal (x.bytes (cueBase n + 0x80 + 16 * p) 4)
          { row := row + w / 2 ^ 24, buffer := w % 65536, port := w / 65536 % 2, slot := n : Release })
        { x with takes := { x.takes with releases := x.takes.releases ++ rel } }
      else x
    | none => x) sd

/-- The scheduler at the boundary of `row`: closing, slips, locking, notice and commit (R180, R194). -/
def Side.takeBoundary (sd : Side) (row : Nat) : Side :=
  let sd := ((sd.closeTakes row).admitSlips row).slipUnloaded row
  let sd := { sd with takes := { sd.takes with queue := sd.takes.queue.map (fun (o : Option Take) => o.map (fun (t : Take) => t.advance row)) } }
  sd.planReleases row

/-- A unit has carried out its swap: its acknowledgement is on its way (R181). -/
def Side.ackOwed (sd : Side) (u : Nat) : Side :=
  { sd with takes := { sd.takes with ackDue := sd.takes.ackDue ||| 2 ^ u } }

/-- R181: the acknowledgement of unit `u` reaches the scheduler. -/
def Side.takeAck (sd : Side) (u : Nat) : Side :=
  if names sd.takes.ackDue u then
    let q := sd.takes.queue.map (fun (o : Option Take) => o.map (fun (t : Take) =>
      if t.state = 4 && t.row = some sd.row && names t.mask u then { t with acked := t.acked ||| 2 ^ u } else t))
    { sd with takes := { sd.takes with queue := q, ackDue := withBit sd.takes.ackDue u false } }
  else sd

end Sys2Proof.Machine
end

