-- ==== Sys2Proof/Machine/Modes.lean ====
section
/-!
DEFINITION. The time counter (R274 to R276), modes (R37, R38, R469), resets (R466 to R468), Coast (R265 to R270) and Halt (R474).
-/
namespace Sys2Proof.Machine

open Sys2Proof

/-- The word of a register, from its fields. -/
def Regs.word (m : Regs) (off : Nat) : Nat :=
  (fieldsAt off).foldl (fun w r => w + Regs.get m (r.at off) * 2 ^ r.lo) 0

/-- A choice the spec leaves open (log entry 1). -/
def State.choice (s : State) : Bool × State := (Config.freeChoice s.fresh, { s with fresh := s.fresh + 1 })

/-- A value the spec leaves open (log entry 1). -/
def State.freeWord (s : State) : BitVec 64 × State := (Config.freeWord s.fresh, { s with fresh := s.fresh + 1 })

/-- Changes the Tension island. -/
def Side.onTm (sd : Side) (f : Tension → Tension) : Side := { sd with tm := f sd.tm }

/-! ### The counter -/

/-- A second in units of the counter (1/225,792 ns). -/
def secUnits : Nat := 225792 * 10 ^ 9

/-- The row period and the media-clock period of a rate code, in units of the counter (R275, R276). -/
def rowUnits (rate : Nat) : Nat := secUnits / rateHz rate
def mediaUnits (rate : Nat) : Nat := if rate % 2 = 0 then 2500000 else 2296875

/-- The media-clock cycles in a row (Table PL-1). -/
def rowCycles (rate : Nat) : Nat := rowUnits rate / mediaUnits rate

/-- The counter wraps with its 48-bit seconds (R274). -/
def wrapCounter (t : Int) : Nat := (t % ((2 ^ 48 * secUnits : Nat) : Int)).toNat

/-- The parts of a counter value: seconds, nanoseconds, fraction (2^−16 ns, rounded down, R275). -/
def timeParts (t : Nat) : Nat × Nat × Nat := (t / secUnits, t % secUnits / 225792, t % 225792 * 65536 / 225792)

/-- The counter value at the boundary of the Side's row, and at the next one: N media-clock cycles later (R276), or where a new row rate
starts (R278; until then the interval counts from the change). -/
def Side.rowStart (sd : Side) : Nat := sd.tm.base
def Side.rowEnd (sd : Side) : Nat := sd.tm.resume.getD (sd.tm.base + rowUnits sd.rate)

/-- R307: a GPIO's level that a pulse drives ends at its time. -/
def Side.endPulses (sd : Side) (t : Nat) : Side :=
  if sd.tm.pulses = [] then sd
  else
    ((sd.tm.pulses.filter (fun p => decide (p.2 ≤ t))).foldl (fun (x : Side) p => x.setBit F.AP_GPIO_OUT p.1 false) sd).onTm
      (fun m => { m with pulses := m.pulses.filter (fun p => !decide (p.2 ≤ t)) })

/-- The counter reaches `t`, unless it has passed it: it stands at the latest instant of the row that a command has named. -/
def Side.advance (sd : Side) (t : Nat) : Side := { sd.endPulses t with counter := max sd.counter t }

/-- The media-clock edge `cycles` cycles after the boundary, within the row, or the first one that the counter has not passed. -/
def Side.edgeAt (sd : Side) (cycles : Nat) : Nat :=
  let unit := mediaUnits sd.rate
  let past := (sd.counter - sd.rowStart + unit - 1) / unit
  sd.rowStart + min (max cycles past) ((sd.rowEnd - sd.rowStart - 1) / unit) * unit

/-- An instant within the row, no earlier than the counter stands, of what no command gives an instant (log entry 127). -/
def Side.someTime (sd : Side) (what : Nat) : Nat := sd.counter + Config.someTime sd.row what % max 1 (sd.rowEnd - sd.counter)

/-! ### Modes -/

/-- R469: a change of mode. From Cast-on onward PW_MODE keeps the mode left and PW_MODE_ROW the row of the change. -/
def Side.changeMode (sd : Side) (m : Mode) : Side :=
  let sd' := { sd with mode := m }
  if (4 ≤ sd.mode.code ∧ m ≠ .dark ∧ m ≠ .reset) ∨ m = .castOn then
    (sd'.set F.PW_MODE_PREV sd.mode.code).set64 F.PW_MODE_ROW_LO F.PW_MODE_ROW_HI sd.row
  else sd'

/-- The MODE event of Side `me` (Table IB-6). -/
def Side.modeEvent (sd : Side) (me : SideId) (old : Mode) : Side :=
  sd.raise 0x0001 me.num (leBytes 1 sd.mode.code ++ leBytes 1 old.code)

/-- R469: a change of mode that raises a MODE event. -/
def Side.enterMode (sd : Side) (me : SideId) (m : Mode) : Side := (sd.changeMode m).modeEvent me sd.mode

/-- The row work under way is abandoned without publication (R268, R474), and the Shemas links go to electrical idle (R360). -/
def Side.stopRow (sd : Side) : Side :=
  let sd := (List.range 4).foldl (fun (x : Side) l => x.set (F.SH_LINK_STATE l) 0) (((sd.set F.XA_STAT_IN_ROW 0).set F.XA_STAT_REFILL 0).set F.XA_STAT_COLLAPSE 0)
  { sd with
    cores := sd.cores.map (fun (c : Core) =>
      { c with inRow := false, done := false, eorIssued := false, stallOn := [], farWait := false })
    cross := { sd.cross with inRow := false, done := false }
    pages := { sd.pages with unfinished := [] } }

/-- R279: the counter stops at its value at the moment of entry to Coast or Halt, which no command gives (log entry 127). -/
def Side.stopTime (sd : Side) (what : Nat) : Side := if sd.clocked && sd.tm.started then sd.advance (sd.someTime what) else sd

/-- Frog's wipe and the march of Swatch mode end with their modes. -/
def Side.leaveFrog (sd : Side) : Side :=
  let sd := sd.set F.MM_STAT_FROG 0
  if sd.swatch.any SwatchRun.inMode then ({ sd with swatch := none } : Side).set F.MM_STAT_SWATCH 0 |>.set F.MM_SWATCH_STAT_BUSY 0
  else sd

/-! ### Halt -/

/-- R474: entry to Halt by a cause of Table PW-5. After causes 2 and 5 messages get no reply. -/
def Side.halt (sd : Side) (cause : Nat) : Side :=
  if sd.mode = .dark ∨ sd.mode = .reset then sd
  else
    let sd := if sd.flag F.PW_HALT_VALID then sd.set F.PW_HALT_MULTI 1
      else (sd.set F.PW_HALT_CAUSE cause).set F.PW_HALT_VALID 1
    let sd := { sd with fw := { sd.fw with stopped := sd.fw.stopped || decide (cause = 2 ∨ cause = 5) } }
    if sd.mode = .halt then sd else (((sd.stopTime cause).changeMode .halt).stopRow).leaveFrog

/-! ### Resets -/

/-- The register fields that a Side reset does not set: live levels of supplies and pins, straps and the cause of the last
release (set at release), macro repairs (R457), and TAMPERED (R460). -/
def survivesReset (key : Nat) : Bool :=
  let off := key / 32
  decide (off = F.PW_SUPPLY_MAIN_OK.off ∧ key % 32 < 16) || decide (off = F.PW_RST_CAUSE_POWER.off) ||
    decide (off = F.PW_STRAP_MTEST.off) || decide (off = F.CK_STRAP_OSCW.off) || decide (off = F.AP_GPIO_IN.off) ||
    decide (off = F.MM_SEC_STAT_TAMPER_N.off ∧ key % 32 < 2) || decide (0xC1000 ≤ off ∧ off < 0xC1A24 ∧ key % 32 < 7)

/-- What a Side holds while its reset is asserted (R467): every register at its reset value but for those that a reset leaves,
and its memory, which Frog fills with zero later. -/
def Side.cleared (sd : Side) (m : Mode) : Side :=
  let kept := sd.regs.filter (fun p => survivesReset p.1)
  let put := fun (m : Regs) (p : Fld × Nat) => Regs.set m p.1 p.2
  let regs := ([(F.CK_GATE_STAT_HI_A, 3), (F.CK_GATE_STAT_HI_B, 15), (F.TM_STAT_LOST, 1), (F.TM_STAT_FREERUN, 1),
    (F.TM_FW_CUR_LO, fwNom48 % 2 ^ 32), (F.TM_FW_CUR_HI, fwNom48 / 2 ^ 32),
    (F.MM_SWATCH_STAT_RESULT, if sd.swatch.isSome then 3 else 0), (F.MM_SEC_STAT_TAMPERED,
      if sd.flag F.MM_SEC_STAT_TAMPER_N then 0 else sd.get F.MM_SEC_STAT_TAMPERED)]).foldl put kept
  { Side.reset with
    mode := m, regs := regs, mem := sd.mem, upsets := sd.upsets
    clk := { ClkUnit.reset with asserted := sd.clk.asserted, since := sd.clk.since, stage := 0 }
    fuses := sd.fuses }

/-- R466: a source of Table PW-3 (its PW_RST_CAUSE bit) is asserted. A Dark Side stays Dark (Table PW-4). -/
def Side.assertReset (sd : Side) (bit : Nat) : Side :=
  let sd := { sd with
    clk := { sd.clk with asserted := sd.clk.asserted ||| 2 ^ bit, since := sd.clk.since ||| 2 ^ bit } }
  sd.cleared (if sd.mode = .dark then .dark else .reset)

/-- R390: a reset of the Side that owns the boot flash master releases it, once a running command has completed. -/
def HostRegion.dropFlash (h : HostRegion) (code : Nat) : HostRegion :=
  if h.get F.HP_BF_OWN_OWNER = code then
    if h.flag F.HP_BF_STAT_BUSY then { h with flashDrop := true } else h.set F.HP_BF_OWN_OWNER 0
  else h

/-- HP_BF_OWN's code of a Side. -/
def flashCode (sd : SideId) : Nat := sd.num + 1

/-- The reset of Side `sd` by source `bit`. -/
def State.resetSide (s : State) (sd : SideId) (bit : Nat) : State :=
  let s := s.onSide sd (fun x => x.assertReset bit)
  { s with host := s.host.dropFlash (flashCode sd) }

/-! ### Clock conditions -/

/-- R269: the record of a cause of Table CK-8. -/
def Side.recordXloss (sd : Side) (cause : Nat) : Side :=
  let sd' := (sd.set F.CK_XMON_STAT_XLOSS 1).setBit F.CK_XLOSS_SEEN (cause - 1) true
  if sd.flag F.CK_XLOSS_VALID then sd'.set F.CK_XLOSS_MULTI 1
  else
    (((sd'.set F.CK_XLOSS_CAUSE cause).set F.CK_XLOSS_MODE sd.mode.code).set F.CK_XLOSS_VALID 1).set64 F.CK_XLOSS_ROW_LO
      F.CK_XLOSS_ROW_HI sd.row

/-- R265: the modes in which a clock condition puts the Side into Coast. -/
def Side.coastable (sd : Side) : Bool := sd.clocked || decide (sd.mode = .frog ∨ sd.mode = .swatch)

/-- R252: steps 3 to 6 of Table CK-3 start again: XIN is calibrated anew, SYSPLL and SERPLL0 are to lock, and the islands run from WOSC until
step 6 (log entry 140). -/
def Side.startAgain (sd : Side) : Side :=
  let sd := ((((sd.set F.CK_XMON_STAT_CAL_DONE 0).set F.CK_XMON_STAT_SYSPLL_LOCK 0).set F.CK_SYSPLL_LOCK 0).set F.CK_SERPLL_LOCK 0).set
    F.CK_MUX_STAT_ISLAND_SRC 0
  { sd with clk := { sd.clk with stage := 2 } }

/-- R265, R267, R268: what a Side does at once when a condition of Table CK-8 other than FREQ_CAL is detected. In Coast and
Halt it is recorded. In Reset the cause is recorded and the start-up repeats its steps (R252). -/
def Side.detect (sd : Side) (cause : Nat) : Side :=
  if sd.coastable then
    let sd := ((((sd.recordXloss cause).stopTime (16 + cause)).changeMode .coast).stopRow).leaveFrog
    let sd := ((((sd.set F.CK_XMON_STAT_SYSPLL_LOCK 0).set F.CK_XMON_STAT_COASTING 1).set F.CK_SYSPLL_LOCK 0).set
      F.CK_SYSPLL_COAST 1).set F.CK_SERPLL_HOLD 1
    sd.raise 0x0013 0 (leBytes 4 (Regs.word sd.regs F.CK_XLOSS_CAUSE.off))
  else if sd.mode = .halt ∨ sd.mode = .coast then (sd.recordXloss cause).set F.CK_SERPLL_HOLD 1
  else if sd.mode = .reset ∧ 2 ≤ sd.clk.stage then (sd.recordXloss cause).startAgain
  else sd

/-- R263: the monitor runs from the end of the start wait. -/
def Side.monitored (sd : Side) : Bool := sd.alive || decide (sd.mode = .reset ∧ 2 ≤ sd.clk.stage)

end Sys2Proof.Machine
end

