-- ==== Sys2Proof/Machine/Seam.lean ====
section
/-!
DEFINITION. The Seam: the Lead token (R218 to R221) and the heartbeat cells (R215).
-/
namespace Sys2Proof.Machine

open Sys2Proof

/-- A change of OWNER to `owner` by operation `how` (Table TW-20): EPOCH, HP_SEAM_LAST and host Collector source 4. -/
def HostRegion.setOwner (h : HostRegion) (owner how : Nat) : HostRegion :=
  let from' := h.get F.HP_SEAM_TOKEN_OWNER
  if from' = owner then h
  else
    let e := h.get F.HP_SEAM_TOKEN_EPOCH + 1
    (((((((h.set F.HP_SEAM_TOKEN_OWNER owner).set F.HP_SEAM_TOKEN_EPOCH e).set F.HP_SEAM_LAST_FROM from').set
      F.HP_SEAM_LAST_TO owner).set F.HP_SEAM_LAST_HOW how).set F.HP_SEAM_LAST_EPOCH e)).pulse 4

/-- Table TW-3: an operation requested by Side `me`, and whether it is carried out. A refused one sets REFUSED. -/
def HostRegion.seamOp (h : HostRegion) (me : Nat) (op : SeamOp) : HostRegion × Bool :=
  let owner := h.get F.HP_SEAM_TOKEN_OWNER
  let no := (h.set F.HP_SEAM_STAT_REFUSED 1, false)
  match op with
  | .grant => if owner = 3 then (h.setOwner me 0, true) else no
  | .seize =>
    if owner ≠ me then
      ((h.setOwner me 1).set (if me = 0 then F.HP_SEAM_STAT_SEIZE0 else F.HP_SEAM_STAT_SEIZE1) 1, true)
    else no
  | .transfer => if owner = me then ((h.setOwner (1 - me) 2).set F.HP_SEAM_STAT_TRANSFERRED 1, true) else no
  | .release => if owner = me then (h.setOwner 3 3, true) else no

/-- The request of Side `sd` reaches the Seam. It is answered unless the host region is in power-on reset (R218, R221). -/
def State.seamServe (s : State) (sd : SideId) : State :=
  let x := s.side sd
  match x.twin.req with
  | none => s
  | some op =>
    let s := s.setSide sd { x with twin := { x.twin with req := none } }
    if s.host.held then s
    else
      let r := s.host.seamOp sd.num op
      let s := { s with host := r.1 }
      s.onSide sd (fun y => { y with twin := { y.twin with seized := y.twin.seized || (r.2 && decide (op = .seize)) } })

/-- R219: the pending request `op` of Side `sd` reaches the Seam; with `met`, in the same REFCLK cycle as the other Side's,
which then both are carried out, Side 0's first. -/
def State.seamArrive (s : State) (sd : SideId) (op : SeamOp) (met : Bool) : State :=
  if (s.side sd).twin.req ≠ some op then s
  else if met && (s.side sd.other).twin.req.isSome && !s.host.held then
    ({ s with host := s.host.set F.HP_SEAM_STAT_SAME_CYCLE 1 } : State).seamServe .s0 |>.seamServe .s1
  else s.seamServe sd

/-- R218: CLEAR by host software: carried out when no Side's mode copy is Lead. -/
def State.seamClear (s : State) : State :=
  if s.host.held then s
  else
    let h := s.host.set F.HP_SEAM_CTRL_CLEAR 1
    if s.side0.mode = .lead ∨ s.side1.mode = .lead then { s with host := h.set F.HP_SEAM_STAT_REFUSED 1 }
    else { s with host := h.setOwner 3 4 }

/-- R215: the heartbeat cell write of Side `sd` at a row boundary. -/
def State.seamBeat (s : State) (sd : SideId) : State :=
  if s.host.held then s
  else
    let c := F.HP_SEAM_HB_COUNT sd.num
    { s with host := (s.host.set c (s.host.get c + 1)).set (F.HP_SEAM_HB_MODE sd.num) (s.side sd).mode.code }

/-! ### The commands -/

/-- SEAM_GRANT (R218). `met` says that the other Side's request reaches the Seam in the same cycle. -/
def execSeamGrant (sd : SideId) (met : Bool) (s : State) : Answer := s.answer (s.seamArrive sd .grant met)

/-- SEAM_SEIZE (R218). -/
def execSeamSeize (sd : SideId) (met : Bool) (s : State) : Answer := s.answer (s.seamArrive sd .seize met)

/-- SEAM_TRANSFER (R218). -/
def execSeamTransfer (sd : SideId) (met : Bool) (s : State) : Answer := s.answer (s.seamArrive sd .transfer met)

/-- SEAM_RELEASE (R218). -/
def execSeamRelease (sd : SideId) (met : Bool) (s : State) : Answer := s.answer (s.seamArrive sd .release met)

/-- SEAM_CLEAR (R218). -/
def execSeamClear (s : State) : Answer := s.answer s.seamClear

end Sys2Proof.Machine
end

