-- ==== Sys2Proof/Machine/Twin.lean ====
section
/-!
DEFINITION. Twin operation: heartbeats and checksums (R209 to R217), the poll (R220), roles at the row boundary (Table TW-5),
Cable and Blend cable (R229 to R237).
-/
namespace Sys2Proof.Machine

open Sys2Proof

/-! ### What the status fields show -/

/-- Rework, blending: a Rework Side whose Blend cable has begun (R233). -/
def Side.blending (sd : Side) : Bool := decide (sd.get F.TW_HAND_KIND = 2 ∧ sd.get F.TW_HAND_STATE = 2)

/-- The states of Table TW-4: 1 Lead, 2 Follow in step, 3 Follow syncing, 4 Follow unlinked, 5 Rework, 6 blending,
7 rejoining; 0 outside Twin. -/
def Side.roleCode (sd : Side) : Nat :=
  match sd.mode with
  | .lead => 1
  | .follow => if sd.flag F.TW_STAT_UNLINKED then 4 else if sd.inStep then 2 else 3
  | .rework => if sd.rejoining then 7 else if sd.blending then 6 else 5
  | _ => 0

/-- Whether the Side is in a Twin state. -/
def Side.inTwin (sd : Side) : Bool := decide (sd.mode = .lead ∨ sd.mode = .follow ∨ sd.mode = .rework)

/-- Whether the Twin Link carries traffic: both endpoints run. -/
def State.linkUp (s : State) : Bool :=
  s.side0.alive && s.side0.gateOpen 40 && s.side1.alive && s.side1.gateOpen 40

/-! ### Checksums and heartbeats -/

/-- R214: the heartbeat of row `n`. -/
def Side.makeHeartbeat (sd : Side) (n : Nat) : Heartbeat :=
  let c := sd.twin.chk ((n + 2 ^ 64 - 1) % 2 ^ 64)
  { row := n, mode := sd.mode.code, inStep := sd.inStep, token := sd.flag F.TW_STAT_TOKEN, blending := sd.blending
    valid := c.isSome, epoch := sd.get F.TW_TOKEN_EPOCH, chk := c.getD 0 }

/-- R213: whether the Side produces heartbeats. -/
def Side.beating (sd : Side) : Bool := sd.inTwin && sd.flag F.TW_CTRL_HB_EN && sd.flag F.TW_LIVE_LIVE

/-- R205, R210, R214: a heartbeat of the partner arrives at Side `sd`. -/
def State.heartbeat (s : State) (sd : SideId) (crcOk : Bool) : State :=
  let y := s.side sd.other
  match y.twin.hbOut with
  | none => s
  | some hb =>
    let up := s.linkUp
    let s := s.setSide sd.other (y.onTwin (fun t => { t with hbOut := none }))
    if !up then s
    else
      s.onSide sd (fun x =>
        if !crcOk then x.incSat F.TW_LINK_ERR
        else
          let x := (x.onTwin (fun t => { t with heard := some (hb.row, hb.mode) })).set F.TW_STAT_PARTNER_MODE hb.mode
          let x := if x.rejoining && decide (hb.mode ≠ 7) then x.rejoinFail 4 else x
          if compares x y then
            (x.onTwin (fun t =>
              { t with peers := t.peers ++ [((hb.row + 2 ^ 64 - 1) % 2 ^ 64, if hb.valid then some hb.chk else none)] })).compareDue
          else x)

/-! ### Silence -/

/-- R216, R217: whether a heartbeat of mode `m` counts as heard: for the Lead any running mode, else Lead alone. -/
def Side.hears (sd : Side) (m : Nat) : Bool := decide (m = 7) || (decide (sd.mode = .lead) && decide (6 ≤ m ∧ m ≤ 9))

/-- Table TW-4: whether the Side takes over on silence. -/
def Side.takesOver (sd : Side) : Bool :=
  (decide (sd.mode = .follow) && sd.flag F.TW_CTRL_TAKE_EN &&
    (sd.flag F.TW_CTRL_TAKE_DIVERGED || (if sd.flag F.TW_STAT_UNLINKED then sd.twin.wasInStep else sd.inStep))) ||
  (decide (sd.mode = .rework) && sd.blending)

/-- A loss that is reported once in each silence: its bit, its sticky flag and its event. -/
def Side.reportLoss (sd : Side) (bit : Nat) (f : Fld) (event : Nat) : Side :=
  if sd.twin.lost.testBit bit then sd
  else ((sd.set f 1).raise event 0 []).onTwin (fun t => { t with lost := t.lost ||| 2 ^ bit })

/-- R217, R223: both paths are silent for the timeout. -/
def Side.bothSilent (sd : Side) : Side :=
  if sd.mode = .lead then sd.reportLoss 2 F.TW_STAT_PARTNER_LOST 0x0009
  else if sd.takesOver && !sd.twin.seized && sd.twin.req.isNone then sd.onTwin (fun t => { t with req := some .seize })
  else sd

/-- R216: the judgement of the link path in the Side's row. -/
def Side.judgeLink (sd : Side) : Side :=
  if sd.inTwin then
    let ok := sd.twin.heard.any (fun h => decide (h.1 = sd.row) && sd.hears h.2)
    let sd :=
      if ok then
        (sd.set F.TW_SILENT_LINK 0).onTwin (fun t =>
          { t with heardRun := t.heardRun + 1, lost := withBit (withBit t.lost 0 false) 2 false })
      else (sd.incSat F.TW_SILENT_LINK).onTwin (fun t => { t with heardRun := 0 })
    let sd := if !sd.linkHeard then sd.rejoinFail 3 else sd
    if !sd.linkHeard && !sd.seamHeard then sd.bothSilent else sd
  else sd

/-- R217: what the silent-row counts lead to, once both paths of a row are judged. -/
def Side.judgePaths (sd : Side) : Side :=
  if !sd.linkHeard && !sd.seamHeard then sd.bothSilent
  else if !sd.linkHeard then sd.reportLoss 0 F.TW_STAT_LINK_LOST 0x000A
  else if !sd.seamHeard then sd.reportLoss 1 F.TW_STAT_SEAM_LOST 0x000B
  else sd

/-- R216, R221: the read of the partner's Seam cell half a row after the boundary. -/
def State.seamRead (s : State) (sd : SideId) (answered : Bool) : State :=
  let x := s.side sd
  if x.inTwin then
    let count := s.host.get (F.HP_SEAM_HB_COUNT sd.other.num)
    let mode := s.host.get (F.HP_SEAM_HB_MODE sd.other.num)
    let ans := answered && !s.host.held
    let ok := ans && decide (count ≠ x.twin.seamCount) && x.hears mode
    let x := if ans then x.onTwin (fun t => { t with seamCount := count }) else x
    let x :=
      if ok then
        (x.set F.TW_SILENT_SEAM 0).onTwin (fun t => { t with lost := withBit (withBit t.lost 1 false) 2 false })
      else x.incSat F.TW_SILENT_SEAM
    s.setSide sd x.judgePaths
  else s

/-- R220, R221: the Lead's poll of OWNER. -/
def State.tokenPoll (s : State) (sd : SideId) (answered : Bool) : State :=
  let x := s.side sd
  if x.mode ≠ .lead then s
  else if answered && !s.host.held then
    let owner := s.host.get F.HP_SEAM_TOKEN_OWNER
    let x := ((x.set F.TW_TOKEN_OWNER owner).set F.TW_TOKEN_EPOCH (s.host.get F.HP_SEAM_TOKEN_EPOCH)).set F.TW_STAT_TOKEN
      (decide (owner = sd.num)).toNat
    s.setSide sd (x.onTwin (fun t =>
      if owner = 3 then { t with req := some .grant } else { t with deposed := t.deposed || decide (owner ≠ sd.num) }))
  else if s.host.held then s
  else s.setSide sd (x.onTwin (fun t => { t with deposed := true }))

/-- R213: a refresh of liveness, and its expiry. -/
def Side.refreshLive (sd : Side) : Side := (sd.set F.TW_LIVE_LIVE 1).set F.TW_LIVE_REFRESH 1
def Side.liveExpiry (sd : Side) : Side := sd.set F.TW_LIVE_LIVE 0

/-! ### Roles at the boundary -/

/-- A 64-bit row of TW_HAND. -/
def Side.handRow (sd : Side) : Nat := sd.get64 F.TW_HAND_LO F.TW_HAND_HI

/-- RUN of every Stitch core and of the Cross array becomes 0 (R473). -/
def Side.stopUnits (sd : Side) : Side :=
  ((List.range 32).foldl (fun (x : Side) k => x.set (F.SK_CTRL_RUN k) 0) sd).writeCrossRun false

/-- RUN of the loaded Pattern's cores, of the Cross array and of the Patchbay becomes 1, with the first row that is processed (log
entry 48). -/
def Side.startUnits (sd : Side) : Side :=
  (((List.finRange 32).foldl (fun (x : Side) k => if x.coreMask.testBit k.val then x.writeRun k true else x) sd).writeCrossRun
    true).set F.PB_CTRL_RUN 1

/-- The Twin Link endpoint's gate with the arrangement: closed in Split, open in Twin (log entry 25). -/
def Side.arrange (sd : Side) (arr : Nat) : Side :=
  let sd := sd.set F.PW_MODE_ARR arr
  let v := decide (arr ≠ 2)
  (sd.setGateBit F.CK_GATE_REQ_LO F.CK_GATE_REQ_HI_A F.CK_GATE_REQ_HI_B 40 v).setGateBit F.CK_GATE_STAT_LO
    F.CK_GATE_STAT_HI_A F.CK_GATE_STAT_HI_B 40 v

/-- Asks the Seam for an operation. -/
def Side.ask (sd : Side) (op : SeamOp) : Side := sd.onTwin (fun t => { t with req := some op })

/-- A Follow from the boundary: unlinked, or syncing with TW_MATCH 0. -/
def Side.becomeFollow (sd : Side) (me : SideId) (unlinked : Bool) : Side :=
  let was := sd.inStep
  let sd := (sd.enterMode me .follow).set F.TW_STAT_UNLINKED unlinked.toNat
  if unlinked then sd.onTwin (fun t => { t with wasInStep := was, heardRun := 0 }) else sd.set F.TW_MATCH 0

/-- A Side in Rework from the boundary: not rejoining, whatever an earlier Rejoin that its mode cut short has left in TW_MIR (log entry 137). -/
def Side.becomeRework (sd : Side) (me : SideId) : Side :=
  let sd := sd.enterMode me .rework
  if sd.rejoining then sd.set F.TW_MIR_STATE 0 else sd

/-- A Cable or Blend cable that has not ended. -/
def Side.handPending (sd : Side) : Bool := decide (sd.get F.TW_HAND_KIND ≠ 0 ∧ (sd.get F.TW_HAND_STATE = 1 ∨ sd.get F.TW_HAND_STATE = 2))

/-- R229, R233: a Cable or Blend cable is pending, be it one that TW_HAND cannot show yet (log entry 136). -/
def Side.handBusy (sd : Side) : Bool := sd.handPending || sd.twin.plans.any (fun p => p.2 = .cable)

/-- TW_HAND with a pending plan. -/
def Side.setHand (sd : Side) (c len kind : Nat) : Side :=
  (((sd.set64 F.TW_HAND_LO F.TW_HAND_HI c).set F.TW_HAND_LEN len).set F.TW_HAND_KIND kind).set F.TW_HAND_STATE 1

/-- R229: CABLE_FAIL of a Cable of row `c`. -/
def Side.cableFail (sd : Side) (c : Nat) : Side := (sd.set F.TW_STAT_CABLE_FAIL 1).raise 0x000E 0 (leBytes 8 c)

/-- R229: at the boundary of row C − 1, a Cable that was named while another handover was pending. -/
def Side.cableDue (sd : Side) (c : Nat) : Side := if sd.handBusy then sd.cableFail c else sd.setHand c 0 1

/-- The mode code that a Side had before the boundary of row `n`. -/
def Side.codeBefore (sd : Side) (n : Nat) : Nat :=
  if sd.get64 F.PW_MODE_ROW_LO F.PW_MODE_ROW_HI = n then sd.get F.PW_MODE_PREV else sd.mode.code

/-- Table TW-5: whether JOIN may take a Side in mode `m` along, its partner being in the mode of code `partner`: Solo with a partner in
Ready, Ready with one in Solo. -/
def joinFits (m : Mode) (partner : Nat) : Bool :=
  (decide (m = .solo) && decide (partner = Mode.ready.code)) || (decide (m = .ready) && decide (partner = Mode.solo.code))

/-- R238, R222: Rework, rejoining, from its first pass. -/
def Side.startRejoin (sd : Side) : Side :=
  (((sd.set F.TW_MIR_STATE 1).set F.TW_MIR_PASS 0).set F.TW_MIR_FAIL_CAUSE 0).onTwin (fun t =>
    { t with captured := [], capRow := none, sent := [], differ := [], passEnd := false, finalRow := none, failDue := none })

/-- Tables PW-4 and TW-5: a change that a message named this boundary for; the partner's mode before the boundary had the code `partner`. -/
def Side.applyPlan (sd : Side) (me : SideId) (partner row : Nat) (p : RoleChange) : Side :=
  match p with
  | .rejoin => if sd.mode = .rework ∧ !sd.rejoining then sd.startRejoin else sd
  | .cable => sd.cableDue (row + 1)
  | .run => if sd.mode = .ready then ((sd.arrange 1).enterMode me .solo).startUnits else sd
  | .startLead => if sd.mode = .ready then ((((sd.arrange 2).enterMode me .lead).set F.TW_CTRL_HB_EN 1).startUnits).ask .grant else sd
  | .startFollow =>
    if sd.mode = .ready then
      ((((sd.arrange 2).becomeFollow me false).set F.TW_CTRL_HB_EN 1).set F.TW_CTRL_TAKE_EN 1).startUnits
    else sd
  | .rework => if sd.mode = .follow then ((sd.becomeRework me).set F.TW_STAT_UNLINKED 0).set F.TW_CTRL_TAKE_EN 0 else sd
  | .split =>
    if sd.mode = .lead then
      if partner = Mode.lead.code then sd else (((sd.arrange 1).enterMode me .solo).set F.TW_CTRL_HB_EN 0).ask .release
    else if sd.mode = .follow ∨ sd.mode = .rework then
      ((((sd.arrange 1).enterMode me .ready).set F.TW_CTRL_HB_EN 0).set F.TW_STAT_UNLINKED 0).stopUnits
    else sd
  | .join =>
    if !joinFits sd.mode partner then sd
    else if sd.mode = .solo then ((sd.arrange 2).enterMode me .lead).ask .grant
    else ((sd.arrange 2).becomeRework me).set F.TW_CTRL_HB_EN 1
  | .bindOff =>
    if sd.producing then
      let lead := decide (sd.mode = .lead)
      let sd := ((sd.enterMode me .ready).stopUnits).set F.TW_STAT_UNLINKED 0
      if lead then sd.ask .release else sd
    else sd

/-- The changes planned for row `n`. -/
def Side.applyPlans (sd : Side) (me : SideId) (partner n : Nat) : Side :=
  let now := sd.twin.plans.filter (fun p => p.1 ≤ n)
  let sd := sd.onTwin (fun t => { t with plans := t.plans.filter (fun p => !decide (p.1 ≤ n)) })
  now.foldl (fun x p => x.applyPlan me partner p.1 p.2) sd

/-- R473: PB_CTRL.RUN is written 0 in the row before a Bind-off. -/
def Side.bindOffAhead (sd : Side) (n : Nat) : Side :=
  if sd.twin.plans.any (fun p => p.1 = n + 1 && p.2 = .bindOff) then sd.set F.PB_CTRL_RUN 0 else sd

/-- R223: the boundary after a SEIZE that was carried out. A blending Side abandons its Blend cable (R237). -/
def Side.takeover (sd : Side) (me : SideId) (n epoch : Nat) : Side :=
  if sd.twin.seized then
    let sd := sd.onTwin (fun t => { t with seized := false })
    if sd.mode = .follow ∨ sd.mode = .rework then
      let sd := if sd.mode = .rework ∧ sd.blending then
          ((sd.set F.TW_HAND_STATE 5).set F.TW_STAT_BLEND_ABORT 1).raise 0x000F 0 (leBytes 8 n ++ leBytes 4 sd.twin.blendWf)
        else sd
      let sd := ((sd.enterMode me .lead).set F.TW_STAT_UNLINKED 0).set F.TW_STAT_TAKEOVER 1
      sd.raise 0x000C 0 (leBytes 2 epoch)
    else sd
  else sd

/-- R220: the boundary after a poll that deposes the Lead. -/
def Side.depose (sd : Side) (me : SideId) : Side :=
  if sd.twin.deposed then
    let sd := sd.onTwin (fun t => { t with deposed := false })
    if sd.mode = .lead then
      ((sd.becomeFollow me (!sd.linkHeard)).set F.TW_STAT_DEPOSED 1).raise 0x000D 0 (leBytes 2 (sd.get F.TW_TOKEN_EPOCH))
    else sd
  else sd

/-- R229: the conditions of a Cable: the Follow is in step, both paths are heard on both Sides, and no other handover is pending. -/
def State.cableFit (s : State) : Bool :=
  let ok := fun (x : Side) => x.linkHeard && x.seamHeard && !x.twin.plans.any (fun p => p.2 = .cable)
  ok s.side0 && ok s.side1 &&
    ((decide (s.side0.mode = .follow) && s.side0.inStep && decide (s.side1.mode = .lead)) ||
      (decide (s.side1.mode = .follow) && s.side1.inStep && decide (s.side0.mode = .lead)))

/-- R229: how the boundary of row `n` judges a Cable: one judgement holds for both Sides, so that neither changes state alone. -/
def State.cableJudged (s : State) (sd : SideId) (n : Nat) : Bool :=
  match (s.side sd.other).twin.judged with
  | some j => if j.1 = n then j.2 else s.cableFit
  | none => s.cableFit

/-- R229: the check at the boundary of row C − 1. -/
def Side.cableCheck (sd : Side) (fit : Bool) (n : Nat) : Side :=
  if sd.get F.TW_HAND_KIND = 1 ∧ sd.get F.TW_HAND_STATE = 1 ∧ sd.handRow = n + 1 then
    let sd := sd.onTwin (fun t => { t with judged := some (n, fit) })
    if fit then sd else (sd.set F.TW_HAND_STATE 4).cableFail sd.handRow
  else sd

/-- The end of a handover at its row C: HANDOVER_DONE. `was` is the Side's mode in the rows before C, by which it sends the packets stamped
there (R230). -/
def Side.handoverDone (sd : Side) (was : Mode) : Side :=
  let kind := sd.get F.TW_HAND_KIND
  ((sd.set F.TW_HAND_STATE 3).raise 0x0012 0 (leBytes 1 kind ++ List.replicate 7 0 ++ leBytes 8 sd.handRow)).onTwin (fun t =>
    { t with cable := some (sd.handRow, was) })

/-- R229, R230, R236: the boundary of the cable row C, and of the rows at which a Blend cable starts. `was` is the mode in which the Side
came to the boundary: the two Sides exchange the roles that they held in row C − 1. A Lead that this boundary has deposed stays a Follow. A
Blend cable whose Side holds neither of its roles at row C is aborted (log entry 134). -/
def Side.handover (sd : Side) (me : SideId) (was : Mode) (n : Nat) : Side :=
  let kind := sd.get F.TW_HAND_KIND
  let state := sd.get F.TW_HAND_STATE
  if kind = 1 ∧ state = 1 ∧ sd.handRow = n then
    if was = .lead ∧ sd.mode = .lead then (((sd.enterMode me .follow).set F.TW_STAT_UNLINKED 0).ask .transfer).handoverDone was
    else if was = .follow ∧ sd.mode = .follow then ((sd.enterMode me .lead).set F.TW_STAT_UNLINKED 0).handoverDone was
    else if was = .lead ∨ was = .follow then sd.handoverDone was
    else sd
  else if kind = 2 ∧ state = 1 ∧ sd.handRow = n + sd.get F.TW_HAND_LEN then sd.set F.TW_HAND_STATE 2
  else if kind = 2 ∧ state = 2 ∧ sd.handRow = n then
    if was = .lead ∧ sd.mode = .lead then ((sd.becomeRework me).ask .transfer).handoverDone was
    else if was = .rework ∧ sd.mode = .rework then (sd.enterMode me .lead).handoverDone was
    else sd.set F.TW_HAND_STATE 5
  else sd

/-- Table TW-5: a Follow that loses or regains the link. -/
def Side.linkState (sd : Side) : Side :=
  if sd.mode ≠ .follow then sd
  else if sd.flag F.TW_STAT_UNLINKED then
    if 16 ≤ sd.twin.heardRun then (sd.set F.TW_STAT_UNLINKED 0).set F.TW_MATCH 0 else sd
  else if !sd.linkHeard && sd.seamHeard then
    (sd.set F.TW_STAT_UNLINKED 1).onTwin (fun t => { t with wasInStep := sd.inStep, heardRun := 0 })
  else sd

/-- R244: Rejoin is complete at the boundary after TW_MATCH reached 1,024. -/
def Side.rejoinDone (sd : Side) (me : SideId) (n : Nat) : Side :=
  if sd.checking && sd.inStep then
    (((((sd.set F.TW_MIR_STATE 6).enterMode me .follow).set F.TW_STAT_UNLINKED 0).set F.TW_CTRL_TAKE_EN 1)).raise 0x0011 0
      (leBytes 8 n)
  else sd

/-! ### Blend -/

/-- R235: one sample of the blend. -/
def blendSample (wF : Nat) (l f : BitVec 24) : BitVec 24 :=
  BitVec.ofInt 24 (roundHalfEven (((2 ^ 23 - wF : Nat) : Int) * l.toInt + wF * f.toInt) 23)

/-- The blend of two sets of channels. -/
def blendMap (wF : Nat) (l f : Sparse (BitVec 24)) : Sparse (BitVec 24) :=
  (l ++ f).foldl (fun m p =>
    Sparse.set (fun _ => 0#24) m p.1
      (blendSample wF (Sparse.get (fun _ => 0#24) l p.1) (Sparse.get (fun _ => 0#24) f p.1))) []

/-- The Emit row of a number. -/
def Pages.emitRow (p : Pages) (row : Nat) : Option EmitRow := p.emitted.find? (fun e => e.row = row)

/-- R234: the row of the stream that a Side sends for its Emit row `m`: in Rework with the Blend cable of row `c` pending or begun. -/
def Side.streamRow (sd : Side) (c m : Nat) : Option EmitRow :=
  if sd.mode = .rework ∧ sd.get F.TW_HAND_KIND = 2 ∧ (sd.get F.TW_HAND_STATE = 1 ∨ sd.get F.TW_HAND_STATE = 2) ∧ sd.handRow = c then
    sd.pages.emitRow m
  else none

/-- R234: whether the Lead's transmit units wait for a stream row (R28): they carry a blended row, which has not come. -/
def Side.awaitsRow (sd : Side) : Bool :=
  decide (sd.mode = .lead) && sd.blending && decide (sd.row < sd.handRow ∧ sd.twin.blended ≠ some ((sd.row + 2 ^ 64 - 1) % 2 ^ 64))

/-- R234, R235: the stream row of the Rework Side `y` reaches the Lead, which blends it with its own lane words of the same Emit row: with
those that it carried last where its own Emit did not finish (R49). The blended row takes the place of the Lead's. -/
def Side.blendRow (sd y : Side) : Side :=
  let m := (sd.row + 2 ^ 64 - 1) % 2 ^ 64
  if sd.awaitsRow then
    match y.streamRow sd.handRow m with
    | some f =>
      let l := ((sd.pages.emitRow m).orElse (fun _ => sd.pages.emitted.head?)).getD (EmitRow.zero m)
      let n := sd.get F.TW_HAND_LEN
      let i := sd.row + n - sd.handRow
      let wF := (i + 1) * 2 ^ 23 / n
      let out : EmitRow := { row := m, tdm := blendMap wF l.tdm f.tdm, flow := blendMap wF l.flow f.flow, skein := blendMap wF l.skein f.skein }
      { sd with
        pages := { sd.pages with emitted := out :: sd.pages.emitted.filter (fun e => e.row ≠ m) }
        twin := { sd.twin with blendWf := wF, blended := some m } }
    | none => sd
  else sd

/-- R237: a stream row that does not come: the Lead sends its own samples and abandons the Blend cable. -/
def Side.blendMissing (sd : Side) : Side :=
  if sd.awaitsRow then
    ((sd.set F.TW_HAND_STATE 5).set F.TW_STAT_BLEND_ABORT 1).raise 0x000F 0 (leBytes 8 sd.row ++ leBytes 4 sd.twin.blendWf)
  else sd

/-! ### The commands -/

/-- HEARTBEAT_RECEIVE (R210). `crcOk` says that the heartbeat's CRC is good. -/
def execHeartbeatReceive (sd : SideId) (crcOk : Bool) (s : State) : Answer := s.answer (s.heartbeat sd crcOk)

/-- LINK_PATH_JUDGEMENT (R216). -/
def execLinkPathJudgement (sd : SideId) (s : State) : Answer := s.go sd Side.judgeLink

/-- SEAM_PATH_READ (R216). `answered` says that the Seam's answer comes in time. -/
def execSeamPathRead (sd : SideId) (answered : Bool) (s : State) : Answer := s.answer (s.seamRead sd answered)

/-- LEAD_TOKEN_POLL (R220). -/
def execLeadTokenPoll (sd : SideId) (answered : Bool) (s : State) : Answer := s.answer (s.tokenPoll sd answered)

/-- TWIN_LIVE_REFRESH (R213). -/
def execTwinLiveRefresh (sd : SideId) (w : Writer) (s : State) : Answer :=
  s.go sd (fun x => if s.mayWrite sd w then x.refreshLive else x)

/-- TWIN_REFRESH_EXPIRY (R213). -/
def execTwinRefreshExpiry (sd : SideId) (s : State) : Answer := s.go sd Side.liveExpiry

/-- FLOATED_TAKE_ROW_RECEIVE (R187): the oldest row that the partner has sent reaches Side `sd`. -/
def execFloatedTakeRowReceive (sd : SideId) (s : State) : Answer :=
  let y := s.side sd.other
  match y.takes.rowsSent with
  | [] => .next s
  | e :: rest =>
    let t := s.setSide sd.other { y with takes := { y.takes with rowsSent := rest } }
    if s.linkUp && decide ((s.side sd).mode = .follow) then t.go sd (fun x => x.floatRow e.1 e.2) else .next t

end Sys2Proof.Machine
end

