-- ==== Sys2Proof/Machine/Time.lean ====
section
/-!
DEFINITION. The Tension loop and time: synthesis (R272, R273), the counter (R274 to R280), candidates and selection (R281 to
R289), the loop (R290 to R298), steps and alignment (R299 to R304) and captures (R310, R311).
-/
namespace Sys2Proof.Machine

open Sys2Proof

/-- A quotient rounded half to even. -/
def roundQuot (x : Int) (d : Nat) : Int :=
  let q := x / (d : Int)
  let r := x - q * d
  if 2 * r > d then q + 1
  else if 2 * r = d && q % 2 = 1 then q + 1
  else q

/-! ### Words -/

/-- FW_NOM of a rate's family (Table TM-1). -/
def fwNom (rate : Nat) : Nat := if rate % 2 = 0 then 21184932647151 else fwNom48

/-- R273: W before the clamp, and the largest distance of W from FW_NOM. -/
def Side.rawWord (sd : Side) : Int :=
  (if sd.flag F.TM_CTRL_OPEN then (sd.tm.word : Int) else sd.tm.v) + roundQuot ((fwNom sd.rate : Int) * sd.tm.ppt) (10 ^ 12)
def fwSpan (rate : Nat) : Int := ((fwNom rate * 250 / 10 ^ 6 : Nat) : Int)

/-- R273: W, shown in TM_FW_CUR, and FW_CLAMP: W stands at a limit, which V and PPT ask for or exceed. -/
def Side.refreshWord (sd : Side) : Side :=
  let nom : Int := fwNom sd.rate
  let w := max (nom - fwSpan sd.rate) (min (nom + fwSpan sd.rate) sd.rawWord)
  let clamped := decide (sd.rawWord ≤ nom - fwSpan sd.rate ∨ nom + fwSpan sd.rate ≤ sd.rawWord)
  let sd' := (sd.set64 F.TM_FW_CUR_LO F.TM_FW_CUR_HI w.toNat).set F.TM_STAT_FW_CLAMP clamped.toNat
  if clamped && !sd.flag F.TM_STAT_FW_CLAMP then sd'.set F.TM_STICKY_FW_CLAMP_S 1 else sd'

/-! ### Status -/

/-- R298: the sticky copies of TM_STAT's live bits are sources of the Dorden Collector, active while they are set. -/
def Side.showSticky (sd : Side) (f : Fld) : Side :=
  let k := Config.stickySource f.lo
  let on := sd.flag f
  if (sd.col.src false k).raw = on then sd else { sd with col := sd.col.input false k on.toNat (!on).toNat on }

/-- R298: a live bit of TM_STAT; a change sets its sticky copy, whose rise is reported as CLOCK_REF. -/
def Side.setLive (sd : Side) (live sticky : Fld) (v : Bool) : Side :=
  if sd.flag live = v then sd
  else
    let x := ((sd.set live v.toNat).set sticky 1).showSticky sticky
    if sd.flag sticky then x
    else x.raise 0x0014 0 (leBytes 4 (Regs.word x.regs F.TM_STAT_LOCK.off) ++ leBytes 4 (Regs.word x.regs F.TM_STICKY_LOCK_S.off))

/-- LOCK, LOST, SWITCHED, FREERUN and REF_SPLIT. -/
def Side.setLock (sd : Side) (v : Bool) : Side := sd.setLive F.TM_STAT_LOCK F.TM_STICKY_LOCK_S v
def Side.setLost (sd : Side) (v : Bool) : Side := sd.setLive F.TM_STAT_LOST F.TM_STICKY_LOST_S v
def Side.setSwitched (sd : Side) (v : Bool) : Side := sd.setLive F.TM_STAT_SWITCHED F.TM_STICKY_SWITCHED_S v
def Side.setFreerun (sd : Side) (v : Bool) : Side := sd.setLive F.TM_STAT_FREERUN F.TM_STICKY_FREERUN_S v
def Side.setSplit (sd : Side) (v : Bool) : Side := sd.setLive F.TM_STAT_REF_SPLIT F.TM_STICKY_REF_SPLIT_S v

/-! ### Captures -/

/-- The words of a capture entry (Table TM-7). -/
def Capture.words (c : Capture) : List Nat :=
  let t := timeParts c.time
  [c.kind + 256 * c.index + 65536 * c.data, c.num, t.2.1, t.1 % 2 ^ 32, t.1 / 2 ^ 32 % 2 ^ 16 + 65536 * t.2.2, c.row % 2 ^ 32,
    c.row / 2 ^ 32 % 2 ^ 32, 0]

/-- TM_CAP_STAT.COUNT and TM_CAP_HEAD show the FIFO. -/
def Side.showCaptures (sd : Side) : Side :=
  let head := (sd.tm.captures.head?.map Capture.words).getD []
  (List.range 8).foldl (fun (x : Side) i => x.set (F.TM_CAP_HEAD i) (head.getD i 0))
    (sd.set F.TM_CAP_STAT_COUNT sd.tm.captures.length)

/-- R310, R311: a capture; none is made in Coast and Halt (R279). -/
def Side.capture (sd : Side) (c : Capture) : Side :=
  if !sd.clocked then sd
  else if 64 ≤ sd.tm.captures.length then (sd.incSat F.TM_CAP_STAT_LOST).set F.TM_STICKY_CAP_LOST 1
  else (sd.onTm (fun t => { t with captures := t.captures ++ [c] })).showCaptures

/-- R311: TM_CAP_POP discards the head entry; firmware forwards it as a CAPTURE event. -/
def Side.popCapture (sd : Side) (w : Writer) : Side :=
  match sd.tm.captures with
  | [] => sd
  | c :: rest =>
    let sd := (sd.onTm (fun t => { t with captures := rest })).showCaptures
    if w = .firmware then sd.raise 0x0015 0 (c.words.flatMap (leBytes 4)) else sd

/-! ### Candidates -/

/-- Whether a candidate gives absolute time (Table TM-2). -/
def timeKind (c : Nat) : Bool := decide (c = 0 ∨ c = 1 ∨ c = 4 ∨ c = 5 ∨ c = 7)

/-- FREQ as a signed number. -/
def Side.candFreq (sd : Side) (c : Nat) : Int := toSigned 32 (sd.get (F.TM_CAND_FREQ c))

/-- R281, R334: WR is a row rate of the Side's family. -/
def Side.wordClockFits (sd : Side) : Bool :=
  decide (sd.get F.AP_WCLK_WR < 6 ∧ sd.get F.AP_WCLK_WR % 2 = sd.rate % 2)

/-- R282, R278: the conditions of qualification at this instant. `peer` is the partner's row rate. -/
def Side.candFit (sd : Side) (peer c : Nat) : Bool :=
  sd.flag (F.TM_CAND_EN c) && decide (sd.get (F.TM_CAND_CLASS c) ≠ 0xFF) && sd.flag (F.TM_CAND_PRESENT c) &&
    decide ((sd.candFreq c).natAbs ≤ 250000000) &&
    (decide (c ≠ 5) || (decide (sd.mode = .follow ∨ sd.mode = .rework) && decide (peer = sd.rate))) &&
    (decide (c ≠ 2) || sd.wordClockFits)

/-- Whether a candidate is qualified. -/
def Side.qualified (sd : Side) (c : Nat) : Bool := sd.flag (F.TM_CAND_QUAL c)

/-- R284: CLASS and PRIORITY of a candidate as one number. -/
def Side.candRank (sd : Side) (c : Nat) : Nat := sd.get (F.TM_CAND_CLASS c) * 65536 + sd.get (F.TM_CAND_PRIORITY c)

/-- R284: the best candidate. -/
def Side.bestCand (sd : Side) : Option Nat :=
  (List.range 8).foldl (fun (b : Option Nat) c =>
    if !sd.qualified c then b
    else
      match b with
      | some d => if sd.candRank c < sd.candRank d then some c else b
      | none => some c) none

/-- R286: whether the FREQ values of two candidates at the best rank differ by more than TM_SPLIT ppb. -/
def Side.splitNow (sd : Side) : Bool :=
  match sd.bestCand with
  | none => false
  | some b =>
    let top := (List.range 8).filter (fun c => sd.qualified c && decide (sd.candRank c = sd.candRank b))
    top.any (fun c => top.any (fun d => decide (sd.get F.TM_SPLIT_SPLIT * 1000 < (sd.candFreq c - sd.candFreq d).natAbs)))

/-- Whether a candidate is selected (not in free run). -/
def Side.selects (sd : Side) (c : Nat) : Bool := !sd.flag F.TM_STAT_FREERUN && decide (sd.get F.TM_STAT_SEL = c)

/-- R287, R289: a switch to candidate `c`. A selection from free run begins a lock episode while the loop is closed. -/
def Side.switchTo (sd : Side) (c : Nat) : Side :=
  let free := sd.flag F.TM_STAT_FREERUN
  let old := sd.get F.TM_STAT_SEL
  let open' := sd.flag F.TM_CTRL_OPEN
  let sd := ((((sd.set F.TM_STAT_PREV old).set F.TM_STAT_SEL c).set F.TM_STAT_HOLDOFF 0).setLock false).setLost false
  let sd := (sd.setFreerun false).setSwitched true
  let sd := if free && !open' then sd.set F.TM_STAT_STEP_USED 0 else sd
  let sd := sd.onTm (fun t =>
    { t with acc := 0, accN := 0, lockRun := 0, missRun := 0, alignRun := 0, episode := t.episode || (free && !open') })
  let sd := sd.set F.TW_STAT_ALIGNED 0
  if sd.flag F.TM_CAP_CTRL_SWITCHES then
    sd.capture { kind := 4, index := old, data := c, num := 0, time := sd.someTime (c + 8 * sd.get (F.TM_CAND_UPDATES c)), row := sd.row }
  else sd

/-- R294: free run. -/
def Side.freeRun (sd : Side) : Side :=
  let sd := (((sd.setLock false).setLost true).setFreerun true).setSwitched false
  let sd := ((sd.set F.TM_STAT_HOLDOFF 0).set F.TM_STAT_STEP_USED 0).set F.TW_STAT_ALIGNED 0
  (sd.onTm (fun t =>
    { t with
      v := fwNom sd.rate, est := fwNom sd.rate, acc := 0, accN := 0, lockRun := 0, missRun := 0, alignRun := 0
      episode := false })).refreshWord

/-- R282, R285, R294: candidate `c` loses qualification. -/
def Side.loseQual (sd : Side) (c : Nat) : Side :=
  if sd.qualified c then
    let sel := sd.selects c
    let sd := sd.set (F.TM_CAND_QUAL c) 0
    let sd := if sel then sd.set F.TW_STAT_ALIGNED 0 else sd
    let sd := sd.setSplit sd.splitNow
    if sd.bestCand.isNone then (if sd.flag F.TM_STAT_FREERUN then sd else sd.freeRun)
    else if sel then (sd.setLost true).setLock false
    else sd
  else sd

/-- R282, R286: candidates whose conditions fail lose qualification, and REF_SPLIT follows the ranks and FREQ values. -/
def Side.checkQuals (sd : Side) (peer : Nat) : Side :=
  let sd := (List.range 8).foldl (fun (x : Side) c => if x.qualified c && !x.candFit peer c then x.loseQual c else x) sd
  sd.setSplit sd.splitNow

/-- R282: the conditions of candidate `c` have held for QUAL ms. Free run ends with the first (R294). -/
def Side.qualify (sd : Side) (peer c : Nat) : Side :=
  if sd.clocked && sd.candFit peer c then
    let sd := sd.set (F.TM_CAND_QUAL c) 1
    let sd := sd.setSplit sd.splitNow
    if sd.flag F.TM_STAT_FREERUN then sd.switchTo c else sd
  else sd

/-- R282: the gap since the last measurement of candidate `c` exceeds LOSS. -/
def Side.candLoss (sd : Side) (c : Nat) : Side := if sd.clocked then (sd.set (F.TM_CAND_PRESENT c) 0).loseQual c else sd

/-- R285: the selected candidate is lost: at an update of any qualified candidate the selector switches to the best. -/
def Side.replaceLost (sd : Side) (c : Nat) : Side :=
  match sd.bestCand with
  | some b => if (sd.flag F.TM_STAT_FREERUN || sd.flag F.TM_STAT_LOST) && sd.qualified c then sd.switchTo b else sd
  | none => sd

/-- R285, R286, R288: at an update of the selected candidate `c` the selector switches to a better one, while no settle interval and no
hold-off runs. -/
def Side.takeBetter (sd : Side) (c : Nat) : Side :=
  match sd.bestCand with
  | some b =>
    if sd.selects c ∧ b ≠ c ∧ !sd.flag F.TM_STAT_SWITCHED ∧ !sd.flag F.TM_STAT_HOLDOFF ∧
        !(sd.flag F.TM_STAT_REF_SPLIT && decide (sd.candRank b = sd.candRank c)) then
      sd.switchTo b
    else sd
  | none => sd

/-! ### Steps -/

/-- Rows in a time given in units of 2^−16 ns, rounded half to even (R299). -/
def rowsIn (e : Int) (rate : Nat) : Int := roundQuot (e * rateHz rate) (65536 * 10 ^ 9)

/-- The last measurement of the selected candidate. -/
def Side.selE (sd : Side) : Int :=
  toSigned 64 (sd.get64 (F.TM_CAND_E_LO (sd.get F.TM_STAT_SEL)) (F.TM_CAND_E_HI (sd.get F.TM_STAT_SEL)))

/-- R301, R303: an accepted step of D rows, or of the reference at its boundary where `d` is none. The Lead forms D now and
sends it. -/
def Side.planStep (sd : Side) (d : Option Int) : Side :=
  let b := sd.row + 4
  let used := sd.tm.episode
  let sd := if used then sd.set F.TM_STAT_STEP_USED 1 else sd
  let sd := sd.set F.TM_STEP_STAT_RESULT 1
  if sd.mode = .lead then
    let n := d.getD (rowsIn sd.selE sd.rate)
    sd.onTm (fun t => { t with step := some { row := b, d := some n }, stepOut := some (b, n) })
  else sd.onTm (fun t => { t with step := some { row := b, d := d } })

/-- R301: why an explicit step is refused (Table TM-3, in code order); 1 if it is accepted. -/
def Side.stepVerdict (sd : Side) (fromRef : Bool) : Nat :=
  if sd.tm.step.isSome || (sd.tm.episode && sd.flag F.TM_STAT_STEP_USED) then 3
  else if (List.range 128).any (fun n => sd.get (F.TK_CUE_STATE n) = 2 && sd.get (F.TK_CUE_TRIG n) = 1) then 4
  else if fromRef && (sd.flag F.TM_STAT_FREERUN || !timeKind (sd.get F.TM_STAT_SEL)) then 5
  else if decide (sd.mode = .follow) || sd.selects 5 then 6
  else 1

/-- R301: an explicit step: from the reference, or of `secs` seconds. -/
def Side.askStep (sd : Side) (secs : Option Int) : Side :=
  match sd.stepVerdict secs.isNone with
  | 1 => sd.planStep (secs.map (fun n => n * rateHz sd.rate))
  | c => (sd.set F.TM_STEP_STAT_RESULT c).set F.TM_STICKY_STEP_REFUSED 1

/-- R301: a write of CMD to TM_STEP; the request is taken up while the island is clocked. -/
def Side.askTmStep (sd : Side) (cmd : Nat) : Side :=
  let x := sd.set F.TM_STEP_CMD cmd
  if !sd.clocked then x
  else
    match cmd with
    | 1 => x.askStep none
    | 2 => x.askStep (some (toSigned 32 (sd.get F.TM_STEP_ARG)))
    | _ => x

/-- R300: LOCK is set for the first time on a TIME candidate. A Side that takes its steps from its partner makes none. -/
def Side.autoStep (sd : Side) : Side :=
  let sel := sd.get F.TM_STAT_SEL
  if sd.tm.stepped || !timeKind sel then sd
  else
    let sd := sd.onTm (fun t => { t with stepped := true })
    if sd.flag F.TM_CTRL_AUTO_STEP && decide (sel ≠ 5 ∧ sd.mode ≠ .follow) && sd.tm.step.isNone then sd.planStep none else sd

/-! ### The loop -/

/-- R293, R287: LOCK is set; a settle interval ends and the hold-off begins. -/
def Side.locked (sd : Side) : Side :=
  let sd := sd.setLock true
  let sd := if sd.flag F.TM_STAT_SWITCHED then (sd.setSwitched false).set F.TM_STAT_HOLDOFF 1 else sd
  sd.autoStep

/-- R293: the lock detector at an update that finds `e`. -/
def Side.lockDetect (sd : Side) (e : Int) : Side :=
  let thr := sd.get F.TM_CTRL_LOCK_THR * 65536
  let sd := sd.onTm (fun t =>
    { t with
      lockRun := if e.natAbs ≤ thr then t.lockRun + 1 else 0
      missRun := if 2 * thr < e.natAbs then t.missRun + 1 else 0 })
  if sd.flag F.TM_CTRL_OPEN then sd
  else if sd.flag F.TM_STAT_LOCK then (if 8 ≤ sd.tm.missRun then sd.setLock false else sd)
  else if 16 ≤ sd.tm.lockRun then sd.locked
  else sd

/-- The measurement rate of the selected candidate in mHz (Table TM-2): a word clock's edges, a port's blocks of 32 frames, rows, whole
seconds; log entry 126 for the rest. -/
def Side.measureRate (sd : Side) : Nat :=
  match sd.get F.TM_STAT_SEL with
  | 2 => 1000 * rateHz (sd.get F.AP_WCLK_WR)
  | 4 | 5 => 1000 * rateHz sd.rate
  | 6 => 1000
  | c => Config.measureRate c (sd.get (F.TM_CAND_UPDATES c))

/-- R290: the loop's bandwidth in mHz: what BW codes, and never more than a tenth of the measurement rate. -/
def Side.bandwidth (sd : Side) : Nat :=
  min ([10, 30, 100, 300, 1000, 3000, 10000, 30000].getD (sd.get F.TM_CTRL_BW) 0) (sd.measureRate / 10)

/-- R290, R292: V after an update. The arithmetic of the loop is open; the correction stays within SLEW. -/
def Side.steer (sd : Side) (e : Int) : Side :=
  if sd.flag F.TM_CTRL_OPEN then sd
  else
    let bw := sd.bandwidth
    let est := Config.loopEstimate bw sd.tm.est sd.tm.v e
    let lim : Int := fwNom sd.rate * sd.get F.TM_CTRL_SLEW / 10 ^ 6
    let corr := max (-lim) (min lim (Config.loopCorrection bw sd.tm.est sd.tm.v e))
    (sd.onTm (fun t => { t with est := est, v := (est + corr).toNat })).refreshWord

/-- R202: ALIGNED at an update on C5. `rowsEqual` says that the row numbers are the Lead's. -/
def Side.alignDetect (sd : Side) (e : Int) (rowsEqual : Bool) : Side :=
  if sd.get F.TM_STAT_SEL ≠ 5 ∨ sd.mode ≠ .follow then sd.set F.TW_STAT_ALIGNED 0
  else
    let sd := sd.onTm (fun t => { t with alignRun := if e.natAbs ≤ 655360 then t.alignRun + 1 else 0 })
    sd.set F.TW_STAT_ALIGNED (rowsEqual && decide (16 ≤ sd.tm.alignRun)).toNat

/-- R290, R291: a loop update that finds phase error `e`. -/
def Side.loopUpdate (sd : Side) (e : Int) (offset : Option Int) : Side :=
  let sd := sd.set64 F.TM_PHASE_LO F.TM_PHASE_HI (ofSigned 64 e)
  let sd := (sd.lockDetect e).steer e
  let sd := sd.alignDetect e (decide (offset = some 0))
  match offset with
  | some d =>
    if sd.get F.TM_STAT_SEL = 5 ∧ d ≠ 0 ∧ sd.tm.align.isNone then
      sd.onTm (fun t => { t with align := some (sd.row + 2, d) })
    else sd
  | none => sd

/-- A value folded into [−P/2, P/2), where `n` periods P make `full` units: the nearest whole number of periods is taken from it. -/
def foldPhase (e : Int) (n full : Nat) : Int := ((2 * n * e + full) % (2 * full : Int) - full) / (2 * n)

/-- R281: a candidate's phase error as Table TM-2 has it: folded into the period of a PHASE candidate, in units of 2^−16 ns. -/
def Side.foldE (sd : Side) (c : Nat) (e : Int) : Int :=
  if c = 2 then foldPhase e (rateHz (sd.get F.AP_WCLK_WR)) (65536 * 10 ^ 9)
  else if c = 6 then foldPhase e 1 (65536 * 10 ^ 9)
  else e

/-- What a measurement of candidate `c` leaves in its registers (Table TM-13). -/
def Side.storeMeasured (sd : Side) (c : Nat) (e freq : Int) : Side :=
  let sd := ((sd.set64 (F.TM_CAND_E_LO c) (F.TM_CAND_E_HI c) (ofSigned 64 e)).set (F.TM_CAND_FREQ c) (ofSigned 32 freq)).set
    (F.TM_CAND_AGE c) 0
  ((sd.incWrap (F.TM_CAND_UPDATES c)).set (F.TM_CAND_PRESENT c) 1).onTm (fun t => { t with ages := (c, 0) :: t.ages.filter (fun a => a.1 ≠ c) })

/-- R281, R282, R285, R290: candidate `c` delivers measurement `e`; `freq` is its mean frequency over the last second in ppt, and
`last` says that no further measurement of it arrives within the millisecond, which is when the update comes and the selector acts. `offset`
is the partner's row number less the Side's for the same boundary (C5). -/
def Side.measured (sd : Side) (peer c : Nat) (e freq : Int) (last : Bool) (offset : Option Int) : Side :=
  if !sd.clocked then sd
  else
    let e := sd.foldE c e
    let sd := (sd.storeMeasured c e freq).checkQuals peer
    let sd := if last then sd.replaceLost c else sd
    if sd.selects c && sd.qualified c then
      let sd := sd.onTm (fun t => { t with acc := t.acc + e, accN := t.accN + 1 })
      if last then
        let mean := roundQuot sd.tm.acc sd.tm.accN
        ((sd.onTm (fun t => { t with acc := 0, accN := 0 })).loopUpdate mean offset).takeBetter c
      else sd
    else sd

/-- R281: what candidate `c` forms a measurement from, its phase error before it is folded into the candidate's period. -/
def Side.formE (sd : Side) (c : Nat) (e : Int) : Side := sd.onTm (fun t => { t with edges := (c, e) :: t.edges.filter (fun p => p.1 ≠ c) })

/-- R281: an edge captured at `at'` on the counter, for PHASE candidate `c`: a multiple of its period minus the capture. -/
def Side.edgeSeen (sd : Side) (c at' : Nat) : Side := sd.formE c (-((at' * 65536 / 225792 : Nat) : Int))

/-- R281, R290: candidate `c` delivers a measurement: C2, C3 and C6 what they formed from their last edge or block, if anything; every
other one `e`. -/
def Side.deliver (sd : Side) (peer c : Nat) (e freq : Int) (last : Bool) (offset : Option Int) : Side :=
  if c = 2 ∨ c = 3 ∨ c = 6 then
    match sd.tm.edges.find? (fun p => decide (p.1 = c)) with
    | some p => (sd.onTm (fun t => { t with edges := t.edges.filter (fun p => p.1 ≠ c) })).measured peer c p.2 freq last offset
    | none => sd
  else sd.measured peer c e freq last offset

/-- R287: the settle interval ends after SETTLE_MAX seconds; the hold-off ends. -/
def Side.settleTimeout (sd : Side) : Side :=
  if sd.clocked && sd.flag F.TM_STAT_SWITCHED then (sd.setSwitched false).set F.TM_STAT_HOLDOFF 1 else sd
def Side.holdoffExpiry (sd : Side) : Side := if sd.clocked then sd.set F.TM_STAT_HOLDOFF 0 else sd

/-! ### Software steering -/

/-- A software word or a PPT write takes effect (R295, R297). -/
def Side.steerApply (sd : Side) (isWord : Bool) (v : Int) : Side :=
  (sd.onTm (fun t => if isWord then { t with word := v.toNat, steerBusy := true } else { t with ppt := v, steerBusy := true })).refreshWord

/-- R296: a software word or PPT write: at once, or held until the millisecond has passed. -/
def Side.steerWrite (sd : Side) (isWord : Bool) (v : Int) : Side :=
  if sd.tm.steerBusy then
    let sd := if sd.tm.held.isSome then sd.set F.TM_STICKY_FW_DEFERRED 1 else sd
    sd.onTm (fun t => { t with held := some (isWord, v) })
  else sd.steerApply isWord v

/-- R296: 1 ms has passed since the last write that took effect. -/
def Side.steerDeferred (sd : Side) : Side :=
  match sd.tm.held with
  | some h => (sd.onTm (fun t => { t with held := none })).steerApply h.1 h.2
  | none => sd.onTm (fun t => { t with steerBusy := false })

/-- R295: a write of TM_FW_HI; a write of TM_PPT (R297). -/
def Side.writeFwHi (sd : Side) (hi : Nat) : Side := (sd.set F.TM_FW_HI_FW_HI hi).steerWrite true (hi % 65536 * 2 ^ 32 + sd.get F.TM_FW_LO : Nat)
def Side.writePpt (sd : Side) (v : Nat) : Side := (sd.set F.TM_PPT v).steerWrite false (toSigned 32 v)

/-- R295: the loop opens: the software word is the current V, and the lock episode ends. -/
def Side.openLoop (sd : Side) : Side :=
  if sd.flag F.TM_CTRL_OPEN then sd
  else
    let sd := ((sd.set F.TM_CTRL_OPEN 1).set F.TM_STAT_STEP_USED 0).setLock false
    (sd.onTm (fun t => { t with word := t.v, episode := false, lockRun := 0, missRun := 0 })).refreshWord

/-- R295: the loop closes and restarts from the current word; a lock episode begins unless the Side is in free run. -/
def Side.closeLoop (sd : Side) : Side :=
  if sd.flag F.TM_CTRL_OPEN then
    let free := sd.flag F.TM_STAT_FREERUN
    let sd := (sd.set F.TM_CTRL_OPEN 0).set F.TM_STAT_STEP_USED 0
    (sd.onTm (fun t =>
      { t with
        v := if free then fwNom sd.rate else t.word, est := if free then fwNom sd.rate else t.word, episode := !free
        lockRun := 0, missRun := 0 })).refreshWord
  else sd

/-! ### Snapshots and triggers -/

/-- R308: slot `k`, not armed before, is armed within the Side's row; whether its target has passed by then the model cannot tell from the
counter alone (log entry 128). -/
def Side.noteArmed (sd : Side) (was : Bool) (k : Nat) : Side :=
  if !was && sd.flag (F.TM_TRIG_EN k) then sd.onTm (fun t => { t with armed := k :: t.armed.filter (fun j => j ≠ k) }) else sd

/-- R280: the TM_SNAP registers take the counter, which reads `at'`, and the row number. -/
def Side.storeSnap (sd : Side) (at' : Nat) : Side :=
  let t := timeParts at'
  let sd := sd.set F.TM_SNAP_SNAP 1
  let sd := (((sd.set F.TM_SNAP_NS t.2.1).set F.TM_SNAP_SEC_LO t.1).set F.TM_SNAP_SEC_HI_SEC (t.1 / 2 ^ 32)).set
    F.TM_SNAP_SEC_HI_FRAC t.2.2
  sd.set64 F.TM_SNAP_ROW_LO F.TM_SNAP_ROW_HI sd.row

/-- R280: a snapshot at the media-clock edge `cycles` after the boundary; with the counter stopped, of what it holds. -/
def Side.snapshot (sd : Side) (cycles : Nat) : Side :=
  if sd.clocked && sd.tm.started then (sd.advance (sd.edgeAt cycles)).storeSnap (sd.edgeAt cycles) else sd.storeSnap sd.counter

/-! ### The boundary -/

/-- A row number shifted by D. -/
def shiftRow (d : Int) (r : Nat) : Nat := (((r : Int) + d) % (2 ^ 64 : Int)).toNat

/-- The keys of samples on their way in (row × 65536 + index), shifted. -/
def shiftKeys (d : Int) (m : Sparse (BitVec 24)) : Sparse (BitVec 24) :=
  m.map (fun p => (shiftRow d (p.1 / 65536) * 65536 + p.1 % 65536, p.2))

/-- Published copies with their row tags shifted. -/
def shiftTags (d : Int) (l : List (Nat × Sparse (BitVec 24))) : List (Nat × Sparse (BitVec 24)) :=
  l.map (fun p => (shiftRow d p.1, p.2))

/-- The row tags of the published copies and Emit rows, shifted. -/
def Pages.shift (p : Pages) (d : Int) : Pages :=
  { p with
    port := shiftTags d p.port, net := shiftTags d p.net, shemas := shiftTags d p.shemas
    portIn := shiftKeys d p.portIn, netIn := shiftKeys d p.netIn, shemasIn := shiftKeys d p.shemasIn
    emitted := p.emitted.map (fun e => { e with row := shiftRow d e.row }) }

/-- A queued Take with its rows shifted. -/
def Take.shift (t : Take) (d : Int) : Take := { t with row := t.row.map (shiftRow d), planned := shiftRow d t.planned }

/-- The rows of the queue, shifted. -/
def TakeUnit.shift (u : TakeUnit) (d : Int) : TakeUnit :=
  { u with
    queue := u.queue.map (fun (o : Option Take) => o.map (fun (t : Take) => t.shift d))
    loader := u.loader.map (fun j => { j with fired := shiftRow d j.fired })
    slips := u.slips.map (fun r => { r with planned := shiftRow d r.planned }) }

/-- The start of ramp instance `n`, shifted. -/
def Side.shiftInst (d : Int) (sd : Side) (n : Nat) : Side :=
  if sd.flag (F.XA_INST_ALLOC n) then
    let r := shiftRow d (sd.cross.start n)
    let sd := sd.set (F.XA_INST_START n) (r % 65536)
    { sd with cross := { sd.cross with starts := Sparse.set (fun _ => 0) sd.cross.starts n r } }
  else sd

/-- The latched descriptor's row, shifted. -/
def Cross.shift (x : Cross) (d : Int) : Cross :=
  { x with latch := x.latch.map (fun l => { l with row := shiftRow d l.row }) }

/-- R302: the row numbers that a step of D rows shifts: queued Takes, ramp starts and the latched descriptor, TW_HAND and its
targets. The row tags by which the model finds published copies, Emit rows and checksums follow (log entry 30). -/
def Side.shiftRows (sd : Side) (d : Int) : Side :=
  let sd := (List.range 32).foldl (Side.shiftInst d) sd
  let sd := if sd.flag F.TW_HAND_KIND then sd.set64 F.TW_HAND_LO F.TW_HAND_HI (shiftRow d sd.handRow) else sd
  let sd := sd.onTwin (fun t => { t with
    chks := t.chks.map (fun p => (shiftRow d p.1, p.2))
    plans := t.plans.map (fun p => if p.2 = .cable then (shiftRow d p.1, p.2) else p)
    cable := t.cable.map (fun c => (shiftRow d c.1, c.2))
    peers := t.peers.map (fun p => (shiftRow d p.1, p.2)), judged := t.judged.map (fun j => (shiftRow d j.1, j.2))
    blended := t.blended.map (shiftRow d), capRow := t.capRow.map (shiftRow d), finalRow := t.finalRow.map (shiftRow d) })
  { sd with
    takes := sd.takes.shift d, cross := sd.cross.shift d, pages := sd.pages.shift d
    net := { sd.net with flowRows := shiftTags d sd.net.flowRows, got := sd.net.got.map (fun g => (g.1, shiftRow d g.2)) }
    shemas := { sd.shemas with
      taken := sd.shemas.taken.map (fun e => (e.1, shiftRow d e.2)), fwd := sd.shemas.fwd.map (fun e => (e.1, shiftRow d e.2.1, e.2.2)) } }

/-- R302: armed TRIG 1 Cues whose row E − 3 a step or an alignment has reached or passed, `old` being the row number that was
due at this boundary: they fire at once, late, as floated Takes. -/
def Side.passedCues (sd : Side) (old : Nat) : Side :=
  (List.range 128).foldl (fun (x : Side) n =>
    let e := x.cueRow n
    if x.get (F.TK_CUE_STATE n) = 2 ∧ x.get (F.TK_CUE_TRIG n) = 1 ∧ old ≤ e - 3 ∧ e - 3 ≤ x.row ∧ old < x.row then
      ((x.set F.TK_STAT_LATE 1).raise 0x0007 n (leBytes 8 e)).fireCue n .floated
    else x) sd

/-- The row number and the counter at a boundary; what lasts by the counter, a pulse that is under way (R307) and the media shapers, goes on
as it would have. -/
def Side.boundaryAt (sd : Side) (row counter : Nat) : Side :=
  { sd.onTm (fun t => { t with base := counter, pulses := t.pulses.map (fun p => (p.1, p.2 + counter - sd.counter)) }) with
    row := row, counter := counter
    net := { sd.net with ports := sd.net.ports.map (fun n => { n with creditAt := n.creditAt + counter - sd.counter }) } }

/-- R299: a step of D rows at the boundary whose row number would have been `n`. -/
def Side.applyStep (sd : Side) (n : Nat) (d : Int) : Side :=
  let b := shiftRow d n
  let sd := (sd.shiftRows d).set F.TM_STAT_TIME_VALID 1
  let sd := ((sd.set64 F.TM_STEP_D_LO F.TM_STEP_D_HI (ofSigned 64 d)).set64 F.TM_STEP_ROW_LO F.TM_STEP_ROW_HI b).set
    F.TM_STEP_STAT_RESULT 2
  sd.boundaryAt b (wrapCounter ((sd.counter : Int) + d * rowUnits sd.rate))

/-- R303: the partner's step. -/
def Side.partnerBoundary (sd : Side) (n : Nat) : Side :=
  match sd.tm.partnerStep with
  | some p =>
    if p.1 ≤ n then
      let x := sd.onTm (fun t => { t with partnerStep := none })
      if x.mode = .follow then x.applyStep n p.2 else x
    else sd
  | none => sd

/-- R299: the Side's own step. -/
def Side.stepBoundary (sd : Side) (n : Nat) : Side :=
  match sd.tm.step with
  | some p =>
    if p.row ≤ n then (sd.onTm (fun t => { t with step := none })).applyStep n (p.d.getD (rowsIn sd.selE sd.rate)) else sd
  | none => sd

/-- R304: the alignment. `valid` is the partner's TIME_VALID. -/
def Side.alignBoundary (sd : Side) (n : Nat) (valid : Bool) : Side :=
  match sd.tm.align with
  | some p =>
    if p.1 ≤ n then
      let x := sd.onTm (fun t => { t with align := none })
      let r := shiftRow p.2 x.row
      if x.selects 5 then
        (x.set F.TM_STAT_TIME_VALID valid.toNat).boundaryAt r (r * rowUnits x.rate % (2 ^ 48 * secUnits))
      else x
    else sd
  | none => sd

/-- R299, R303, R304: steps and alignment at the boundary that gives row number `n`; the Side's row and counter stand at that
boundary. -/
def Side.timeBoundary (sd : Side) (n : Nat) (valid : Bool) : Side :=
  let x := ((sd.partnerBoundary n).stepBoundary n).alignBoundary n valid
  if x.row = n then x else x.passedCues n

/-! ### A change of row rate -/

/-- A quotient rounded up or down as the part does. -/
def openQuot (a b : Nat) : Nat := if a % b ≠ 0 && Config.roundUp a b then a / b + 1 else a / b

/-- R278: the loaded Pattern changes the Side's row rate. -/
def Side.changeRate (sd : Side) (rate : Nat) : Side :=
  if sd.rate = rate then sd
  else
    let family := decide (sd.rate % 2 ≠ rate % 2)
    let scaled := fun (v : Nat) => if family then openQuot (fwNom rate * v) (fwNom sd.rate) else v
    let v := scaled sd.tm.v
    let start := (sd.counter + secUnits / 1000 + rowUnits rate - 1) / rowUnits rate * rowUnits rate
    let sd := { sd with rate := rate }
    let sd := sd.onTm (fun t =>
      { t with
        v := v, word := scaled t.word, est := if family then v else t.est, lockRun := 0, missRun := 0
        base := sd.counter, resume := if t.started then some start else none })
    let sd := if family then sd.setLock false else sd
    (((sd.cancelWhere (fun _ => true)).disarmAll).loseQual 5).refreshWord

/-! ### The commands -/

/-- R304: the partner's row number less the Side's, for the same boundary. -/
def State.rowOffset (s : State) (sd : SideId) (c : Fin 8) : Option Int :=
  if c = 5 then some (((s.side sd.other).row : Int) - (s.side sd).row) else none

/-- CANDIDATE_MEASUREMENT (R281, R290). `e` is the phase error of a candidate that forms none from an edge or a block; `freq` is the candidate's mean frequency over the last second in ppt; `last` says that no
further measurement of it arrives within the same millisecond. -/
def execCandidateMeasurement (sd : SideId) (c : Fin 8) (e freq : Int) (last : Bool) (s : State) : Answer :=
  s.go sd (fun x => x.deliver (s.side sd.other).rate c.val e freq last (s.rowOffset sd c))

/-- CANDIDATE_QUALIFY (R282). -/
def execCandidateQualify (sd : SideId) (c : Fin 8) (s : State) : Answer :=
  s.go sd (fun x => x.qualify (s.side sd.other).rate c.val)

/-- CANDIDATE_LOSS (R282). -/
def execCandidateLoss (sd : SideId) (c : Fin 8) (s : State) : Answer := s.go sd (fun x => x.candLoss c.val)

/-- SETTLE_TIMEOUT (R287). -/
def execSettleTimeout (sd : SideId) (s : State) : Answer := s.go sd Side.settleTimeout

/-- HOLDOFF_EXPIRY (R287). -/
def execHoldoffExpiry (sd : SideId) (s : State) : Answer := s.go sd Side.holdoffExpiry

/-- R283: a push into C0, C1 or C7. -/
def Side.push (sd : Side) (peer c : Nat) (freq : Int) (last : Bool) : Side :=
  let sd := sd.set F.TM_MEAS_PUSH_CAND c
  if c = 0 ∨ c = 1 ∨ c = 7 then sd.measured peer c (toSigned 64 (sd.get64 F.TM_MEAS_LO F.TM_MEAS_HI)) freq last none else sd

/-- MEASUREMENT_PUSH (R283): a write of TM_MEAS_PUSH. -/
def execMeasurementPush (sd : SideId) (w : Writer) (c : Fin 8) (freq : Int) (last : Bool) (s : State) : Answer :=
  s.go sd (fun x => if s.mayWrite sd w then x.push (s.side sd.other).rate c.val freq last else x)

/-- SOFTWARE_WORD_LOAD (R295): a write of TM_FW_HI. -/
def execSoftwareWordLoad (sd : SideId) (w : Writer) (hi : BitVec 16) (s : State) : Answer :=
  s.go sd (fun x => if s.mayWrite sd w then x.writeFwHi hi.toNat else x)

/-- PPT_WRITE (R297): a write of TM_PPT. -/
def execPptWrite (sd : SideId) (w : Writer) (v : BitVec 32) (s : State) : Answer :=
  s.go sd (fun x => if s.mayWrite sd w then x.writePpt v.toNat else x)

/-- STEERING_DEFERRED_APPLY (R296). -/
def execSteeringDeferredApply (sd : SideId) (s : State) : Answer := s.go sd (fun x => if x.clocked then x.steerDeferred else x)

/-- LOOP_OPEN (R295): a write of 1 to TM_CTRL.OPEN. -/
def execLoopOpen (sd : SideId) (w : Writer) (s : State) : Answer :=
  s.go sd (fun x => if s.mayWrite sd w then x.openLoop else x)

/-- LOOP_CLOSE (R295): a write of 0 to TM_CTRL.OPEN. -/
def execLoopClose (sd : SideId) (w : Writer) (s : State) : Answer :=
  s.go sd (fun x => if s.mayWrite sd w then x.closeLoop else x)

/-- TIME_SNAPSHOT (R280): a write of 1 to TM_SNAP, `cycles` media-clock cycles after the boundary. -/
def execTimeSnapshot (sd : SideId) (w : Writer) (cycles : Nat) (s : State) : Answer :=
  s.go sd (fun x => if s.mayWrite sd w then x.snapshot cycles else x)

/-- STEP_FROM_REF (R301): a write of CMD 1 to TM_STEP. -/
def execStepFromRef (sd : SideId) (w : Writer) (s : State) : Answer :=
  s.go sd (fun x => if s.mayWrite sd w then x.askTmStep 1 else x)

/-- STEP_SECONDS (R301): a write of CMD 2 to TM_STEP. -/
def execStepSeconds (sd : SideId) (w : Writer) (s : State) : Answer :=
  s.go sd (fun x => if s.mayWrite sd w then x.askTmStep 2 else x)

/-- CAPTURE_POP (R311): a write of TM_CAP_POP. -/
def execCapturePop (sd : SideId) (w : Writer) (s : State) : Answer :=
  s.go sd (fun x => if s.mayWrite sd w then (x.set F.TM_CAP_POP_POP 1).popCapture w else x)

/-- R310: a write of TM_CAP_FS arms one capture per TDM port. -/
def Side.armFrameSyncs (sd : Side) (ports : Nat) : Side :=
  (sd.set F.TM_CAP_FS ports).onTm (fun t => { t with fsArmed := t.fsArmed ||| ports % 65536 })

/-- FRAME_SYNC_CAPTURE_ARM (R310): a write of TM_CAP_FS, a bit per TDM port. -/
def execFrameSyncCaptureArm (sd : SideId) (w : Writer) (ports : BitVec 16) (s : State) : Answer :=
  s.go sd (fun x => if s.mayWrite sd w then x.armFrameSyncs ports.toNat else x)

/-- TWIN_STEP_PLAN_RECEIVE (R303): the Follow receives the Lead's planned step. -/
def execTwinStepPlanReceive (sd : SideId) (s : State) : Answer :=
  let y := s.side sd.other
  match y.tm.stepOut with
  | none => .next s
  | some p =>
    let t := s.setSide sd.other (y.onTm (fun t => { t with stepOut := none }))
    if s.linkUp && decide ((s.side sd).mode = .follow) then
      t.go sd (fun x => x.onTm (fun t => { t with partnerStep := some p }))
    else .next t

end Sys2Proof.Machine
end

