-- ==== Sys2Proof/Machine/Ports.lean ====
section
/-!
DEFINITION. The port island: TDM halves (R313 to R327), rate bridges (R328, R329), PDM (R330 to R333), word clock (R334,
R335), GPIO (R336, R337) and the time triggers that act on them (R307 to R309).
-/
namespace Sys2Proof.Machine

open Sys2Proof

/-- Changes the port island. -/
def Side.onPorts (sd : Side) (f : Ports → Ports) : Side := { sd with ports := f sd.ports }

/-- Changes a half. -/
def Side.onHalf (sd : Side) (h : Fin 32) (f : Half → Half) : Side :=
  sd.onPorts (fun p => { p with halves := p.halves.set h (f p.halves[h]) })

/-- A half. -/
def Side.half (sd : Side) (h : Fin 32) : Half := sd.ports.halves[h]

/-- The half of a port: 0 receive, 1 transmit. -/
def halfOf (p : Fin 16) (tx : Bool) : Fin 32 := ⟨2 * p.val + tx.toNat, by cases tx <;> simp <;> omega⟩

/-! ### Settings -/

/-- The word of AP_CFG, AP_TIMING. -/
def Side.cfgShadow (sd : Side) (h : Fin 32) : Nat := Regs.word sd.regs (F.AP_CFG_WIDTH h).off
def Side.timingShadow (sd : Side) (h : Fin 32) : Nat := Regs.word sd.regs (F.AP_TIMING_PHASE h).off

/-- Fields of a configuration word (Table AP-4). -/
def widthBits (cfg : Nat) : Nat := [16, 20, 24, 32].getD (cfg % 4) 32
def slotCount (cfg : Nat) : Nat := cfg / 4 % 32 + 1
def offsetBits (cfg : Nat) : Nat := cfg / 128 % 64

/-- The bit clock of a frame in which the last data bit of slot SLOTS − 1 is sent (R314). -/
def lastBit (cfg : Nat) : Nat := offsetBits cfg + slotCount cfg * widthBits cfg - 1

/-- The bit clocks for which a master holds its frame sync active (R314, FS_FORM). -/
def syncBits (cfg frame : Nat) : Nat := [1, widthBits cfg].getD (cfg / 2 ^ 13 % 4) (frame / 2)

/-- R317: rising edge `k` of a master's frame of `frame` bit clocks, in media-clock cycles from its start. -/
def riseCycle (rate frame k : Nat) : Nat := k * rowCycles rate / max 1 frame

/-- R317: bit-clock edge `k` of a master's frame, the rising or the falling one, in units of the counter from its start. -/
def bitEdge (rate frame k : Nat) (fall : Bool) : Nat :=
  let r := riseCycle rate frame k
  if !fall then r * mediaUnits rate
  else if frame = rowCycles rate then r * mediaUnits rate + mediaUnits rate / 2
  else (r + (riseCycle rate frame (k + 1) - r) / 2) * mediaUnits rate

/-- The bits of MASTER and BRIDGE, which become current at a start only (R327). -/
def startBits : Nat := 3 * 2 ^ 17

/-- A word with the bits of `m` taken from `b` and the others from `a`. -/
def mergeMask (a b m : Nat) : Nat := (a ^^^ (a &&& m)) ||| (b &&& m)

/-- The current words of a half. -/
def Side.cfgCur (sd : Side) (h : Fin 32) : Nat := sd.get (F.AP_CFG_CUR_CFG_CUR h)
def Side.timingCur (sd : Side) (h : Fin 32) : Nat := sd.get (F.AP_TIMING_CUR_TIMING_CUR h)
def Side.isMaster (sd : Side) (h : Fin 32) : Bool := (sd.cfgCur h).testBit 17
def Side.isBridged (sd : Side) (h : Fin 32) : Bool := (sd.cfgCur h).testBit 18 && decide (h.val % 2 = 0)
def Side.frameBits (sd : Side) (h : Fin 32) : Nat := sd.timingCur h % 4096
def Side.framePhase (sd : Side) (h : Fin 32) : Nat := sd.timingCur h / 65536 % 2048
def Side.halfRuns (sd : Side) (h : Fin 32) : Bool := sd.flag (F.AP_HSTAT_RUNNING h)

/-- R326, R327: the shadow becomes current at instant `t`: at once in a half that is stopped, for whole frames from then on in
a started one. -/
def Side.applyHalf (sd : Side) (h : Fin 32) (t : Int) : Side :=
  let cfg := mergeMask (sd.cfgShadow h) (sd.cfgCur h) startBits
  let mask := sd.get (F.AP_MASK_MASK h)
  let sd := if h.val % 2 = 0 && !sd.isMaster h then
      sd.set (F.AP_TIMING_CUR_TIMING_CUR h) (mergeMask (sd.timingCur h) (sd.timingShadow h) (2047 * 65536))
    else sd
  let sd := (sd.set (F.AP_CFG_CUR_CFG_CUR h) cfg).set (F.AP_MASK_CUR_MASK_CUR h) mask
  if sd.halfRuns h then sd.onHalf h (fun x => { x with pend := x.pend ++ [(t, cfg, mask)] }) else sd

/-- R326: the Take's instant A, 4 media-clock cycles after the boundary. -/
def Side.applyTake (sd : Side) : Side :=
  if sd.ports.shadowDue then
    let a : Int := 4 * mediaUnits sd.rate
    let sd := (List.finRange 32).foldl (fun (x : Side) h => x.applyHalf h a) sd
    (sd.onPorts (fun p => { p with shadowDue := false })).ackOwed 34
  else sd

/-! ### Starting and stopping -/

/-- R325, R327: a start at instant `t`, at the next media-clock edge. One of a half that runs leaves it running. -/
def Side.startHalf (sd : Side) (h : Fin 32) (t : Int) : Side :=
  let sd := sd.set (F.AP_CTRL_EN h) 1
  if sd.halfRuns h then sd.onHalf h (fun x => { x with stopping := false })
  else
    let m : Int := mediaUnits sd.rate
    let cfg := mergeMask (sd.cfgCur h) (sd.cfgShadow h) startBits
    let sd := (sd.set (F.AP_CFG_CUR_CFG_CUR h) cfg).set (F.AP_TIMING_CUR_TIMING_CUR h) (sd.timingShadow h)
    let sd := (sd.set (F.AP_HSTAT_RUNNING h) 1).set (F.AP_FRAME_FRAME h) 0
    sd.onHalf h (fun _ =>
      { Half.reset with started := some ((t + m - 1) / m * m), cfg := cfg, mask := sd.get (F.AP_MASK_CUR_MASK_CUR h) })

/-- R325: a write of 0 to EN. -/
def Side.stopHalf (sd : Side) (h : Fin 32) : Side :=
  let sd := sd.set (F.AP_CTRL_EN h) 0
  if sd.halfRuns h then sd.onHalf h (fun x => { x with stopping := true }) else sd

/-- R325, R326: the end of the current frame of a half to be stopped. Settings it has not used are its next start's. -/
def Side.halfStopped (sd : Side) (h : Fin 32) : Side :=
  if (sd.half h).stopping then
    (sd.set (F.AP_HSTAT_RUNNING h) 0).onHalf h (fun x =>
      { x with stopping := false, started := none, pend := [], got := (0, 0), sent := [], spill := [] })
  else sd

/-! ### Frames -/

/-- The settings of a frame whose frame sync is at `fs`; `past` says whether a time is two bit clocks or more, and `new` decides within two
bit clocks after A (R326). The pair's first part says whether new settings were taken. -/
def Half.settle (x : Half) (fs : Int) (past : Int → Bool) (new : Bool) : Bool × Half :=
  x.pend.foldl (fun (r : Bool × Half) e =>
    if past (fs - e.1) || (e.1 ≤ fs && new) then (true, { r.2 with cfg := e.2.1, mask := e.2.2, pend := r.2.pend.drop 1 })
    else r) (false, x)

/-- R310, R323: a frame sync at `fs` whose stamp is due. -/
def Side.stampHalf (sd : Side) (h : Fin 32) (fs phase : Int) : Side :=
  let p := timeParts (wrapCounter ((sd.rowStart : Int) + fs))
  let sd := ((sd.set (F.AP_STAMP_FRAME_STAMP_FRAME h) (sd.get (F.AP_FRAME_FRAME h))).set (F.AP_STAMP_NS_STAMP_NS h) p.2.1).set
    (F.AP_STAMP_SEC_LO_STAMP_SEC_LO h) p.1
  let sd := ((sd.set (F.AP_STAMP_STAMP_SEC_HI h) (p.1 / 2 ^ 32)).set (F.AP_STAMP_STAMP_FRAC h) p.2.2).set
    (F.AP_MEAS_PHASE_MEAS_PHASE h) (ofSigned 32 (phase * 256 / 225792))
  sd.onHalf h (fun x => { x with stampAt := some fs })

/-- Whether channel `c` converts a slot of the port of half `h`. -/
def Side.bridges? (sd : Side) (h : Fin 32) (c : Nat) : Bool :=
  sd.flag (F.AP_BR_EN c) && !sd.flag (F.AP_BR_KIND c) && decide (2 * sd.get (F.AP_BR_SRC c) = h.val)

/-- R329: channel `c` loses lock. -/
def Side.bridgeLost (sd : Side) (c : Nat) : Side :=
  if sd.flag (F.AP_BR_LOCK c) then ((sd.set (F.AP_BR_LOCK c) 0).set (F.AP_BR_UNLOCK c) 1).set F.AP_STAT_BR_UNLOCK 1 else sd

/-- R328, R329: a block of a bridged half, `d` units after the one before: RATIO of the channels it feeds; where the rate has moved by more
than 1,000 ppm within the block they lose lock and the count of consistent blocks begins again (log entry 129). -/
def Side.noteBlock (sd : Side) (h : Fin 32) (d : Nat) : Side :=
  let g := (sd.half h).gap
  let moved := decide (0 < g ∧ g < 1000 * ((d : Int) - g).natAbs)
  let sd := sd.onHalf h (fun x => { x with gap := d, blocks := if moved then 1 else x.blocks + 1 })
  (List.range 128).foldl (fun (x : Side) c =>
    if x.bridges? h c && decide (0 < d) then
      let x := x.set (F.AP_BR_RATIO c) (openQuot (32 * rowUnits x.rate * 2 ^ 24) d)
      if moved then x.bridgeLost c else x
    else x) sd

/-- R317, R326: whether a time is two bit clocks of half `h` or more: a master's bit clock makes FRAME_BITS cycles in a row. -/
def Side.twoClocks (sd : Side) (h : Fin 32) (clock : Nat) (d : Int) : Bool :=
  if sd.isMaster h then decide ((2 * rowUnits sd.rate : Nat) ≤ d * (sd.frameBits h : Nat)) else decide ((2 * clock : Nat) ≤ d)

/-- What every frame of a half does at its frame sync: settings (R326), FRAME, the block stamp of each 32nd frame (R323),
MEAS_BITS and CLK_PRESENT. `phase` is the frame phase (R321). -/
def Side.countFrame (sd : Side) (h : Fin 32) (fs phase : Int) (clock bits : Nat) (new : Bool) : Side :=
  let n := sd.get (F.AP_FRAME_FRAME h)
  let r := (sd.half h).settle fs (sd.twoClocks h clock) new
  let sd := sd.onHalf h (fun _ => { r.2 with started := none })
  let sd := if r.1 then sd.set (F.AP_APPLIED_FRAME_APPLIED_FRAME h) n else sd
  let before := (sd.half h).stampAt
  let sd := if n % 32 = 0 then sd.stampHalf h fs phase else sd
  let sd := if n % 32 = 0 && sd.isBridged h then
      match before with
      | some b => sd.noteBlock h (fs - b).toNat
      | none => sd.onHalf h (fun x => { x with blocks := 1 })
    else sd
  let sd := (sd.set (F.AP_HSTAT_MEAS_BITS h) bits).set (F.AP_HSTAT_CLK_PRESENT h) (decide (64 ≤ bits ∧ bits ≤ 1088)).toNat
  sd.set (F.AP_FRAME_FRAME h) (n + 1)

/-- R318: whether a frame of `bits` bit clocks is a frame error, and its record. -/
def Side.frameError (sd : Side) (h : Fin 32) (bits : Nat) : Bool := !sd.isMaster h && decide (bits ≠ sd.frameBits h)
def Side.noteFrameError (sd : Side) (h : Fin 32) : Side :=
  (sd.set (F.AP_HSTAT_FRAME_ERR h) 1).incSat (F.AP_CNT_FRAME_ERR_CNT h)

/-- R322: a slip. -/
def Side.noteSlip (sd : Side) (h : Fin 32) : Side := (sd.set (F.AP_HSTAT_SLIP h) 1).incSat (F.AP_CNT_SLIP_CNT h)

/-- R322: one more frame that belongs to the Side's row, or to the next one. -/
def Side.belongs (sd : Side) (h : Fin 32) (next : Bool) : Side :=
  let g := (sd.half h).got
  let n := if next then g.2 else g.1
  let sd := sd.onHalf h (fun x => { x with got := if next then (g.1, g.2 + 1) else (g.1 + 1, g.2) })
  if 1 ≤ n && !sd.isMaster h then sd.noteSlip h else sd

/-- R315: the sample of a received slot of the given width. -/
def slotSample (w bits : Nat) : BitVec 24 := BitVec.ofNat 24 (if w = 32 then bits % 2 ^ 32 / 256 else bits % 2 ^ w * 2 ^ (24 - w))

/-- R314: the bits of slot `s` on a data line whose level is given for each bit clock from the frame sync on, most significant first. -/
def slotWord (cfg : Nat) (line : List Bool) (s : Nat) : Nat :=
  ((line.drop (offsetBits cfg + s * widthBits cfg)).take (widthBits cfg)).foldl (fun n b => 2 * n + b.toNat) 0

/-- R314: the data pin as a half with these settings samples it. -/
def sampled (cfg : Nat) (line : List (Bool × Bool)) : List Bool := line.map (fun b => if cfg.testBit 16 then b.2 else b.1)

/-- R315, R316: the samples of a received frame. -/
def frameSamples (cfg mask : Nat) (line : List (Bool × Bool)) : List (BitVec 24) :=
  (List.range (slotCount cfg)).map (fun s =>
    if mask.testBit s then slotSample (widthBits cfg) (slotWord cfg (sampled cfg line) s) else 0)

/-- The samples of port `p` for input row `row` as they wait for publication. -/
def Side.putTdmIn (sd : Side) (p : Fin 16) (row : Nat) (v : List (BitVec 24)) : Side :=
  { sd with pages := { sd.pages with
    portIn := (List.range 32).foldl (fun (m : Sparse (BitVec 24)) s =>
      Sparse.set (fun _ => 0) m (row * 65536 + p.val * 32 + s) (v.getD s 0)) sd.pages.portIn } }

/-- Whether the port island's halves run their frames: the row pulse runs, the gate is open and the half is started. -/
def Side.framing (sd : Side) (h : Fin 32) : Bool := sd.pulsing && sd.gateOpen 37 && sd.halfRuns h

/-- A half's frame comes no earlier than its start allows (R325): a master's starts PHASE after a boundary that follows the
start, a slave's is its first frame sync after it. -/
def Side.frameDue (sd : Side) (h : Fin 32) (fs : Int) : Bool :=
  match (sd.half h).started with
  | some t => if sd.isMaster h then decide (t ≤ fs - sd.framePhase h * mediaUnits sd.rate) else decide (t ≤ fs)
  | none => true

/-- R314, R317: the active edge of a half's frame sync: a master's comes PHASE cycles after the boundary of the row, or of the row before. -/
def Side.frameSync (sd : Side) (h : Fin 32) (fs : PinEdges) : Int :=
  if sd.isMaster h then
    sd.framePhase h * mediaUnits sd.rate - (if fs.rise < 0 then (rowUnits sd.rate : Int) else 0)
  else if (sd.half h).cfg.testBit 15 then fs.fall
  else fs.rise

/-- R319: the instant at which the last data bit of a frame that begins at `fs` is sampled, by the settings `cfg`. -/
def Side.lastSample (sd : Side) (h : Fin 32) (fs : Int) (f : TdmFrame) (cfg : Nat) : Int :=
  let fall := cfg.testBit 16
  if sd.isMaster h then fs + bitEdge sd.rate (sd.frameBits h) (lastBit cfg) fall
  else if fall then f.last.fall
  else f.last.rise

/-- R318: a slave half's bit clock is slower than 64 bit clocks per frame and so is absent. -/
def Side.clockAbsent (sd : Side) (h : Fin 32) (bits : Nat) : Bool := !sd.isMaster h && decide (bits < 64)

/-- R324: candidate C3 is the receive half of port SUBSEL: once per block it takes the half's fill less its target, as a time. `left` is
the time from the last data bit to the end of the row that the frame belongs to. -/
def Side.fillSeen (sd : Side) (p : Fin 16) (left : Int) : Side :=
  if sd.get (F.TM_CAND_SUBSEL 3) = p.val then
    sd.formE 3 ((left - sd.framePhase (halfOf p false) * mediaUnits sd.rate) * 65536 / 225792)
  else sd

/-- R310: the receive frame sync of port `p` at `fs` is captured, if that is asked for. -/
def Side.syncSeen (sd : Side) (p : Fin 16) (fs : Int) : Side :=
  if sd.tm.fsArmed.testBit p.val then
    (sd.onTm (fun t => { t with fsArmed := withBit t.fsArmed p.val false })).capture
      { kind := 2, index := p.val, data := 0, num := 0, time := wrapCounter ((sd.rowStart : Int) + fs)
        row := shiftRow (fs / rowUnits sd.rate) sd.row }
  else sd

/-- A frame that port `p` receives (R314 to R316, R318, R319, R322, R324, R328). -/
def Side.receiveFrame (sd : Side) (p : Fin 16) (f : TdmFrame) (new : Bool) : Side :=
  let h := halfOf p false
  let fs := sd.frameSync h f.fs
  if !(sd.framing h && sd.frameDue h fs) then sd
  else if sd.clockAbsent h f.bits then (sd.set (F.AP_HSTAT_MEAS_BITS h) f.bits).set (F.AP_HSTAT_CLK_PRESENT h) 0
  else
    let cfg := ((sd.half h).settle fs (sd.twoClocks h f.clock) new).2.cfg
    let at' := sd.lastSample h fs f cfg
    let rel := (at' + 4 * mediaUnits sd.rate) / rowUnits sd.rate
    let bits := if sd.isMaster h then sd.frameBits h else f.bits
    let stamped := decide (sd.get (F.AP_FRAME_FRAME h) % 32 = 0)
    let sd := (sd.countFrame h fs (fs - rel * rowUnits sd.rate) f.clock bits new).syncSeen p fs
    let sd := if stamped then sd.fillSeen p ((rel + 1) * rowUnits sd.rate - at') else sd
    let bad := sd.frameError h bits
    let sd := if bad then sd.noteFrameError h else sd
    let x := sd.half h
    let v := if bad then [] else frameSamples x.cfg x.mask f.line
    let sd := sd.onHalf h (fun x => { x with last := v })
    if sd.isBridged h then sd.onHalf h (fun x => { x with hist := ((if stamped then some fs else none, v) :: x.hist).take 512 })
    else (sd.belongs h (decide (1 ≤ rel))).putTdmIn p (shiftRow rel sd.row) v

/-- R315: the bits of a transmitted slot, and whether the sample saturated. -/
def slotBits (w : Nat) (v : BitVec 24) : Nat × Bool :=
  if w = 32 then (v.toNat * 256, false)
  else
    let q := roundHalfEven v.toInt (24 - w)
    let m := min q (2 ^ (w - 1) - 1)
    (ofSigned w m, decide (m ≠ q))

/-- The `w` bits of a slot, most significant first. -/
def msbFirst (w n : Nat) : List Bool := (List.range w).map (fun i => n.testBit (w - 1 - i))

/-- TX_IDLE: the data line outside the enabled slots, none for high-Z (R316). -/
def idleLevel (cfg : Nat) : Option Bool := if cfg.testBit 19 then some false else none

/-- R314 to R316: the data line of a transmit half in the bit clocks of a frame whose slots carry the values `v`, and in those after it
that its slots still take; `spill` is what the frame before left. Also whether a sample of an enabled slot saturated. -/
def frameSent (cfg mask : Nat) (v : Nat → BitVec 24) (spill : List (Option Bool)) (bits : Nat) :
    Bool × List (Option Bool) × List (Option Bool) :=
  let w := widthBits cfg
  let idle := idleLevel cfg
  let slots := (List.range (slotCount cfg)).map (fun s => (mask.testBit s, slotBits w (v s)))
  let line := (spill ++ List.replicate (offsetBits cfg - spill.length) idle).take (offsetBits cfg) ++
    slots.flatMap (fun s => if s.1 then (msbFirst w s.2.1).map some else List.replicate w idle)
  (slots.any (fun s => s.1 && s.2.2), (line ++ List.replicate (bits - line.length) idle).take bits, line.drop bits)

/-- A frame that port `p` transmits (R314 to R316, R318, R320, R322): its frame sync, with the edges `edges`, falls within the Side's row, and
its bit clock has the period `clock` and `clocks` periods in the frame. -/
def Side.transmitFrame (sd : Side) (p : Fin 16) (edges : PinEdges) (clock clocks : Nat) (new : Bool) : Side :=
  let h := halfOf p true
  let fs := sd.frameSync h edges
  if !(sd.framing h && sd.frameDue h fs) then sd
  else if sd.clockAbsent h clocks then (sd.set (F.AP_HSTAT_MEAS_BITS h) clocks).set (F.AP_HSTAT_CLK_PRESENT h) 0
  else
    let bits := if sd.isMaster h then sd.frameBits h else clocks
    let sd := sd.countFrame h fs fs clock bits new
    let sd := if sd.frameError h bits then sd.noteFrameError h else sd
    let early := !sd.isMaster h && decide (fs < 8 * mediaUnits sd.rate)
    let sd := if early then sd.set (F.AP_HSTAT_EARLY h) 1 else sd
    let x := sd.half h
    let v := fun s => if early then 0#24 else Sparse.get (fun _ => 0#24) sd.pages.tdmOut (p.val * 32 + s)
    let r := frameSent x.cfg x.mask v x.spill bits
    let sd := if r.1 then sd.set (F.AP_HSTAT_NARROW_SAT h) 1 else sd
    (sd.onHalf h (fun x => { x with sent := r.2.1, spill := r.2.2 })).belongs h false

/-! ### Pads -/

/-- Table AR-9, R266: the modes in which the outputs are forced to their safe levels. -/
def Side.forcedSafe (sd : Side) : Bool := !sd.pulsing && decide (sd.mode ≠ .dark)

/-- Table AR-9, R203: the modes in which the outputs are undriven or high-Z. -/
def Side.released (sd : Side) : Bool := decide (sd.mode = .dark ∨ sd.mode = .follow ∨ sd.mode = .rework)

/-- Whether the Side's arrangement is Twin. -/
def Side.arrTwin (sd : Side) : Bool := decide (sd.get F.PW_MODE_ARR = 2)

/-- R339: a half's safe level: low or high-Z; always high-Z in Twin. -/
def Side.safeLevel (sd : Side) (h : Fin 32) : Option Bool := if !sd.arrTwin && (sd.cfgCur h).testBit 20 then some false else none

/-- TDMp_TD in bit clock `k` of the last frame of transmit half `h`; none is high-Z (R316, R325, R339). -/
def Side.dataPad (sd : Side) (h : Fin 32) (k : Nat) : Option Bool :=
  if sd.released then none
  else if sd.forcedSafe || !sd.halfRuns h then sd.safeLevel h
  else (sd.half h).sent.getD k (idleLevel (sd.half h).cfg)

/-- The bit clock and the frame sync of half `h`, `t` units of the counter after the boundary: a master's as R314 and R317 have them, its
safe level while it is stopped or forced safe; a slave drives neither. -/
def Side.clockPads (sd : Side) (h : Fin 32) (t : Nat) : Option Bool × Option Bool :=
  if sd.released || !sd.isMaster h then (none, none)
  else if sd.forcedSafe || !sd.halfRuns h then (sd.safeLevel h, sd.safeLevel h)
  else
    let n := rowUnits sd.rate
    let frame := sd.frameBits h
    let from' := (t % n + n - sd.framePhase h * mediaUnits sd.rate % n) % n
    let k := ((from' / mediaUnits sd.rate + 1) * frame - 1) / rowCycles sd.rate
    let cfg := (sd.half h).cfg
    (some (decide (from' < bitEdge sd.rate frame k true)), some (decide (k < syncBits cfg frame) != cfg.testBit 15))

/-! ### Bridges -/

/-- The history that channel `c` converts. -/
def Side.bridgeInput (sd : Side) (c : Nat) : List (Option Int × BitVec 24) :=
  let src := sd.get (F.AP_BR_SRC c)
  let sub := sd.get (F.AP_BR_SUB c)
  if sd.flag (F.AP_BR_KIND c) then
    (Sparse.get (fun _ => []) sd.ports.mics (2 * (src % 8) + sub % 2)).map (fun v => (some v.1, v.2))
  else (sd.half (halfOf ⟨src % 16, by omega⟩ false)).hist.map (fun e => (e.1, e.2.getD sub 0))

/-- The rate code to which the decimators reduce (R332). -/
def Side.decRate (sd : Side) : Nat := if sd.flag F.AP_PDM_CFG_DEC then 3 else 1

/-- How many rows before an input row's boundary the instant of a bridge's output lies: 40, and the decimator's 24 samples where channel
`c` converts a microphone (R53, Table PL-9). -/
def Side.bridgeRows (sd : Side) (c : Nat) : Nat :=
  let d := rateHz sd.decRate
  40 + if sd.flag (F.AP_BR_KIND c) then (24 * rateHz sd.rate + d - 1) / d else 0

/-- R328, R329: channel `c`'s output for the input row before `t` (times from the boundary of the Side's row): the bridged signal as it
stood that many rows earlier, zero while the channel is not locked. -/
def Side.bridgeOut (sd : Side) (c : Nat) : BitVec 24 :=
  if sd.flag (F.AP_BR_EN c) && sd.flag (F.AP_BR_LOCK c) then
    let t : Int := -(sd.bridgeRows c * rowUnits sd.rate : Nat)
    Config.bridgeValue (sd.get (F.AP_BR_RATIO c)) ((sd.bridgeInput c).map (fun e => (e.1.map (fun s => s - t), e.2)))
  else 0

/-- The receive half that channel `c` converts. -/
def Side.bridgeHalf (sd : Side) (c : Nat) : Fin 32 := halfOf ⟨sd.get (F.AP_BR_SRC c) % 16, by omega⟩ false

/-- R329: whether channel `c`'s source has brought 64 consecutive blocks with consistent stamps. The spec gives a microphone no stamps
(log entry 129). -/
def Side.bridgeReady (sd : Side) (c : Nat) : Bool :=
  sd.flag (F.AP_BR_KIND c) ||
    (sd.halfRuns (sd.bridgeHalf c) && sd.isBridged (sd.bridgeHalf c) && decide (64 ≤ (sd.half (sd.bridgeHalf c)).blocks))

/-- R329: whether 2 ms without a block of channel `c`'s source end within the Side's row, or have ended. -/
def Side.bridgeSilent (sd : Side) (c : Nat) : Bool :=
  sd.flag (F.AP_BR_KIND c) || !sd.halfRuns (sd.bridgeHalf c) ||
    (sd.half (sd.bridgeHalf c)).stampAt.all (fun t => decide (t + ((2 * secUnits / 1000 : Nat) : Int) ≤ (rowUnits sd.rate : Int)))

/-- R329: a channel locks; it loses lock where no block has come for 2 ms. `ratio` is what it has measured of a microphone. -/
def Side.bridgeLock (sd : Side) (c ratio : Nat) : Side :=
  if sd.pulsing && sd.gateOpen 37 && sd.flag (F.AP_BR_EN c) && sd.bridgeReady c then
    let sd := sd.set (F.AP_BR_LOCK c) 1
    if sd.flag (F.AP_BR_KIND c) then sd.set (F.AP_BR_RATIO c) ratio else sd
  else sd
def Side.bridgeUnlock (sd : Side) (c : Nat) : Side := if sd.gateOpen 37 && sd.bridgeSilent c then sd.bridgeLost c else sd

/-! ### PDM -/

/-- R330: the sample of a microphone whose decimated density of ones is `d` in units of 2^−24. -/
def micSample (d : Nat) : BitVec 24 := (sat24 ((d : Int) - 2 ^ 23)).1

/-- A write of AP_PDM_CFG: while EN = 1 only EN is written. -/
def Side.writePdm (sd : Side) (v : Nat) : Side :=
  let sd := if sd.flag F.AP_PDM_CFG_EN then sd
    else
      (((sd.set F.AP_PDM_CFG_CLK_OUT (v / 2)).set F.AP_PDM_CFG_CLK_RATE (v / 4)).set F.AP_PDM_CFG_DEC (v / 8)).set
        F.AP_PDM_CFG_IN_EN (v / 16)
  sd.set F.AP_PDM_CFG_EN v

/-- R331: the Side drives PDMCLK, which it can in the 48 kHz family only. -/
def Side.pdmDriven (sd : Side) : Bool := sd.flag F.AP_PDM_CFG_CLK_OUT && decide (sd.rate % 2 = 1)

/-- R331, R332: PDMCLK runs at the rate selected; it is locked to the media clock besides. -/
def Side.pdmClocked (sd : Side) (c : PdmClock) : Bool := sd.pdmDriven || (!sd.flag F.AP_PDM_CFG_CLK_OUT && decide (c ≠ .absent))
def Side.pdmLocked (sd : Side) (c : PdmClock) : Bool := sd.pdmDriven || (!sd.flag F.AP_PDM_CFG_CLK_OUT && decide (c = .locked))

/-- R331: PDMCLK as the Side drives it when its counter stands at `t`: the media clock divided by 32 or 16; none where it does not. -/
def Side.pdmPad (sd : Side) (t : Nat) : Option Bool :=
  let n := if sd.flag F.AP_PDM_CFG_CLK_RATE then 16 else 32
  if sd.pulsing && sd.ports.pdmOn && sd.pdmDriven then some (decide (t / mediaUnits sd.rate % n < n / 2)) else none

/-- R331 to R333: EN takes effect at a row boundary; the decimators' constant phase shows when they start on the board's
clock. -/
def Side.pdmBoundary (sd : Side) (c : PdmClock) : Side :=
  let on := sd.flag F.AP_PDM_CFG_EN
  let sd := if on && !sd.ports.pdmOn then
      sd.set F.AP_PDM_PHASE
        (if sd.flag F.AP_PDM_CFG_CLK_OUT then 0 else Config.pdmPhase sd.counter % (rowUnits sd.rate * 256 / 225792 + 1))
    else sd
  (sd.set F.AP_PDM_STAT_CLK_PRESENT (on && sd.pdmClocked c).toNat).onPorts (fun p =>
    { p with pdmOn := on, mics := if on then p.mics else [] })

/-- What the decimators have taken in for a microphone. -/
def Side.micHist (sd : Side) (m : Nat) : List (Int × BitVec 24) := Sparse.get (fun _ => []) sd.ports.mics m

/-- R53, R333: the decimated sample of microphone `m` for the input row whose boundary the times are counted from: the signal as it stood
24 rows before that boundary, less the constant phase. -/
def Side.micRow (sd : Side) (m : Nat) : BitVec 24 :=
  let u : Int := rowUnits sd.rate
  (((sd.micHist m).find? (fun e => decide (-25 * u < e.1 ∧ e.1 ≤ -24 * u))).map Prod.snd).getD 0

/-- The samples that the decimators have taken in within the row before, `ago` before its end. -/
def Side.hearMics (sd : Side) (mics : List (Nat × Nat × Nat)) : Side :=
  mics.foldl (fun (x : Side) e =>
    let m := e.1 % 16
    if x.bit F.AP_PDM_CFG_IN_EN (m / 2) then
      let h := (((rowUnits x.rate : Int) - e.2.1, micSample e.2.2) :: x.micHist m).take 512
      x.onPorts (fun p => { p with mics := Sparse.set (fun _ => []) p.mics m h })
    else x) sd

/-- R53, R332: the microphones' source points for input row `row`. -/
def Side.takeMics (sd : Side) (row : Nat) (mics : List (Nat × Nat × Nat)) (c : PdmClock) : Side :=
  if !sd.ports.pdmOn then sd
  else
    let sd := if sd.pdmClocked c then sd.hearMics mics else sd
    (List.range 16).foldl (fun (x : Side) m =>
      if x.bit F.AP_PDM_CFG_IN_EN (m / 2) then
        let out := if x.decRate = x.rate && x.pdmLocked c then x.micRow m
          else Config.unbridgedMic m (((x.micHist m).head?.map Prod.snd).getD 0)
        { x with pages := { x.pages with portIn := Sparse.set (fun _ => 0) x.pages.portIn (row * 65536 + 512 + m) out } }
      else x) sd

/-- R333: the decimators' buffer slips. -/
def Side.pdmSlip (sd : Side) : Side :=
  if sd.pulsing && sd.gateOpen 37 && sd.ports.pdmOn && !sd.flag F.AP_PDM_CFG_CLK_OUT then
    (sd.set F.AP_PDM_STAT_SLIP 1).incSat F.AP_PDM_STAT_SLIP_CNT
  else sd

/-! ### The row pulse -/

/-- Times within a half, from the next boundary. -/
def Half.rebase (x : Half) (d : Int) : Half :=
  { x with
    started := x.started.map (fun t => t - d), pend := x.pend.map (fun e => (e.1 - d, e.2)), stampAt := x.stampAt.map (fun t => t - d)
    hist := x.hist.map (fun e => (e.1.map (fun t => t - d), e.2)), got := (x.got.2, 0) }

/-- The next boundary is the one from which the port island's times count. -/
def Side.rebasePorts (sd : Side) : Side :=
  let d := rowUnits sd.rate
  ((List.finRange 32).foldl (fun (x : Side) h => x.onHalf h (fun a => a.rebase d)) sd).onPorts (fun p =>
    { p with mics := p.mics.map (fun m => (m.1, m.2.map (fun e => (e.1 - d, e.2)))) })

/-- R318: the bit clock of a slave half is absent. -/
def Side.clockGone (sd : Side) (h : Nat) : Side :=
  if h < 32 && !(sd.cfgCur ⟨h % 32, by omega⟩).testBit 17 then sd.set (F.AP_HSTAT_CLK_PRESENT h) 0 else sd

/-- R322: whether a half started early enough to have had a frame in the row before. -/
def Side.frameOwed (sd : Side) (h : Fin 32) : Bool :=
  let d : Int := if h.val % 2 = 1 then 0
    else ((offsetBits (sd.half h).cfg + slotCount (sd.half h).cfg * widthBits (sd.half h).cfg) * rowUnits sd.rate
      / max 1 (sd.frameBits h) : Nat)
  match (sd.half h).started with
  | some t => decide (t + d ≤ 0)
  | none => true

/-- R322: a row without a frame of a half: a receive half repeats its last frame. -/
def Side.rowWithout (sd : Side) (prev : Nat) (h : Fin 32) : Side :=
  if sd.halfRuns h && !sd.isBridged h && decide ((sd.half h).got.1 = 0) then
    let owed := sd.frameOwed h
    let sd := if h.val % 2 = 0 then sd.putTdmIn ⟨h.val / 2, by omega⟩ prev (sd.half h).last else sd
    if owed && !sd.isMaster h then sd.noteSlip h else sd
  else sd

/-- The samples of input row `row` that wait for publication. -/
def rowOf (m : Sparse (BitVec 24)) (row : Nat) : Sparse (BitVec 24) :=
  (m.filter (fun p => p.1 / 65536 = row)).map (fun p => (p.1 % 65536, p.2))

/-- The samples of later rows. -/
def rowsAfter (m : Sparse (BitVec 24)) (row : Nat) : Sparse (BitVec 24) := m.filter (fun p => p.1 / 65536 ≠ row)

/-- Adds a published copy, newest first; a Pattern's ages reach 65,535 rows (Table PL-8). -/
def pushCopy (l : List (Nat × Sparse (BitVec 24))) (row : Nat) (v : Sparse (BitVec 24)) : List (Nat × Sparse (BitVec 24)) :=
  ((row, v) :: l).take 65536

/-- R26: unit `u` publishes input row `row`: what waits for it, or again its last copy where its work did not finish. -/
def Side.publishInput (sd : Side) (u row : Nat) (l : List (Nat × Sparse (BitVec 24))) (v : Sparse (BitVec 24)) :
    Side × List (Nat × Sparse (BitVec 24)) :=
  if sd.skipped u then (sd.markUnit u .idle, l)
  else if sd.missed u then (((sd.markUnit u .held).overrun u row), pushCopy l row ((l.head?.map Prod.snd).getD []))
  else ((sd.markUnit u .complete).completedRow u, pushCopy l row v)

/-- R26, R52, R316, R329: unit 35's publication of input row `prev`. -/
def Side.portPublish (sd : Side) (prev : Nat) (e : PulseEnv) : Side :=
  let sd := ((List.finRange 32).foldl (fun (x : Side) h => x.rowWithout prev h) sd).takeMics prev e.mics e.pdm
  let v := (List.range 128).foldl (fun (m : Sparse (BitVec 24)) c => Sparse.set (fun _ => 0) m (528 + c) (sd.bridgeOut c))
    (rowOf sd.pages.portIn prev)
  let r := sd.publishInput 35 prev sd.pages.port v
  { r.1 with pages := { r.1.pages with port := r.2, portIn := rowsAfter sd.pages.portIn prev } }

/-- R49, R51, R260: what a transmit unit carries in the row after `prev`: what Emit placed in `prev`, or again what it carried where
Emit, or the unit itself, did not finish. -/
def Side.emittedRow (sd : Side) (u prev : Nat) : Option EmitRow :=
  if sd.missed u || sd.skipped u then none else sd.pages.emitted.find? (fun e => e.row = prev)

/-- The units among `us` whose work of the row that starts does not finish; all of them take part in it. -/
def Side.setUnfinished (sd : Side) (us unfinished : List Nat) : Side :=
  let sd := sd.rejoinRow us
  { sd with pages := { sd.pages with
    unfinished := sd.pages.unfinished.filter (fun u => !us.contains u) ++ unfinished.filter (fun u => us.contains u) } }

/-- The port island's share of the row pulse for row `row`: the input row before is published (R26), what Emit placed leaves
(R51), PDM's EN takes effect, and the Take's instant A is due (R326). In Ready the data are zero but in the row of a
Bind-off (R473). -/
def Side.portPulse (sd : Side) (row : Nat) (take : Bool) (e : PulseEnv) : Side :=
  let prev := (row + 2 ^ 64 - 1) % 2 ^ 64
  if !sd.gateOpen 37 then (((sd.markUnit 35 .idle).markUnit 36 .idle).skip [35, 36]).rebasePorts
  else
    let sd := ((e.unclocked.foldl Side.clockGone sd).portPublish prev e).transmitMark 36 prev
    let out := match sd.emittedRow 36 prev with
      | some r => r.tdm
      | none => sd.pages.tdmOut
    let zero := decide (sd.mode = .ready ∧ sd.get64 F.PW_MODE_ROW_LO F.PW_MODE_ROW_HI ≠ row)
    let sd := { sd with pages := { sd.pages with tdmOut := if zero then [] else out } }
    (((sd.setUnfinished [35, 36] e.unfinished).pdmBoundary e.pdm).rebasePorts).onPorts (fun p => { p with shadowDue := take })

/-! ### Word clock and GPIO -/

/-- R335: a rising edge on WCLK_IN, `t` units of the counter after the boundary, serves C2; IN_PRESENT follows the edges. -/
def Side.wclkEdge (sd : Side) (t : Nat) : Side :=
  if sd.alive && sd.gateOpen 37 then (sd.set F.AP_WCLK_IN_PRESENT 1).edgeSeen 2 (sd.rowStart + t) else sd
def Side.wclkAbsent (sd : Side) : Side := if sd.alive && sd.gateOpen 37 then sd.set F.AP_WCLK_IN_PRESENT 0 else sd

/-- R334, R203, R266: WCLK_OUT when the counter stands at `t`: a square wave at rate WR, low for a WR that is no rate of the family; none is
high-Z. -/
def Side.wclkPad (sd : Side) (t : Nat) : Option Bool :=
  if sd.released || !sd.clocked || !sd.flag F.AP_WCLK_OUT_EN then none
  else if !sd.wordClockFits then some false
  else
    let p := rowUnits (sd.get F.AP_WCLK_WR)
    let u := mediaUnits sd.rate
    some (decide ((t + p - sd.get F.AP_WCLK_PHASE * u % p) % p < p / u / 2 * u))

/-- The deglitch time of a GPIO in ns (R336). -/
def Side.deglitch (sd : Side) (g : Nat) : Nat := [0, 10, 40, 80].getD (sd.get F.AP_GPIO_DG / 4 ^ g % 4) 0

/-- R336, R310, R281: an edge at the pad of GPIO `g`, `t` units of the counter after the boundary, whose new level holds for `held`
ns. An edge of an input that holds is captured, and may fire Cues (R191); a rising edge of GPIO0 serves C6. -/
def Side.gpioEdge (sd : Side) (g : Fin 16) (rising : Bool) (held t : Nat) : Side :=
  let sd := sd.setBit F.AP_GPIO_IN g.val rising
  if !sd.alive then sd
  else if held < sd.deglitch g.val then sd.setBit F.AP_GPIO_IN g.val (!rising)
  else if sd.gateOpen 37 && !sd.bit F.AP_GPIO_DIR g.val then
    let code := if rising then 1 else 2
    let want := sd.get F.TM_CAP_GPIO / 4 ^ g.val % 4
    let sd := if want = code ∨ want = 3 then
        sd.capture { kind := 1, index := g.val, data := code, num := 0, time := wrapCounter ((sd.rowStart : Int) + t), row := sd.row }
      else sd
    let sd := if g.val = 0 && rising then sd.edgeSeen 6 (sd.rowStart + t) else sd
    sd.gpioTriggers g.val rising
  else sd

/-- What the Side drives GPIO `g` to; none where it drives nothing: an input, an output that is high-Z or forced safe to high-Z (R203,
R266, R336, R337, R339). -/
def Side.gpioDriven (sd : Side) (g : Nat) : Option Bool :=
  if !sd.bit F.AP_GPIO_DIR g || sd.released then none
  else if sd.forcedSafe then
    (if sd.arrTwin then none
    else
      match sd.get F.AP_GPIO_SAFE / 4 ^ g % 4 with
      | 1 => some false
      | 2 => some true
      | _ => none)
  else some (sd.bit F.AP_GPIO_OUT g)

/-- AP_GPIO_IN shows the pads: the level that the Side drives, or the one at the pad where it drives none. -/
def Side.gpioPads (sd : Side) : Nat :=
  (List.range 16).foldl (fun n g => withBit n g ((sd.gpioDriven g).getD (sd.bit F.AP_GPIO_IN g))) 0

/-! ### Time triggers -/

/-- The target of slot `n`, in units of the counter. -/
def Side.trigTarget (sd : Side) (n : Nat) : Nat :=
  (sd.get (F.TM_TRIG_SEC_LO n) + 2 ^ 32 * sd.get (F.TM_TRIG_SEC_HI n)) * secUnits + sd.get (F.TM_TRIG_NS n) * 225792

/-- The armed slot that acts next: the earliest target, the lowest slot among equals (R309). A slot whose ACTION is 7 does nothing (Table
TM-5). -/
def Side.nextTrig (sd : Side) : Option Nat :=
  (List.range 32).foldl (fun (b : Option Nat) n =>
    if !sd.flag (F.TM_TRIG_EN n) || decide (sd.get (F.TM_TRIG_ACTION n) = 7) then b
    else
      match b with
      | some m => if sd.trigTarget n < sd.trigTarget m then some n else b
      | none => some n) none

/-- Table TM-5: what slot `n` does at its target, or, where it is late, when the counter stands past it. A pulse ends WIDTH ns after its
start. -/
def Side.trigAct (sd : Side) (n : Nat) : Side :=
  let x := sd.get (F.TM_TRIG_TARGET n)
  match sd.get (F.TM_TRIG_ACTION n) with
  | 1 => sd.setBit F.AP_GPIO_OUT (x % 16) true
  | 2 => sd.setBit F.AP_GPIO_OUT (x % 16) false
  | 3 => sd.setBit F.AP_GPIO_OUT (x % 16) (!sd.bit F.AP_GPIO_OUT (x % 16))
  | 4 => (sd.setBit F.AP_GPIO_OUT (x % 16) true).onTm (fun t =>
      { t with pulses := (x % 16, sd.counter + sd.get (F.TM_TRIG_WIDTH n) * 225792) :: t.pulses.filter (fun p => p.1 ≠ x % 16) })
  | 5 => sd.startHalf (halfOf ⟨x % 16, by omega⟩ (x.testBit 4)) ((sd.counter : Int) - sd.rowStart)
  | 6 => { sd with col := sd.col.input false (Config.timeTriggerSource (x % 4)) 1 1 false }
  | _ => sd

/-- R307: slot `n` fires: its action where its island takes it, FIRES, and the next target or the end of the slot. -/
def Side.fireTrig (sd : Side) (n : Nat) (late : Bool) : Side :=
  let sd := if late then (sd.set (F.TM_TRIG_LATE n) 1).set F.TM_STICKY_TRIG_LATE 1 else sd
  let target := sd.trigTarget n
  let sd := if sd.get (F.TM_TRIG_ACTION n) = 6 || sd.gateOpen 37 then sd.trigAct n else sd
  let sd := sd.incWrap (F.TM_TRIG_FIRES n)
  if sd.flag (F.TM_TRIG_REPEAT n) then
    let p := timeParts (wrapCounter ((target + max 1000 (sd.get (F.TM_TRIG_PERIOD n)) * 225792 : Nat) : Int))
    ((sd.set (F.TM_TRIG_NS n) p.2.1).set (F.TM_TRIG_SEC_LO n) p.1).set (F.TM_TRIG_SEC_HI n) (p.1 / 2 ^ 32)
  else sd.set (F.TM_TRIG_EN n) 0

/-- R307, R308: the counter reaches the target of the slot that acts next, which fires on time, or late if the counter has
passed it. No slot fires whose target lies beyond the Side's row. A slot armed within the row is late where `behind` says that its target
had passed when it was armed. -/
def Side.trigger (sd : Side) (behind : Bool) : Side :=
  match sd.nextTrig with
  | some n =>
    let t := sd.trigTarget n
    if sd.clocked && sd.tm.started && decide (t < sd.rowEnd) then
      let late := decide (t < sd.counter) || (behind && sd.tm.armed.contains n)
      (sd.advance t).fireTrig n late
    else sd
  | none => sd

/-- R302, R308: the slots whose targets a forward step from counter `old` has passed fire at once, late. -/
def Side.firePassed (sd : Side) (old : Nat) : Side :=
  (List.range 32).foldl (fun (x : Side) n =>
    if x.flag (F.TM_TRIG_EN n) && decide (x.get (F.TM_TRIG_ACTION n) ≠ 7) && decide (old ≤ x.trigTarget n ∧ x.trigTarget n < x.counter) then x.fireTrig n true else x) sd

/-! ### The commands -/

/-- TDM_HALF_STOPPED (R325). -/
def execTdmHalfStopped (sd : SideId) (h : Fin 32) (s : State) : Answer :=
  s.go sd (fun x => if x.gateOpen 37 then x.halfStopped h else x)

/-- PORT_SHADOW_APPLY (R326): instant A of the Take of the Side's row. -/
def execPortShadowApply (sd : SideId) (s : State) : Answer :=
  s.go sd (fun x => if x.pulsing && x.gateOpen 37 then x.applyTake else x)

/-- TDM_RECEIVE_FRAME (R319). -/
def execTdmReceiveFrame (sd : SideId) (p : Fin 16) (fs last : PinEdges) (clock bits : Nat) (line : List (Bool × Bool)) (s : State) : Answer :=
  s.choice.2.answer (s.choice.2.onSide sd (fun x => x.receiveFrame p { fs, last, clock, bits, line } s.choice.1))

/-- TDM_TRANSMIT_FRAME (R320). -/
def execTdmTransmitFrame (sd : SideId) (p : Fin 16) (fs : PinEdges) (clock bits : Nat) (s : State) : Answer :=
  s.choice.2.answer (s.choice.2.onSide sd (fun x => x.transmitFrame p fs clock bits s.choice.1))

/-- BRIDGE_LOCK (R329): channel `c` locks, having measured `ratio` (units of 2^−24). -/
def execBridgeLock (sd : SideId) (c : Fin 128) (ratio : BitVec 32) (s : State) : Answer :=
  s.go sd (fun x => x.bridgeLock c.val ratio.toNat)

/-- BRIDGE_UNLOCK (R329). -/
def execBridgeUnlock (sd : SideId) (c : Fin 128) (s : State) : Answer := s.go sd (fun x => x.bridgeUnlock c.val)

/-- PDM_SLIP (R333). -/
def execPdmSlip (sd : SideId) (s : State) : Answer := s.go sd Side.pdmSlip

/-- WORD_CLOCK_EDGE (R335). -/
def execWordClockEdge (e : WordEdge) (s : State) : Answer := s.go e.side (fun x => x.wclkEdge e.time)

/-- WORD_CLOCK_ABSENT (R335): no edge for 2 ms. -/
def execWordClockAbsent (sd : SideId) (s : State) : Answer := s.go sd Side.wclkAbsent

/-- GPIO_EDGE (R336). -/
def execGpioEdge (sd : SideId) (g : Fin 16) (rising : Bool) (held t : Nat) (s : State) : Answer :=
  s.go sd (fun x => x.gpioEdge g rising held t)

/-- TRIGGER_FIRE (R307). -/
def execTriggerFire (sd : SideId) (s : State) : Answer := s.choice.2.go sd (fun x => x.trigger s.choice.1)

end Sys2Proof.Machine
end

