-- ==== Sys2Proof/Machine/Host.lean ====
section
/-!
DEFINITION. The host region: its resets (R19, R20, R373, R468, R498), mailboxes (R380 to R385, R206, R207), relay (R366, R367,
R387 to R389), boot flash master (R390, R391), PCIe function (R375, R376, R421) and the commands of the Collectors.
-/
namespace Sys2Proof.Machine

open Sys2Proof

/-- Changes the host region. -/
def State.onHost (s : State) (f : HostRegion → HostRegion) : State := { s with host := f s.host }

/-! ### The host port -/

/-- A change by host software through its port. -/
def State.hostWrite (s : State) (f : HostRegion → HostRegion) : Answer :=
  if s.host.open then s.answer (s.onHost f) else .next s

/-- Whether the host port can issue a write to host memory (R421, R436, R376): never over quad-SPI. -/
def HostRegion.masters (h : HostRegion) : Bool :=
  h.open && !h.flag F.HP_STRAP_HOSTSEL && h.flag F.HP_PCIE_BME && h.flag F.HP_PCIE_SPEED

/-! ### Mailbox rings -/

/-- The BAR2 offset of a ring (Table AR-8). -/
def ringBase (n : Nat) (out : Bool) : Nat := 0x80000 * n + (if out then 0x40000 else 0)

/-- The producer and consumer indices of a ring. -/
def prodFld (n : Nat) (out : Bool) : Fld := if out then F.HP_MB_OUT_PROD_IDX n else F.HP_MB_IN_PROD_IDX n
def consFld (n : Nat) (out : Bool) : Fld := if out then F.HP_MB_OUT_CONS_IDX n else F.HP_MB_IN_CONS_IDX n

/-- R380: the messages a ring holds. -/
def HostRegion.ringCount (h : HostRegion) (n : Nat) (out : Bool) : Nat :=
  (h.get (prodFld n out) + 128 - h.get (consFld n out)) % 128

/-- R380: whether a ring is full. -/
def HostRegion.ringFull (h : HostRegion) (n : Nat) (out : Bool) : Bool := decide (64 ≤ h.ringCount n out)

/-- R380: whether a slot of a ring is posted. -/
def HostRegion.posted (h : HostRegion) (n : Nat) (out : Bool) (slot : Nat) : Bool :=
  decide ((slot % 64 + 64 - h.get (consFld n out) % 64) % 64 < h.ringCount n out)

/-- A byte of mailbox RAM. -/
def HostRegion.byte (h : HostRegion) (a : Nat) : Byte := Sparse.get memDefault h.ram a

/-- The bytes of mailbox RAM from an offset. -/
def HostRegion.bytes (h : HostRegion) (a n : Nat) : List Byte := (List.range n).map (fun i => h.byte (a + i))

/-- Stores bytes in mailbox RAM. -/
def HostRegion.putBytes (h : HostRegion) (a : Nat) : List Byte → HostRegion
  | [] => h
  | b :: bs => ({ h with ram := Sparse.set memDefault h.ram a b } : HostRegion).putBytes (a + 1) bs

/-- The route tag of an inbound slot. -/
def HostRegion.tag (h : HostRegion) (n slot : Nat) : Nat := Sparse.get (fun _ => 0) h.tags (64 * n + slot % 64)
def HostRegion.setTag (h : HostRegion) (n slot v : Nat) : HostRegion :=
  { h with tags := Sparse.set (fun _ => 0) h.tags (64 * n + slot % 64) v }

/-- R381: a host write of bytes into inbound slot `slot`. -/
def HostRegion.slotWrite (h : HostRegion) (n slot off : Nat) (data : List Byte) : HostRegion :=
  if h.posted n false slot then h.set F.HP_MB_STAT_SLOT_BUSY 1
  else (h.putBytes (ringBase n false + 4096 * slot + off) data).setTag n slot 0

/-- R206: a host write of bytes into Twin post slot `slot`. -/
def HostRegion.twinWrite (h : HostRegion) (slot off : Nat) (data : List Byte) : HostRegion :=
  if h.posted 0 false slot || h.posted 1 false slot then h.set F.HP_MB_STAT_SLOT_BUSY 1
  else
    let put := fun (h : HostRegion) n => (h.putBytes (ringBase n false + 4096 * slot + off) data).setTag n slot 1
    put (put h 0) 1

/-- A doorbell of Side `n` refused with a cause (R382, R383, R384). -/
def HostRegion.refuse (h : HostRegion) (n cause : Nat) : HostRegion :=
  if n = 0 then (h.set F.HP_MB_STAT_DB_REF0 1).set F.HP_MB_STAT_DB_CAUSE0 cause
  else (h.set F.HP_MB_STAT_DB_REF1 1).set F.HP_MB_STAT_DB_CAUSE1 cause

/-- R380: PROD advances by 1. -/
def HostRegion.produce (h : HostRegion) (n : Nat) (out : Bool) : HostRegion := h.set (prodFld n out) (h.get (prodFld n out) + 1)

/-- R382: a write of `v` to HP_MB_IN_DBn. -/
def HostRegion.inboundDoorbell (h : HostRegion) (n v : Nat) : HostRegion :=
  let h := h.set (F.HP_MB_IN_DB_IDX n) v
  if v ≠ h.get (prodFld n false) then h.refuse n 2
  else if h.ringFull n false then h.refuse n 1
  else h.produce n false

/-- R207, R385: a write of `v` to HP_MB_TWIN_DB. -/
def HostRegion.twinDoorbell (h : HostRegion) (v : Nat) : HostRegion :=
  let h := h.set F.HP_MB_TWIN_DB_IDX v
  let refuse := fun c => (h.set F.HP_MB_STAT_TWIN_REF 1).set F.HP_MB_STAT_TWIN_CAUSE c
  if v ≠ h.get (prodFld 0 false) ∨ v ≠ h.get (prodFld 1 false) then refuse 2
  else if h.ringFull 0 false || h.ringFull 1 false then refuse 1
  else (h.produce 0 false).produce 1 false

/-- R383: a host write of `v` to HP_MB_OUT_CONSn. -/
def HostRegion.writeCons (h : HostRegion) (n v : Nat) : HostRegion :=
  if (v + 128 - h.get (consFld n true)) % 128 ≤ h.ringCount n true then h.set (consFld n true) v
  else h.set F.HP_MB_STAT_CONS_ERR 1

/-- R381: firmware has taken a message: CONS advances; source 17 + 8n pulses when the ring leaves full (Table HP-3). -/
def HostRegion.consume (h : HostRegion) (n : Nat) : HostRegion :=
  let full := h.ringFull n false
  let h := h.set (consFld n false) (h.get (consFld n false) + 1)
  if full then h.pulse (17 + 8 * n) else h

/-- The header of a message with its payload (Table IB-1); DEVID and SEL of a message made here are given. -/
def Msg.bytesOf (m : Msg) (devid sel : Nat) : List Byte :=
  leBytes 1 m.version ++ leBytes 1 m.cls ++ leBytes 2 m.op ++ leBytes 4 m.seq ++ leBytes 1 devid ++ leBytes 1 sel ++
    leBytes 2 m.flags ++ leBytes 4 m.len ++ leBytes 8 m.session ++ leBytes 2 m.status ++ leBytes 2 0 ++
    leBytes 4 (if m.payload.isEmpty then 0 else crc32 m.payload) ++ m.payload

/-- The message that bytes give (Table IB-1). -/
def msgOf (b : List Byte) : Msg :=
  let n := fun o k => leVal ((b.drop o).take k)
  let len := n 12 4
  { version := n 0 1, cls := n 1 1, op := n 2 2, seq := n 4 4, devid := n 8 1, sel := n 9 1, flags := n 10 2, len := len
    session := n 16 8, status := n 24 2, crc := n 28 4, payload := (b.drop 32).take (min len 4064) }

/-- R419: the attention line of an event pulses: source 32 + 32n + line. -/
def HostRegion.attention (h : HostRegion) (n : Nat) (fw : Firmware) (m : OutMsg) : HostRegion :=
  if m.event then
    let l := Sparse.get (fun _ => 0xFF) fw.lines m.msg.op
    if l < 32 then h.pulse (32 + 32 * n + l) else h
  else h

/-- R417: once the event queue has room again after a loss, firmware reports the loss. -/
def Side.lossEvent (sd : Side) : Side :=
  if sd.fw.lossDue && decide (sd.fw.events < 256) then
    ({ sd with fw := { sd.fw with lossDue := false } } : Side).raise 0x001C 0 (leBytes 4 sd.fw.lost)
  else sd

/-! ### The relay -/

/-- Whether Side `sd` sends cells over link `l`: in Ready, Solo and Lead (R360), while the link carries them (R359). -/
def Side.sendsCells (sd : Side) : Bool := decide (sd.mode = .ready ∨ sd.mode = .solo ∨ sd.mode = .lead) && sd.gateOpen 39
def Side.linkCarries (sd : Side) (l : Nat) : Bool := decide (sd.get (F.SH_LINK_STATE l) = 2 ∨ sd.get (F.SH_LINK_STATE l) = 3)

/-- Whether a route is usable (R367). -/
def State.routeUsable (s : State) (sd : SideId) (l : Nat) : Bool := (s.side sd).sendsCells && (s.side sd).linkCarries l

/-- The Side of a route's bit. -/
def sideOf (n : Nat) : SideId := if n = 0 then .s0 else .s1

/-- R367: the route for device `d`: the primary while it is usable, else the alternate. -/
def State.routeOf (s : State) (d : Nat) : Option (SideId × Nat) :=
  let g := fun f => s.host.get f
  let pri := (sideOf (g (F.HP_RLY_ROUTE_PRI_SIDE d)), g (F.HP_RLY_ROUTE_PRI_LINK d))
  let alt := (sideOf (g (F.HP_RLY_ROUTE_ALT_SIDE d)), g (F.HP_RLY_ROUTE_ALT_LINK d))
  if s.host.flag (F.HP_RLY_ROUTE_PRI_EN d) && s.routeUsable pri.1 pri.2 then some pri
  else if s.host.flag (F.HP_RLY_ROUTE_ALT_EN d) && s.routeUsable alt.1 alt.2 then some alt
  else none

/-- R388: the messages held for a route. -/
def HostRegion.routeHeld (h : HostRegion) (d : Nat) : Nat :=
  (h.relay.filter (fun m => decide (m.dest = .route d) && m.via.isNone)).length

/-- R388: a route takes a message unless it holds 16. -/
def HostRegion.routeFull (h : HostRegion) (d : Nat) : Bool := decide (16 ≤ h.routeHeld d)

/-- A message that starts at this device goes to the relay for device `d`, with the next MSG_ID. -/
def HostRegion.relayOut (h : HostRegion) (d sel : Nat) (bytes : List Byte) : HostRegion :=
  { h with
    relay := h.relay ++ [{ dest := .route d, bytes := bytes, src := h.get F.HP_ID_DEVID, sel := sel, id := h.msgId, via := none }]
    msgId := (h.msgId + 1) % 65536 }

/-- R366: the cells of a message, without sequence numbers. -/
def HeldMsg.cells (m : HeldMsg) (dst : Nat) : List Cell :=
  let n := max 1 ((m.bytes.length + 239) / 240)
  (List.range n).map (fun i =>
    { seq := 0, src := m.src, crcOk := true
      body := .fragment dst m.sel m.id i (decide (i + 1 = n)) ((m.bytes.drop (240 * i)).take 240) })

/-- Cells join a link's output in order, each with the next sequence number. -/
def Link.queueCells (k : Link) (cells : List Cell) : Link :=
  cells.foldl (fun (k : Link) c =>
    let n := (k.txSeq + 1) % 65536
    { k with txSeq := n, out := k.out ++ [{ c with seq := n }] }) k

/-- Changes a link of a Side. -/
def Side.onLink (sd : Side) (l : Fin 4) (f : Link → Link) : Side :=
  { sd with shemas := { sd.shemas with links := sd.shemas.links.set l (f sd.shemas.links[l]) } }

/-- The link of a number. -/
def linkOf (l : Nat) : Fin 4 := ⟨l % 4, by omega⟩

/-- R367: message `m` for device `d` goes out on a route. -/
def State.sendOn (s : State) (m : HeldMsg) (d : Nat) (r : SideId × Nat) : State :=
  s.onSide r.1 (fun x => x.onLink (linkOf r.2) (fun k => k.queueCells (m.cells d)))

/-- R387, R367: what the relay can do with message `m` now: the state it leads to and what is left of the message. -/
def State.relayTry (s : State) (m : HeldMsg) : Option (State × Option HeldMsg) :=
  let h := s.host
  let fill := fun (h : HostRegion) n =>
    let p := h.get (prodFld n false)
    (((h.putBytes (ringBase n false + 4096 * (p % 64)) m.bytes).setTag n p (2 + 4 * m.src)).produce n false)
  match m.dest with
  | .inbound sd => if h.ringFull sd.num false then none else some (s.onHost (fun h => fill h sd.num), none)
  | .twinInbound =>
    if h.ringFull 0 false || h.ringFull 1 false || h.get (prodFld 0 false) ≠ h.get (prodFld 1 false) then none
    else some (s.onHost (fun h => fill (fill h 0) 1), none)
  | .outbound =>
    let n := h.get F.HP_RLY_CTRL_RET
    if h.ringFull n true then none
    else
      some (s.onHost (fun h =>
        (h.putBytes (ringBase n true + 4096 * (h.get (prodFld n true) % 64)) m.bytes).produce n true), none)
  | .route d => (s.routeOf d).map (fun r => (s.sendOn m d r, some { m with via := some r }))

/-- R387: the first message the relay can move, the messages for one destination keeping their order; `skip` holds the
destinations that an earlier message waits for. -/
def State.relayPick (s : State) (done : List HeldMsg) (skip : List RelayDest) : List HeldMsg → Option State
  | [] => none
  | m :: rest =>
    if m.via.isSome || skip.contains m.dest then s.relayPick (done ++ [m]) skip rest
    else
      match s.relayTry m with
      | some r => some (r.1.onHost (fun h => { h with relay := done ++ r.2.toList ++ rest }))
      | none => s.relayPick (done ++ [m]) (m.dest :: skip) rest

/-- R387: the relay inserts a message or passes it on; with EN = 0 it does neither (R388). -/
def State.relayInsert (s : State) : State :=
  if s.host.held || !s.host.flag F.HP_RLY_CTRL_EN then s else (s.relayPick [] [] s.host.relay).getD s

/-- R389: the oldest message held for device `d` without a usable route is discarded. -/
def State.relayTimeout (s : State) (d : Nat) : State :=
  if s.host.held || (s.routeOf d).isSome then s
  else
    match s.host.relay.find? (fun m => decide (m.dest = .route d) && m.via.isNone) with
    | some m => s.onHost (fun h => (({ h with relay := h.relay.erase m } : HostRegion).incSat F.HP_RLY_STAT_DROPPED).set F.HP_RLY_STAT_NO_ROUTE 1)
    | none => s

/-- R367: messages of a failed link: each goes again on the other route, or is held. -/
def State.reroute (s : State) (sd : SideId) (l : Nat) : State :=
  let hit := s.host.relay.filter (fun m => decide (m.via = some (sd, l)))
  hit.foldl (fun (s : State) m =>
    match m.dest with
    | .route d =>
      match s.routeOf d with
      | some r =>
        (s.sendOn m d r).onHost (fun h =>
          ({ h with relay := h.relay.map (fun x => if x = m then { m with via := some r } else x) } : HostRegion).set F.HP_RLY_STAT_REROUTED 1)
      | none => s.onHost (fun h => { h with relay := h.relay.map (fun x => if x = m then { m with via := none } else x) })
    | _ => s) s

/-- R367, R387: a whole message received over a link: for this device, into the ring its Side select names; a reply or event into
the outbound ring; otherwise onward. A message received before is discarded. -/
def HostRegion.relayIn (h : HostRegion) (dst sel src id : Nat) (bytes : List Byte) : HostRegion :=
  let seen := Sparse.get (fun _ => []) h.seenMsgs src
  if dst = h.get F.HP_ID_DEVID then
    if seen.contains id then h
    else
      let m := msgOf bytes
      let dest := if m.flags % 4 ≠ 0 then RelayDest.outbound
        else if sel = 0 then .inbound .s0 else if sel = 1 then .inbound .s1 else if sel = 2 then .twinInbound else .inbound .s0
      { h with
        seenMsgs := Sparse.set (fun _ => []) h.seenMsgs src ((id :: seen).take 256)
        relay := h.relay ++ [{ dest := dest, bytes := bytes, src := src, sel := sel, id := id, via := none }] }
  else { h with relay := h.relay ++ [{ dest := .route dst, bytes := bytes, src := src, sel := sel, id := id, via := none }] }

/-! ### The outbound doorbell -/

/-- Table PW-3: the reply of SYS RESET_SIDE is out: Side `t` is reset, by its own firmware or by its partner's. -/
def State.replyOut (s : State) (sd : SideId) (m : OutMsg) : State :=
  match m.reset with
  | some t => s.resetSide t (if t = sd then 3 else 4)
  | none => s

/-- R383, R384, R414: firmware of Side `sd` puts the oldest message it holds into the slot that `v` names and rings. A reply to a
relayed request goes to the relay instead. -/
def State.outboundDoorbell (s : State) (sd : SideId) (v : Nat) : State :=
  let x := s.side sd
  let n := sd.num
  let h := if s.host.held then s.host else s.host.set (F.HP_MB_OUT_DB_IDX n) v
  match x.fw.outQ with
  | [] => s
  | m :: rest =>
    if h.held || !x.alive then s
    else
      let taken := ({ x with fw := { x.fw with outQ := rest } } : Side).lossEvent
      let bytes := m.msg.bytesOf (h.get F.HP_ID_DEVID) n
      match m.via with
      | some d => if h.routeFull d then s else ({ s.setSide sd taken with host := s.host.relayOut d n bytes } : State).replyOut sd m
      | none =>
        if v ≠ h.get (prodFld n true) then { s with host := h.refuse n 2 }
        else if !h.flag (if n = 0 then F.HP_MB_CTRL_OUT_EN0 else F.HP_MB_CTRL_OUT_EN1) then { s with host := h.refuse n 3 }
        else if h.ringFull n true then { s with host := h.refuse n 1 }
        else
          let h := ((h.putBytes (ringBase n true + 4096 * (v % 64)) bytes).produce n true).pulse (16 + 8 * n)
          ({ s.setSide sd taken with host := h.attention n x.fw m } : State).replyOut sd m

/-! ### The boot flash master -/

/-- The code of a requester (R390). -/
def flashUser (u : FlashUser) : Nat :=
  match u with
  | .side sd => flashCode sd
  | .host => 3

/-- Whether a requester can reach the master. -/
def State.flashReach (s : State) (u : FlashUser) : Bool :=
  match u with
  | .side sd => !s.host.held && (s.side sd).alive
  | .host => s.host.open

/-- R390: a write of `v` to HP_BF_OWN.OWNER by the requester of code `c`. -/
def HostRegion.writeOwner (h : HostRegion) (c v : Nat) : HostRegion :=
  let o := h.get F.HP_BF_OWN_OWNER
  if o = 0 ∧ v = c then h.set F.HP_BF_OWN_OWNER c
  else if o = c ∧ v = 0 then h.set F.HP_BF_OWN_OWNER 0
  else h

/-- R391: a write of 1 to HP_BF_GO by the requester of code `c`. -/
def HostRegion.flashGo (h : HostRegion) (c : Nat) : HostRegion :=
  let h := h.set F.HP_BF_GO_GO 1
  if h.get F.HP_BF_OWN_OWNER = c ∧ !h.flag F.HP_BF_STAT_BUSY ∧ h.get F.HP_BF_CMD_LEN ≤ 256 then h.set F.HP_BF_STAT_BUSY 1
  else h.set F.HP_BF_STAT_ERR 1

/-- R391: the end of a command; a read has brought `data`. -/
def HostRegion.flashDone (h : HostRegion) (data : List Byte) : HostRegion :=
  if h.held || !h.flag F.HP_BF_STAT_BUSY then h
  else
    let n := min data.length (h.get F.HP_BF_CMD_LEN)
    let word := fun (h : HostRegion) i =>
      let k := F.HP_BF_DATA_DATA i
      let new := (data.take n).drop (4 * i) |>.take 4
      h.set k (leVal (new ++ (leBytes 4 (h.get k)).drop new.length))
    let h := if h.flag F.HP_BF_CMD_DIR then h else (List.range ((n + 3) / 4)).foldl word h
    let h := ((h.set F.HP_BF_STAT_BUSY 0).set F.HP_BF_STAT_DONE 1).pulse 7
    if h.flashDrop then { h.set F.HP_BF_OWN_OWNER 0 with flashDrop := false } else h

/-! ### Resets -/

/-- The fields that a port-domain reset leaves: the Seam block, HP_ID, HP_STRAP (R401), and the flash master's owner and running
command where the host does not own it (R390). -/
def keepsPort (h : HostRegion) (key : Nat) : Bool :=
  let off := key / 32
  decide (off / 0x10000 = 0x101) || decide (off = 0x1000000 ∨ off = 0x1000004) ||
    (decide (key = F.HP_BF_OWN_OWNER.key) && (decide (h.get F.HP_BF_OWN_OWNER ≠ 3) || h.flag F.HP_BF_STAT_BUSY)) ||
    decide (key = F.HP_BF_STAT_BUSY.key)

/-- R373, R19, R20, R384, R400, R401: a reset of the port domain. -/
def HostRegion.portReset (h : HostRegion) : HostRegion :=
  if h.held then h
  else
    { HostRegion.reset with
      regs := h.regs.filter (fun p => keepsPort h p.1), msis := h.msis
      flashDrop := h.flashDrop || (decide (h.get F.HP_BF_OWN_OWNER = 3) && h.flag F.HP_BF_STAT_BUSY) }

/-- R468, R221: power-on reset of the host region. -/
def HostRegion.powerReset (h : HostRegion) : HostRegion := { HostRegion.reset with held := true, msis := h.msis }

/-- R468, R371: the release, which samples HOSTSEL and DEVID. -/
def HostRegion.powerRelease (h : HostRegion) (hostsel : Bool) (devid : Nat) : HostRegion :=
  if h.held then
    ({ HostRegion.reset with msis := h.msis } : HostRegion).set F.HP_STRAP_HOSTSEL hostsel.toNat |>.set F.HP_ID_DEVID devid
  else h

/-! ### The commands -/

/-- INBOUND_SLOT_WRITE (R381): bytes from `off` of slot `slot` of Side `sd`'s inbound ring. -/
def execInboundSlotWrite (sd : SideId) (slot : Fin 64) (off : Fin 4096) (data : List Byte) (s : State) : Answer :=
  s.hostWrite (fun h => h.slotWrite sd.num slot.val off.val (data.take (4096 - off.val)))

/-- TWIN_POST_WRITE (R206). -/
def execTwinPostWrite (slot : Fin 64) (off : Fin 4096) (data : List Byte) (s : State) : Answer :=
  s.hostWrite (fun h => h.twinWrite slot.val off.val (data.take (4096 - off.val)))

/-- INBOUND_DOORBELL (R382). -/
def execInboundDoorbell (sd : SideId) (v : Fin 128) (s : State) : Answer := s.hostWrite (fun h => h.inboundDoorbell sd.num v.val)

/-- OUTBOUND_DOORBELL (R383). -/
def execOutboundDoorbell (sd : SideId) (v : Fin 128) (s : State) : Answer := s.answer (s.outboundDoorbell sd v.val)

/-- OUTBOUND_CONSUMER_WRITE (R383). -/
def execOutboundConsumerWrite (sd : SideId) (v : Fin 128) (s : State) : Answer :=
  s.hostWrite (fun h => h.writeCons sd.num v.val)

/-- TWIN_DOORBELL (R207). -/
def execTwinDoorbell (v : Fin 128) (s : State) : Answer := s.hostWrite (fun h => h.twinDoorbell v.val)

/-- RELAY_INSERT (R387). -/
def execRelayInsert (s : State) : Answer := s.answer s.relayInsert

/-- RELAY_HOLD_TIMEOUT (R389): 1,000 ms have passed for the oldest message held for device `d`. -/
def execRelayHoldTimeout (d : Fin 64) (s : State) : Answer := s.answer (s.relayTimeout d.val)

/-- BOOT_FLASH_CLAIM (R390). -/
def execBootFlashClaim (u : FlashUser) (s : State) : Answer :=
  if s.flashReach u then s.answer (s.onHost (fun h => h.writeOwner (flashUser u) (flashUser u))) else .next s

/-- BOOT_FLASH_RELEASE (R390). -/
def execBootFlashRelease (u : FlashUser) (s : State) : Answer :=
  if s.flashReach u then s.answer (s.onHost (fun h => h.writeOwner (flashUser u) 0)) else .next s

/-- BOOT_FLASH_GO (R391). -/
def execBootFlashGo (u : FlashUser) (s : State) : Answer :=
  if s.flashReach u then s.answer (s.onHost (fun h => h.flashGo (flashUser u))) else .next s

/-- BOOT_FLASH_COMMAND_DONE (R391). -/
def execBootFlashCommandDone (data : List Byte) (s : State) : Answer := s.answer (s.onHost (fun h => h.flashDone data))

/-- PORT_DOMAIN_RESET (R20). -/
def execPortDomainReset (s : State) : Answer := s.answer (s.onHost HostRegion.portReset)

/-- HOST_POWER_ON_RESET (R468). -/
def execHostPowerOnReset (s : State) : Answer := s.answer (s.onHost HostRegion.powerReset)

/-- HOST_RESET_RELEASE (R468): 1 ms after the later of HPOR_N and the supply's return. -/
def execHostResetRelease (hostsel : Bool) (devid : Fin 64) (s : State) : Answer :=
  s.answer (s.onHost (fun h => h.powerRelease hostsel devid.val))

/-- PCIE_D3HOT_ENTRY (R376). -/
def execPcieD3hotEntry (s : State) : Answer :=
  s.answer (s.onHost (fun h => if h.held || h.flag F.HP_STRAP_HOSTSEL then h else { h with d3hot := true }))

/-- PCIE_UNSUPPORTED_REQUEST (R375): an I/O, locked or configuration type 1 request. -/
def execPcieUnsupportedRequest (s : State) : Answer :=
  s.answer (s.onHost (fun h => if h.held || h.flag F.HP_STRAP_HOSTSEL then h else { h with lastStatus := 1 }))

/-- PCIE_CONFIG_WRITE (R421): Bus Master Enable, MSI enable and the return to D0. -/
def execPcieConfigWrite (bme msi d0 : Bool) (s : State) : Answer :=
  s.answer (s.onHost (fun h =>
    if h.held || h.flag F.HP_STRAP_HOSTSEL then h
    else { (h.set F.HP_PCIE_BME bme.toNat).set F.HP_PCIE_MSI_EN msi.toNat with d3hot := h.d3hot && !d0 }))

/-- PCIE_LINK_DOWN (R436): the link goes down, or comes back at a speed (1 to 4) and a width (1, 2 or 4). -/
def execPcieLinkDown (link : Option (Fin 4 × Fin 3)) (s : State) : Answer :=
  s.answer (s.onHost (fun h =>
    if h.held || h.flag F.HP_STRAP_HOSTSEL then h
    else
      match link with
      | some p => (h.set F.HP_PCIE_SPEED (p.1.val + 1)).set F.HP_PCIE_WIDTH (2 ^ p.2.val)
      | none => ((h.set F.HP_PCIE_SPEED 0).set F.HP_PCIE_WIDTH 0).set F.HP_PCIE_IN_L1 0))

/-! ### The Collectors' commands -/

/-- The host Collector sources whose condition the model holds: they follow it and take no other input. -/
def modelledSource (k : Nat) : Bool := levelSources.contains k

/-- COLLECTOR_SOURCE_TRIGGER (R393): the input of a source rises and falls so often within one Collector cycle and then
stands at `level`. -/
def execCollectorSourceTrigger (c : ColId) (k : Fin 256) (rises falls : Nat) (level : Bool) (s : State) : Answer :=
  if k.val = 0 then .next s
  else
    match c with
    | .host =>
      if modelledSource k.val || !(levelSources.contains k.val || pulseSource k.val) then .next s
      else s.answer (s.onHost (fun h => h.input k.val rises falls level))
    | .dorden sd =>
      if k.val < 128 then s.go sd (fun x => if x.alive then { x with col := x.col.input false k.val rises falls level } else x)
      else .next s

/-- COLLECTOR_RATE_WINDOW_END (R399). -/
def execCollectorRateWindowEnd (c : ColId) (s : State) : Answer :=
  match c with
  | .host => s.answer (s.onHost (fun h => if h.held then h else { h with col := h.col.window true }))
  | .dorden sd => s.go sd (fun x => { x with col := x.col.window false })

/-- R396: a read of HP_CLAIM. -/
def HostRegion.claim (h : HostRegion) : HostRegion :=
  let r := h.col.claim true
  ({ h with col := r.1, lastRead := leBytes 4 r.2, lastStatus := 0 } : HostRegion).updateReq false

/-- R397: a write of HP_EOI. -/
def HostRegion.endOfInterrupt (h : HostRegion) (v : Nat) : HostRegion :=
  ({ h.set F.HP_EOI_SOURCE v with col := h.col.eoi true v } : HostRegion).updateReq (!h.col.stack.isEmpty)

/-- COLLECTOR_CLAIM (R396). -/
def execCollectorClaim (c : ColId) (s : State) : Answer :=
  match c with
  | .host => s.hostWrite HostRegion.claim
  | .dorden sd => s.go sd (fun x => if x.alive then { x with col := (x.col.claim false).1 } else x)

/-- COLLECTOR_EOI (R397). -/
def execCollectorEoi (c : ColId) (v : BitVec 8) (s : State) : Answer :=
  match c with
  | .host => s.hostWrite (fun h => h.endOfInterrupt v.toNat)
  | .dorden sd => s.go sd (fun x => if x.alive then { x with col := x.col.eoi false v.toNat } else x)

/-- A change of a source's configuration. -/
def State.configSource (s : State) (c : ColId) (k : Nat) (f : ColSrc → ColSrc) : Answer :=
  if k = 0 then .next s
  else
    match c with
    | .host => s.hostWrite (fun h => ({ h with col := h.col.put true k (f (h.col.src true k)) } : HostRegion).updateReq false)
    | .dorden sd =>
      s.go sd (fun x => if x.alive && decide (k < 128) then { x with col := x.col.put false k (f (x.col.src false k)) } else x)

/-- COLLECTOR_SENSE_WRITE (R400). -/
def execCollectorSenseWrite (c : ColId) (k : Fin 256) (sense : Fin 8) (s : State) : Answer :=
  s.configSource c k.val (fun x => x.setSense sense.val)

/-- COLLECTOR_CLEAR_COALESCED (R400). -/
def execCollectorClearCoalesced (c : ColId) (k : Fin 256) (s : State) : Answer :=
  s.configSource c k.val (fun x => { x with coal := 0 })

/-- COLLECTOR_STORM_CLEAR (R399). -/
def execCollectorStormClear (c : ColId) (k : Fin 256) (s : State) : Answer := s.configSource c k.val ColSrc.clearStorm

end Sys2Proof.Machine
end

