-- ==== Sys2Proof/Machine/Net.lean ====
section
/-!
DEFINITION. The network island: Ethernet ports (R342 to R345), PTP (R305, R306, R346, R347), media flows (R348 to R356, R54)
and timed packet release (R357, R358, R198).
-/
namespace Sys2Proof.Machine

open Sys2Proof

/-- Changes the network island. -/
def Side.onNet (sd : Side) (f : Net → Net) : Side := { sd with net := f sd.net }

/-- Changes what firmware keeps for a port. -/
def Side.onPort (sd : Side) (p : Fin 2) (f : NetPort → NetPort) : Side :=
  sd.onNet (fun n => { n with ports := n.ports.set p (f n.ports[p]) })

/-! ### Flow records (Table NW-3) -/

/-- The current record of flow object `i`, and its shadow copy (R350). -/
def flowBase (i : Nat) : Nat := 0x09F80000 + 0x80 * i
def flowShadow (i : Nat) : Nat := 0x09F90000 + 0x80 * i

/-- A word and a field of a record. -/
def Side.flowWord (sd : Side) (i w : Nat) : Nat := (sd.rtWord (flowBase i + 4 * w)).toNat
def Side.flowF (sd : Side) (i w lo len : Nat) : Nat := bitsOf (sd.flowWord i w) lo len
def Side.setFlowWord (sd : Side) (i w v : Nat) : Side := sd.putWord (flowBase i + 4 * w) (BitVec.ofNat 32 v)

/-- Writes a field of a word of a record. -/
def withBits (v lo len x : Nat) : Nat := v - bitsOf v lo len * 2 ^ lo + x % 2 ^ len * 2 ^ lo
def Side.setFlowF (sd : Side) (i w lo len x : Nat) : Side := sd.setFlowWord i w (withBits (sd.flowWord i w) lo len x)
def Side.incFlow (sd : Side) (i w lo len : Nat) (sat : Bool) : Side :=
  let v := sd.flowF i w lo len + 1
  sd.setFlowF i w lo len (if sat then min v (2 ^ len - 1) else v)

/-- The fields that the meanings use. -/
def Side.flowOn (sd : Side) (i : Nat) : Bool := decide (sd.flowF i 0 0 1 = 1)
def Side.flowFormat (sd : Side) (i : Nat) : Nat := sd.flowF i 0 2 2
def Side.flowLegs (sd : Side) (i : Nat) : Nat := sd.flowF i 0 4 2
def Side.flowChannels (sd : Side) (i : Nat) : Nat := sd.flowF i 0 6 6 + 1
def Side.flowP (sd : Side) (i : Nat) : Nat := sd.flowF i 1 0 10
def Side.flowO (sd : Side) (i : Nat) : Nat := sd.flowF i 1 16 11
def Side.flowOMax (sd : Side) (i : Nat) : Nat := sd.flowF i 2 0 11
def Side.flowMask (sd : Side) (i : Nat) : Nat := sd.flowWord i 13 + 2 ^ 32 * sd.flowWord i 14

/-- Bytes of a sample by FORMAT: L16, L24, AM824 (R349). -/
def sampleBytes (f : Nat) : Nat := [2, 3, 4].getD f 4

/-- The fields marked Take in word `w` of flow object `i`, as a mask. -/
def takeMask (i w : Nat) : Nat :=
  match w with
  | 0 => if 128 ≤ i then 0x3F * 2 ^ 19 else 0
  | 1 => if i < 128 then 0x7FF * 2 ^ 16 else 0
  | 8 => 7 * 2 ^ 12
  | 12 => 7 * 2 ^ 12
  | 13 => 0xFFFFFFFF
  | 14 => 0xFFFFFFFF
  | _ => 0

/-- The fields marked Start in word `w` of flow object `i`, as a mask. -/
def startMask (i w : Nat) : Nat :=
  match w with
  | 0 => 0x7FFFC
  | 1 => if i < 128 then 0x3FF else 0x3FF + 0x7FF * 2 ^ 16
  | 2 => if i < 128 then 0x7FF else 0
  | 8 => 0x8FFF
  | 12 => 0x8FFF
  | _ => if w < 12 then 0xFFFFFFFF else 0

/-- R356: the shadow of flow object `i` becomes current. -/
def Side.takeFlow (sd : Side) (i : Nat) : Side :=
  [0, 1, 8, 12, 13, 14].foldl (fun (x : Side) w =>
    x.setFlowWord i w (mergeMask (x.flowWord i w) (x.rtWord (flowShadow i + 4 * w)).toNat (takeMask i w))) sd

/-- The flow objects that are enabled, by their records in memory, ascending, from `lo` up to `hi`. -/
def Side.flowsOn (sd : Side) (lo hi : Nat) : List Nat :=
  sd.mem.filterMap (fun c =>
    if 0x09F80000 ≤ c.1 ∧ c.1 < 0x09F88000 ∧ c.1 % 128 = 0 ∧ c.2.toNat % 2 = 1 then
      let i := (c.1 - 0x09F80000) / 128
      if lo ≤ i ∧ i < hi then some i else none
    else none)

/-! ### Egress -/

/-- The line rate of a RATE code in bits per second (Table CK-5). -/
def lineRate (code : Nat) : Nat := [0, 1000000000, 10000000000, 25000000000].getD code 0

/-- The media traffic of a port in bits per second, headers included: RTP 12, UDP 8, IPv4 20, Ethernet 14 and 4, and 4 for a tag (log
entry 56); rounded up for each flow. -/
def Side.mediaLoad (sd : Side) (p : Nat) (flows : List Nat) : Nat :=
  ((flows.filter (fun i => (sd.flowLegs i).testBit p)).map (fun i =>
    let bytes := sd.flowChannels i * sd.flowP i * sampleBytes (sd.flowFormat i) + 58 + (if sd.flowF i (if p = 0 then 8 else 12) 15 1 = 1 then 4 else 0)
    (8 * bytes * rateHz sd.rate + sd.flowP i - 1) / sd.flowP i)).sum

/-- Table NW-1, R352: the idleSlope of a port's media shaper in bits per second: 110% of its media rate. -/
def Side.idleSlope (sd : Side) (p : Nat) : Nat := sd.mediaLoad p (sd.flowsOn 128 256) * 110 / 100

/-- R352: the credit of a port's media shaper as it stands when the counter reads `t`: it grows by the idleSlope, and beyond zero only while
media frames wait (IEEE 802.1Qav; log entry 131). -/
def Side.shape (sd : Side) (p : Fin 2) (t : Nat) : Side :=
  let n := sd.net.ports[p]
  let c := n.credit + (sd.idleSlope p * (t - n.creditAt) : Nat)
  sd.onPort p (fun n =>
    { n with credit := if (sd.net.txq[p]).any (fun f => f.kind = 1) then c else min c 0, creditAt := max t n.creditAt })

/-- The bits of a media frame on the line, with its preamble and the gap after it (IEEE 802.3; log entry 131). -/
def TxFrame.lineBits (f : TxFrame) : Nat := 8 * (max 64 (f.payload.length + 46 + 4 * (f.vlan / 2 ^ 15 % 2)) + 20)

/-- R352: a media frame leaves: the credit falls by the rate that idleSlope leaves of the line's, as long as the frame lasts. -/
def Side.shaped (sd : Side) (p : Fin 2) (f : TxFrame) : Side :=
  let r := lineRate (sd.get (F.NW_PORT_RATE p))
  let d := (f.lineBits * secUnits + r - 1) / max 1 r
  sd.onPort p (fun n => { n with credit := n.credit - ((r : Int) - sd.idleSlope p) * d, creditAt := n.creditAt + d })

/-- R344: a frame that a port which is down discards; a transmit leg's packet is counted. -/
def Side.dropTx (sd : Side) (p : Fin 2) (f : TxFrame) : Side :=
  if f.kind = 1 then (sd.incSat (F.NW_PORT_TX_DROP p)).incFlow f.ref 17 0 16 true else sd

/-- A frame joins a port's queues, a media packet at the boundary; one of a port that is down is discarded (R344). -/
def Side.queueTx (sd : Side) (p : Fin 2) (f : TxFrame) : Side :=
  if sd.flag (F.NW_PORT_UP p) then
    let sd := if f.kind = 1 then sd.shape p sd.rowStart else sd
    sd.onNet (fun n => { n with txq := n.txq.set p (n.txq[p] ++ [f]) })
  else sd.dropTx p f

/-- A control frame of the port's own. -/
def ctrlFrame (kind ref dst mac : Nat) (payload : List Byte) : TxFrame :=
  { queue := 1, kind := kind, ref := ref, stamp := 0, dst := dst, src := 0, dport := 0, sport := 0, dscp := 0, ttl := 0, vlan := 0
    mac := mac, payload := payload }

/-- R345: the modes in which a port sends PTP, ARP and ICMP replies; R346: the port is never a master. -/
def Side.answers (sd : Side) : Bool := decide (sd.mode = .ready ∨ sd.mode = .solo ∨ sd.mode = .lead)

/-- A reply or request of firmware, where the mode lets it be sent. -/
def Side.sendCtrl (sd : Side) (p : Fin 2) (f : TxFrame) : Side := if sd.answers then sd.queueTx p f else sd

/-- R357: the MAC address of a group or of the broadcast address; none for a unicast one. -/
def groupMac (ip : Nat) : Option Nat :=
  if ip = 0xFFFFFFFF then some 0xFFFFFFFFFFFF
  else if ip / 2 ^ 28 = 14 then some (0x01005E000000 + ip % 2 ^ 23)
  else none

/-- The next hop to a unicast address from port `p`. -/
def Side.nextHop (sd : Side) (p : Fin 2) (ip : Nat) : Nat :=
  let n := sd.net.ports[p]
  if ip &&& n.netmask = n.addr &&& n.netmask then ip else n.gateway

/-- The MAC address that firmware has resolved for an address. -/
def Side.resolve (sd : Side) (ip : Nat) : Option Nat :=
  match groupMac ip with
  | some m => some m
  | none => (sd.net.arp.find? (fun e => e.1 = ip)).map Prod.snd

/-- The one's-complement checksum of 16-bit words (IPv4, UDP). -/
def ipSum (ws : List Nat) : Nat :=
  let s := ws.foldl (· + ·) 0
  let s := s % 65536 + s / 65536
  let s := s % 65536 + s / 65536
  65535 - s

/-- The big-endian 16-bit words of bytes. -/
def words16 : List Byte → List Nat
  | [] => []
  | [a] => [a.toNat * 256]
  | a :: b :: rest => (a.toNat * 256 + b.toNat) :: words16 rest

/-- R357: the Ethernet, IPv4 and UDP headers and the payload of a release or media packet; `ident` is the word that holds the
identification and the flags. -/
def TxFrame.wire (f : TxFrame) (own ident : Nat) : List Byte :=
  let len := f.payload.length
  let ip0 := [0x4500 + f.dscp * 4, 28 + len, ident / 65536, ident % 65536, f.ttl * 256 + 17, 0, f.src / 65536, f.src % 65536,
    f.dst / 65536, f.dst % 65536]
  let udp0 := [f.sport, f.dport, 8 + len, 0]
  let pseudo := [f.src / 65536, f.src % 65536, f.dst / 65536, f.dst % 65536, 17, 8 + len]
  let c := ipSum (pseudo ++ udp0 ++ words16 f.payload)
  let tag := if f.vlan / 2 ^ 15 % 2 = 1 then beBytes 2 0x8100 ++ beBytes 2 (f.vlan / 4096 % 8 * 8192 + f.vlan % 4096) else []
  beBytes 6 f.mac ++ beBytes 6 own ++ tag ++ beBytes 2 0x0800 ++ (ip0.set 5 (ipSum ip0)).flatMap (beBytes 2) ++
    (udp0.set 3 (if c = 0 then 65535 else c)).flatMap (beBytes 2) ++ f.payload

/-! ### Packet buffers (Table NW-4) -/

/-- A packet buffer. -/
def bufBase (b : Nat) : Nat := 0x09C00000 + 0x600 * b

/-- A value of a buffer. -/
def Side.bufVal (sd : Side) (b off n : Nat) : Nat := leVal ((List.range n).map (fun i => sd.rtByte (bufBase b + off + i)))
def Side.setBuf (sd : Side) (b off n v : Nat) : Side := sd.putBytes (bufBase b + off) (leBytes n v)

/-- R358: a release of buffer `b` fails with a cause (1 port down, 2 MAC unresolved). -/
def Side.releaseFail (sd : Side) (b cause : Nat) : Side :=
  let st := withBits (withBits (sd.bufVal b 0x0E 2) 1 2 2) 4 4 cause
  ((sd.setBuf b 0x0E 2 st).set F.NW_STAT_REL_FAIL 1).raise 0x0018 b (leBytes 1 cause)

/-- R198, R357: the release of buffer `b` on port `p` at the boundary of `row`. -/
def Side.release (sd : Side) (p : Fin 2) (b row : Nat) : Side :=
  let sd := sd.setBuf b 0x018 8 row
  let dst := sd.bufVal b 0 4
  let mac := match groupMac dst with
    | some m => some m
    | none => if sd.bufVal b 0x0E 2 % 2 = 1 then some (Sparse.get (fun _ => 0) sd.net.macs b) else none
  if !sd.flag (F.NW_PORT_UP p) then sd.releaseFail b 1
  else
    match mac with
    | none => sd.releaseFail b 2
    | some m =>
      let len := sd.bufVal b 0x0C 2
      sd.queueTx p
        { queue := 0, kind := 0, ref := b, stamp := row, dst := dst, src := (sd.net.ports[p]).addr, dport := sd.bufVal b 4 2
          sport := sd.bufVal b 6 2, dscp := sd.bufVal b 8 1 % 64, ttl := sd.bufVal b 9 1, vlan := sd.bufVal b 0x0A 2, mac := m
          payload := (List.range (min len 1472)).map (fun i => sd.rtByte (bufBase b + 0x40 + i)) }

/-- Puts a release into slot order, after those of its slot (R358). -/
def insertRelease (r : Release) : List Release → List Release
  | [] => [r]
  | x :: rest => if r.slot < x.slot then r :: x :: rest else x :: insertRelease r rest

/-- R198, R358: the releases due at the boundary of `row`; a Side in Follow or Rework releases nothing. -/
def Side.releasesDue (sd : Side) (row : Nat) : Side :=
  let due := (sd.takes.releases.filter (fun r => decide (r.row = row))).foldl (fun l r => insertRelease r l) []
  let sd := { sd with takes := { sd.takes with releases := sd.takes.releases.filter (fun r => decide (r.row ≠ row)) } }
  if sd.mode = .solo ∨ sd.mode = .lead then
    due.foldl (fun (x : Side) r => x.release (if r.port = 0 then 0 else 1) r.buffer row) sd
  else sd

/-- R357: a MAC address is resolved: the ARP table and the buffers addressed through it. -/
def Side.learnMac (sd : Side) (ip mac : Nat) : Side :=
  let sd := sd.onNet (fun n => { n with arp := (ip, mac) :: n.arp.filter (fun e => e.1 ≠ ip) })
  (List.range 256).foldl (fun (x : Side) b =>
    let dst := x.bufVal b 0 4
    if dst ≠ 0 ∧ (groupMac dst).isNone ∧ (x.nextHop 0 dst = ip ∨ x.nextHop 1 dst = ip) then
      (x.setBuf b 0x0E 2 (withBits (x.bufVal b 0x0E 2) 0 1 1)).onNet (fun n => { n with macs := Sparse.set (fun _ => 0) n.macs b mac })
    else x) sd

/-- R357: firmware asks for the MAC address of a buffer's destination on both ports. -/
def Side.askMac (sd : Side) (b : Nat) : Side :=
  let dst := sd.bufVal b 0 4
  if (groupMac dst).isSome then sd
  else
    let ask := fun (x : Side) (p : Fin 2) => x.sendCtrl p (ctrlFrame 6 b (x.nextHop p dst) 0xFFFFFFFFFFFF [])
    ask (ask sd 0) 1

/-- R357: NET BUFFER writes buffer `b`: header bytes 0x000 to 0x00F but STATUS, and the payload; its address is resolved. -/
def Side.writeBuffer (sd : Side) (b : Nat) (head payload : List Byte) : Side :=
  let sd := ((sd.putBytes (bufBase b) (head.take 14)).setBuf b 0x0E 2 0).putBytes (bufBase b + 0x40) payload
  let dst := sd.bufVal b 0 4
  let hop := if (sd.resolve (sd.nextHop 0 dst)).isSome then sd.nextHop 0 dst else sd.nextHop 1 dst
  match (groupMac dst).orElse (fun _ => sd.resolve hop) with
  | some m => (sd.setBuf b 0x0E 2 1).onNet (fun n => { n with macs := Sparse.set (fun _ => 0) n.macs b m })
  | none => sd.askMac b

/-- R357: the buffers that ARMED Cues name. -/
def Side.armedBuffers (sd : Side) : List Nat :=
  (List.range 128).flatMap (fun n =>
    if sd.get (F.TK_CUE_STATE n) = 2 then
      (List.range (min (sd.get (F.TK_CUE_PKTS n)) 4)).map (fun p => leVal (sd.bytes (cueBase n + 0x80 + 16 * p) 2))
    else [])

/-- R357: the refresh of those buffers' addresses. -/
def Side.arpRefresh (sd : Side) : Side := sd.armedBuffers.foldl (fun (x : Side) b => if b < 256 then x.askMac b else x) sd

/-! ### Transmit flows -/

/-- R351: the byte that opens an AM824 sample: block start, frame start, parity, C, U and V as ST 2110-31 lays them down
(PRESUMED, log entry 37). -/
def am824Flags (v : BitVec 24) (first : Bool) (chan : Nat) (c : Bool) : Nat :=
  let ones := ((List.range 24).filter (fun i => v.getLsbD i)).length + c.toNat
  32 * first.toNat + 16 * (decide (chan % 2 = 0)).toNat + 8 * (ones % 2) + 4 * c.toNat

/-- R351: a sample in the payload of flow `i`. -/
def Side.flowSample (sd : Side) (i ts chan : Nat) (v : BitVec 24) : List Byte :=
  match sd.flowFormat i with
  | 0 => beBytes 2 (slotBits 16 v).1
  | 1 => beBytes 3 v.toNat
  | _ =>
    let block := Sparse.get (fun _ => []) sd.net.chStatus i
    let c := (block.getD (ts % 192 / 8) 0).getLsbD (ts % 8)
    beBytes 1 (am824Flags v (decide (ts % 192 = 0)) chan c) ++ beBytes 3 v.toNat

/-- The sample of channel `chan` of transmit flow `f` that carries timestamp `ts`. -/
def Side.flowValue (sd : Side) (f ts chan : Nat) : BitVec 24 :=
  Sparse.get (fun _ => 0#24) (copyOf sd.net.flowRows ts) (f * 64 + chan)

/-- R351: the RTP packet of flow object `i` for `s`. -/
def Side.rtpPacket (sd : Side) (i s : Nat) : List Byte :=
  let p := sd.flowP i
  [0x80, BitVec.ofNat 8 (sd.flowF i 0 12 7)] ++ beBytes 2 (s / p) ++ beBytes 4 s ++ beBytes 4 (sd.flowWord i 3) ++
    (List.range p).flatMap (fun k => (List.range (sd.flowChannels i)).flatMap (fun c =>
      sd.flowSample i (s + k) c (sd.flowValue (i - 128) (s + k) c)))

/-- The mode by which the Side sends the packet of timestamp `s`: the one it had in that row, where a Cable or Blend cable came after it
(R230). -/
def Side.flowMode (sd : Side) (s : Nat) : Mode :=
  match sd.twin.cable with
  | some c => if s < c.1 && decide (sd.mode = .lead ∨ sd.mode = .follow ∨ sd.mode = .rework) then c.2 else sd.mode
  | none => sd.mode

/-- The legs that the Side sends of a transmit flow for timestamp `s` (R204, R230, Table NW-2, R473): in Solo and Lead leg A, and leg B while
no Follow is in step; in a Follow leg B while in step. A flow of one leg is sent by the Lead alone. -/
def Side.sendsLeg (sd : Side) (i s : Nat) (legB partnerIn : Bool) : Bool :=
  let legs := sd.flowLegs i
  let then' := sd.flowMode s
  let partner := if then' = sd.mode then partnerIn else decide (sd.mode = .follow)
  legs.testBit legB.toNat &&
    (match then' with
    | .solo => true
    | .ready => true
    | .lead => !legB || decide (legs ≠ 3) || !partner
    | .follow => legB && decide (legs = 3) && (sd.inStep || decide (then' ≠ sd.mode))
    | _ => false)

/-- A packet of flow `i` for `s` on a leg. -/
def Side.flowFrame (sd : Side) (i s : Nat) (legB : Bool) (rtp : List Byte) : TxFrame :=
  let b := if legB then 9 else 5
  let hop := sd.nextHop (if legB then 1 else 0) (sd.flowWord i b)
  { queue := 2, kind := 1, ref := i, stamp := s, dst := sd.flowWord i b, src := sd.flowWord i (b + 1), dport := sd.flowF i (b + 2) 0 16
    sport := sd.flowF i (b + 2) 16 16, dscp := sd.flowF i 0 19 6, ttl := (Config.mediaIp i).1 % 256, vlan := sd.flowF i (b + 3) 0 16
    mac := ((groupMac (sd.flowWord i b)).orElse (fun _ => sd.resolve hop)).getD 0, payload := rtp }

/-- R351, R352, R355: at the boundary of `row`, flow object `i` queues the packet due then on its legs. After a Bind-off at row B
the last is the one that holds B + 1 (R473). -/
def Side.queueFlow (sd : Side) (row : Nat) (partnerIn : Bool) (i : Nat) : Side :=
  let p := sd.flowP i
  let back := p + sd.flowF i 1 16 11
  let last := sd.get64 F.PW_MODE_ROW_LO F.PW_MODE_ROW_HI + 1
  let s := row + 1 - back
  if p = 0 ∨ row + 1 < back ∨ s % p ≠ 0 then sd
  else if sd.mode = .ready ∧ (sd.get F.PW_MODE_PREV < 6 ∨ last < s) then sd
  else
    let rtp := sd.rtpPacket i s
    let leg := fun (x : Side) (b : Bool) =>
      if x.sendsLeg i s b partnerIn then x.queueTx (if b then 1 else 0) (x.flowFrame i s b rtp) else x
    leg (leg sd false) true

/-- R352: firmware publishes WORST_TX. -/
def Side.publishWorst (sd : Side) : Side :=
  let load := fun (p : Nat) => (sd.flowsOn 128 256).filterMap (fun i =>
    if (sd.flowLegs i).testBit p then
      some (sd.flowChannels i * sd.flowP i * sampleBytes (sd.flowFormat i) + 12, sd.flowP i, sd.flowF i 1 16 11)
    else none)
  let put := fun (x : Side) (p : Nat) =>
    x.set (F.NW_PORT_WORST_TX p) (Config.worstTx (x.get (F.NW_PORT_RATE p)) (x.flag (F.NW_PORT_FEC p)) (load p))
  put (put sd 0) 1

/-! ### Receive flows -/

/-- The 64-bit row nearest `row` whose low 32 bits are `t` (R353). -/
def nearestRow (row t : Nat) : Nat := shiftRow (toSigned 32 (t + 2 ^ 32 - row % 2 ^ 32)) row

/-- R353: a received sample of a FORMAT from its bytes. -/
def recvSample (f : Nat) (b : List Byte) : BitVec 24 :=
  match f with
  | 0 => BitVec.ofNat 24 (beVal (b.take 2) * 256)
  | 1 => BitVec.ofNat 24 (beVal (b.take 3))
  | _ => BitVec.ofNat 24 (beVal ((b.drop 1).take 3))

/-- Whether a packet taken before gives the samples of flow `f` for row `r` (origin row + P). -/
def Net.have (n : Net) (f r p : Nat) : Bool := n.got.any (fun g => decide (g.1 = f ∧ g.2 ≤ r ∧ r < g.2 + p))

/-- R353, R354, R54: a packet of receive flow `f` with RTP timestamp `ts` arrives on a leg. -/
def Side.takeMedia (sd : Side) (f : Nat) (legB : Bool) (ts : Nat) (payload : List Byte) : Side :=
  let p := sd.flowP f
  let o := nearestRow sd.row ((ts + 2 ^ 32 - sd.flowWord f 4) % 2 ^ 32)
  let sd := (sd.incFlow f (if legB then 16 else 15) 0 32 false).setFlowWord f 19 ts
  if sd.row + 2 * p + sd.flowOMax f < o ∧ o < sd.row + 2 ^ 32 then sd.incFlow f 18 0 16 true
  else
    let r := shiftRow p o
    let n := sd.flowChannels f
    let b := sampleBytes (sd.flowFormat f)
    let inTime := fun k => decide (sd.row ≤ r + k + sd.flowO f)
    let sd := if (List.range p).all inTime then sd else sd.incFlow f 17 16 16 true
    let ks := (List.range p).filter (fun k => inTime k && !sd.net.have f (r + k) p)
    let put := fun (m : Sparse (BitVec 24)) (k : Nat) => (List.range n).foldl (fun (m : Sparse (BitVec 24)) c =>
      Sparse.set (fun _ => 0) m ((r + k) * 65536 + f * 64 + c) (recvSample (sd.flowFormat f) (payload.drop ((k * n + c) * b)))) m
    let sd := { sd with pages := { sd.pages with netIn := ks.foldl put sd.pages.netIn } }
    sd.onNet (fun m => { m with got := (f, r) :: m.got })

/-- R353: the receive flows of a port's leg that a media packet is addressed to take it, or count it in FMT_ERR. -/
def Side.mediaPacket (sd : Side) (p : Fin 2) (dst src dport sport pt ssrc ts : Nat) (payload : List Byte) : Side :=
  let legB := decide (p.val = 1)
  let b := if legB then 9 else 5
  (sd.flowsOn 0 128).foldl (fun (x : Side) f =>
    if (x.flowLegs f).testBit p.val && decide (x.flowWord f b = dst ∧ x.flowF f (b + 2) 0 16 = dport) then
      let any := fun (want got : Nat) => decide (want = 0 ∨ want = got)
      if any (x.flowWord f (b + 1)) src && any (x.flowF f (b + 2) 16 16) sport && any (x.flowF f 0 12 7) pt &&
          any (x.flowWord f 3) ssrc &&
          decide (payload.length = x.flowChannels f * x.flowP f * sampleBytes (x.flowFormat f)) then
        x.takeMedia f legB ts payload
      else x.incFlow f 18 0 16 true
    else x) sd

/-- R354: a packet period of receive flow `f` that starts with input row `m` and that neither leg delivered. -/
def Side.countLost (sd : Side) (m f : Nat) : Side :=
  let p := sd.flowP f
  let r := m - sd.flowO f
  if p ≠ 0 ∧ p + sd.flowO f ≤ m ∧ (r - p + sd.flowWord f 4) % 2 ^ 32 % p = 0 ∧ !sd.net.have f r p then
    sd.incFlow f 17 0 16 true
  else sd

/-- R352 to R356: the channels of input row `m`: of each enabled flow the samples that O places there, zero where CH_MASK is 0. -/
def Side.networkRow (sd : Side) (m : Nat) : Sparse (BitVec 24) :=
  sd.pages.netIn.filterMap (fun e =>
    let i := e.1 % 65536
    if sd.flowOn (i / 64) && decide (e.1 / 65536 + sd.flowO (i / 64) = m) && (sd.flowMask (i / 64)).testBit (i % 64) then some (i, e.2)
    else none)

/-- The samples that no later row can need are forgotten. -/
def Side.pruneNet (sd : Side) (m : Nat) : Side :=
  let sd := { sd with pages := { sd.pages with netIn := sd.pages.netIn.filter (fun e => decide (m < e.1 / 65536 + 2048)) } }
  sd.onNet (fun n => { n with got := n.got.filter (fun g => decide (m < g.2 + 1024 + 2048)) })

/-! ### The row pulse -/

/-- R351: the samples that flows carry with timestamp `row`: what Emit placed in the row before, under CH_MASK. -/
def Side.recordFlows (sd : Side) (row : Nat) : Side :=
  let v := sd.pages.flowOut.filter (fun e => (sd.flowMask (128 + e.1 / 64)).testBit (e.1 % 64))
  sd.onNet (fun n => { n with flowRows := ((row, v) :: n.flowRows).take 2048 })

/-- The network island's share of the row pulse for row `row`: transmit samples (R351), the Take's shadow (R356), the input row
before (R26, R54), the packets due (R352) and the releases (R198). The flag says whether the island acknowledges the
Take. `partnerIn` says that the partner is a Follow in step. -/
def Side.netPulse (sd : Side) (row : Nat) (take : Bool) (unfinished : List Nat) (partnerIn : Bool) : Side × Bool :=
  let prev := (row + 2 ^ 64 - 1) % 2 ^ 64
  if !sd.gateOpen 38 then (((sd.markUnit 37 .idle).markUnit 38 .idle).skip [37, 38], false)
  else
    let sd := sd.transmitMark 38 prev
    let sd := match sd.emittedRow 38 prev with
      | some e => { sd with pages := { sd.pages with flowOut := e.flow } }
      | none => sd
    let sd := sd.recordFlows row
    let sd := if take then (List.range 256).foldl Side.takeFlow sd else sd
    let sd := (sd.flowsOn 0 128).foldl (fun (x : Side) f => x.countLost prev f) sd
    let r := sd.publishInput 37 prev sd.pages.net (sd.networkRow prev)
    let sd := ({ r.1 with pages := { r.1.pages with net := r.2 } } : Side).pruneNet prev
    let sd := (sd.flowsOn 128 256).foldl (fun (x : Side) i => x.queueFlow row partnerIn i) sd
    ((sd.releasesDue row).setUnfinished [37, 38] unfinished, take)

/-! ### PTP -/

/-- A time of the counter in units of 2^−16 ns. -/
def Side.stamp (sd : Side) (t : Nat) : Int := (wrapCounter ((sd.rowStart : Int) + t) * 65536 / 225792 : Nat)

/-- R305: ingress and egress times referred to the MDI. -/
def Side.ingress (sd : Side) (p : Fin 2) (t : Nat) : Int := sd.stamp t - sd.get (F.TM_TSC_ING p)
def Side.egress (sd : Side) (p : Fin 2) (t : Nat) : Int := sd.stamp t + sd.get (F.TM_TSC_EGR p)

/-- A half of a time difference, rounded as the part does (log entry 28). -/
def openHalf (x : Int) : Int := if x % 2 = 1 && Config.roundUp x.toNat 2 then x / 2 + 1 else x / 2

/-- R346: peer-to-peer delay under 802.1AS. -/
def NetPort.p2p (n : NetPort) : Bool := decide (n.profile = 2)

/-- ASYM as a signed value (R306). -/
def Side.asym (sd : Side) (p : Fin 2) : Int := toSigned 32 (sd.get (F.TM_TSC_ASYM p))

/-- Whether one rank comes before another (R347: lexicographic, lower is better). -/
def rankLt : List Nat → List Nat → Bool
  | [], _ => false
  | _ :: _, [] => true
  | a :: as, b :: bs => decide (a < b) || (decide (a = b) && rankLt as bs)

/-- The best foreign master. -/
def NetPort.best (n : NetPort) : Option Foreign :=
  n.foreign.foldl (fun b f =>
    match b with
    | some x => if rankLt f.rank x.rank then some f else b
    | none => some f) none

/-- R347: the candidate of port `p` takes its CLASS, and may lose its qualification by it (R282). -/
def Side.setClass (sd : Side) (peer : Nat) (p : Fin 2) : Side :=
  (sd.set (F.TM_CAND_CLASS p) (((sd.net.ports[p]).best.map Foreign.cls).getD 0xFF)).checkQuals peer

/-- R305: the raw and the referred timestamp of an event message are kept with it: its message type and sequence. -/
def Side.noteStamp (sd : Side) (p : Fin 2) (type seq : Nat) (raw ref : Int) : Side :=
  sd.onPort p (fun n => { n with stamps := ((type, seq, raw, ref) :: n.stamps).take 16 })

/-- R347: a Sync's offset is known: t2 − t1 with its corrections; firmware pushes −offsetFromMaster and asks for the delay. -/
def Side.syncDone (sd : Side) (p : Fin 2) (peer : Nat) (t1 t2 corr freq : Int) (last : Bool) : Side :=
  let n := sd.net.ports[p]
  let c := corr + sd.asym p
  let offset := t2 - t1 - c - n.delay
  let sd := sd.onPort p (fun n => { n with sync := none, syncT := some (t2 - t1, c), ptpSeq := (n.ptpSeq + 1) % 65536 })
  let sd := sd.sendCtrl p (ctrlFrame (if n.p2p then 3 else 2) n.ptpSeq 0 0 [])
  sd.measured peer p.val (-offset) freq last none

/-- R347: a PTP message received `t` units of the counter after the boundary. -/
def Side.ptpReceive (sd : Side) (p : Fin 2) (peer t : Nat) (freq : Int) (last : Bool) (m : PtpMsg) : Side :=
  let n := sd.net.ports[p]
  let t2 := sd.ingress p t
  let heard := fun src => (n.best.map Foreign.source) == some src
  let note := fun (x : Side) type seq => x.noteStamp p type seq (sd.stamp t) t2
  match m with
  | .announce src rank cls utc =>
    (sd.onPort p (fun n => { n with foreign := n.foreign.filter (fun f => f.source ≠ src) ++ [⟨src, rank, cls, utc⟩] })).setClass peer p
  | .sync src seq interval two t1 corr =>
    if !heard src || decide (interval < -7 ∨ 1 < interval) then sd
    else if two then (note sd 0 seq).onPort p (fun n => { n with sync := some (src, seq, t2, corr) })
    else (note sd 0 seq).syncDone p peer t1 t2 corr freq last
  | .followUp src seq t1 corr =>
    match n.sync with
    | some x => if x.1 = src ∧ x.2.1 = seq then sd.syncDone p peer t1 x.2.2.1 (x.2.2.2 + corr) freq last else sd
    | none => sd
  | .delayResp seq t4 corr =>
    match n.req.find? (fun e => e.1 = seq), n.syncT with
    | some e, some y =>
      sd.onPort p (fun n => { n with delay := openHalf (y.1 - y.2 + (t4 - e.2) - corr), req := n.req.filter (fun x => x.1 ≠ seq) })
    | _, _ => sd
  | .pdelayReq src seq =>
    if n.p2p then (note sd 2 seq).sendCtrl p { ctrlFrame 4 seq src 0 [] with stamp := (t2 % 2 ^ 64).toNat } else sd
  | .pdelayResp seq t2' corr =>
    if (n.req.find? (fun e => e.1 = seq)).isSome then (note sd 3 seq).onPort p (fun n => { n with presp := some (seq, t2', t2, corr) }) else sd
  | .pdelayRespFollowUp seq t3 corr =>
    match n.presp, n.req.find? (fun e => e.1 = seq) with
    | some x, some e =>
      if x.1 = seq then
        sd.onPort p (fun n =>
          { n with delay := openHalf ((x.2.2.1 - e.2) - (t3 - x.2.1) - x.2.2.2 - corr), presp := none
                   req := n.req.filter (fun y => y.1 ≠ seq) })
      else sd
    | _, _ => sd

/-- R347: no Announce for announceReceiptTimeout intervals. -/
def Side.announceTimeout (sd : Side) (peer : Nat) (p : Fin 2) : Side :=
  if sd.clocked then (sd.onPort p (fun n => { n with foreign := [], sync := none })).setClass peer p else sd

/-! ### Ports -/

/-- Whether the network island and a port work. -/
def Side.ethOn (sd : Side) (p : Fin 2) : Bool := sd.clocked && sd.gateOpen 38 && sd.flag (F.NW_PORT_UP p)

/-- Table NW-1, Table NW-2: the IGMP report of receive flow `i`'s membership on a leg, in the version of the querier heard; in Follow and
Rework from address 0. -/
def Side.igmpReport (sd : Side) (i : Nat) (p : Fin 2) : Side :=
  let dst := sd.flowWord i (if p.val = 0 then 5 else 9)
  let n := sd.net.ports[p]
  if i < 128 && (sd.flowLegs i).testBit p.val && decide (dst / 2 ^ 28 = 14) && sd.producing then
    sd.queueTx p { ctrlFrame (if n.igmpV2 then 10 else 9) i dst 0 [] with src := if sd.mode = .solo ∨ sd.mode = .lead then n.addr else 0 }
  else sd

/-- Table NW-1: a query is answered for the memberships it asks about; IGMPv2 compatibility mode begins with a query of that version. -/
def Side.igmpQuery (sd : Side) (p : Fin 2) (v2 : Bool) (group : Nat) : Side :=
  let sd := sd.onPort p (fun n => { n with igmpV2 := n.igmpV2 || v2 })
  (sd.flowsOn 0 128).foldl (fun (x : Side) i =>
    if group = 0 ∨ x.flowWord i (if p.val = 0 then 5 else 9) = group then x.igmpReport i p else x) sd

/-- R343: a received frame: discarded and counted, or taken. `t` is its arrival in units of the counter after the boundary, `len` its
length, which Table NW-1 has from 64 bytes on (log entry 131); `freq` and `last` belong to the measurement that a Sync may give (R281). -/
def Side.ethReceive (sd : Side) (p : Fin 2) (peer : Nat) (fcsOk : Bool) (len t : Nat) (freq : Int) (last : Bool) (f : EthFrame) : Side :=
  if !sd.ethOn p then sd
  else
    let sd := sd.incWrap (F.NW_PORT_RX_FRAMES p)
    let n := sd.net.ports[p]
    if !fcsOk || decide (1522 < len ∨ f = .ipv6 ∨ f = .fragment) then sd.incSat (F.NW_PORT_RX_DROP p)
    else if len < 64 then sd
    else
      match f with
      | .media dst src dport sport pt ssrc ts payload => sd.mediaPacket p dst src dport sport pt ssrc ts payload
      | .ptp layer2 domain m => if domain = n.domain ∧ layer2 = n.p2p then sd.ptpReceive p peer t freq last m else sd
      | .igmpQuery v2 group => sd.igmpQuery p v2 group
      | .arpRequest target sender mac =>
        if target = n.addr ∧ n.addr ≠ 0 then sd.sendCtrl p (ctrlFrame 7 0 sender mac []) else sd
      | .arpReply sender mac => sd.learnMac sender mac
      | .echo dst src data => if dst = n.addr ∧ n.addr ≠ 0 then sd.sendCtrl p (ctrlFrame 8 0 src 0 data) else sd
      | _ => sd

/-- The oldest frame of the first queue that holds one (R352). -/
def nextTx (l : List TxFrame) : Option TxFrame :=
  l.foldl (fun b f =>
    match b with
    | some x => if f.queue < x.queue then some f else b
    | none => some f) none

/-- R345: the frames that the Side's mode lets a port send (Table NW-2; media packets after a role change under R230 and R473). -/
def Side.lets (sd : Side) (f : TxFrame) : Bool :=
  match sd.mode with
  | .ready => decide (1 ≤ f.kind ∧ f.kind ≤ 8)
  | .solo | .lead => true
  | .follow | .rework => decide (f.kind = 1 ∨ 9 ≤ f.kind)
  | _ => false

/-- R305, R345, R352, R357: a queued frame leaves port `p`, `t` units of the counter after the boundary. A media frame waits for its shaper's
credit; frames that the mode no longer lets the port send are discarded. -/
def Side.ethTransmit (sd : Side) (p : Fin 2) (t : Nat) : Side :=
  if !(sd.pulsing && sd.ethOn p) then sd
  else
    let sd := (sd.shape p (sd.rowStart + t)).onNet (fun n => { n with txq := n.txq.set p (n.txq[p].filter sd.lets) })
    let credit := (sd.net.ports[p]).credit
    match nextTx ((sd.net.txq[p]).filter (fun f => decide (f.kind ≠ 1 ∨ 0 ≤ credit))) with
    | none => sd
    | some f =>
      let sd := sd.onNet (fun n => { n with txq := n.txq.set p (n.txq[p].erase f), sent := n.sent.set p (some f) })
      let sd := sd.incWrap (F.NW_PORT_TX_FRAMES p)
      let sd := if f.kind = 1 then sd.shaped p f else sd
      let e := sd.egress p t
      match f.kind with
      | 0 => (sd.setBuf f.ref 0x10 8 (sd.stamp t % 2 ^ 64).toNat).setBuf f.ref 0x0E 2
          (withBits (withBits (sd.bufVal f.ref 0x0E 2) 1 2 1) 4 4 0)
      | 1 => (sd.incFlow f.ref (if p.val = 0 then 15 else 16) 0 32 false).setFlowWord f.ref 19 (f.stamp % 2 ^ 32)
      | 2 => (sd.noteStamp p 1 f.ref (sd.stamp t) e).onPort p (fun n => { n with req := ((f.ref, e) :: n.req).take 8 })
      | 3 => (sd.noteStamp p 2 f.ref (sd.stamp t) e).onPort p (fun n => { n with req := ((f.ref, e) :: n.req).take 8 })
      | 4 => (sd.noteStamp p 3 f.ref (sd.stamp t) e).sendCtrl p { ctrlFrame 5 f.ref f.dst 0 [] with stamp := (e % 2 ^ 64).toNat }
      | _ => sd

/-- NET_LINK (Table IB-6) and LINK_CHG at a change of UP (R344). -/
def Side.linkChange (sd : Side) (p : Fin 2) (up : Bool) : Side :=
  ((sd.set (F.NW_PORT_UP p) up.toNat).set F.NW_STAT_LINK_CHG 1).raise 0x0016 p.val (leBytes 1 up.toNat)

/-- Table TM-4 and R346: ING and EGR of the die for a RATE code, in units of 2^−16 ns. -/
def tscOf (rate : Nat) (fec : Bool) : Nat × Nat :=
  let u := fun tenths => tenths * 65536 / 10
  let b := match rate with
    | 1 => (u 3860, u 2480)
    | 2 => (u 1430, u 965)
    | _ => (u 785, u 520)
  if fec then (b.1 + u 2440, b.2 + u 680) else b

/-- R306: firmware loads ING and EGR. -/
def Side.loadTsc (sd : Side) (p : Fin 2) : Side :=
  let n := sd.net.ports[p]
  let b := tscOf (sd.get (F.NW_PORT_RATE p)) (sd.flag (F.NW_PORT_FEC p))
  (sd.set (F.TM_TSC_ING p) (b.1 + n.ingAdd)).set (F.TM_TSC_EGR p) (b.2 + n.egrAdd)

/-- The SERPLL loop of a port and its RATE code (Table CK-5). -/
def Side.serRate (sd : Side) (p : Fin 2) : Nat := sd.get (if p.val = 0 then F.CK_SERPLL_RATE1 else F.CK_SERPLL_RATE2)

/-- R344: the PCS holds lock and auto-negotiation has completed, while the loop is in lock. -/
def Side.ethUp (sd : Side) (p : Fin 2) : Side :=
  if sd.pulsing && sd.gateOpen 38 && sd.bit F.CK_SERPLL_LOCK (p.val + 1) && decide (sd.serRate p ≠ 0) && !sd.flag (F.NW_PORT_UP p) then
    ((sd.set (F.NW_PORT_RATE p) (sd.serRate p)).linkChange p true).loadTsc p
  else sd

/-- R344: a loss of signal or lock, or a change of RATE. The frames that wait are discarded, their releases fail. -/
def Side.ethDown (sd : Side) (p : Fin 2) : Side :=
  if sd.flag (F.NW_PORT_UP p) then
    let q := sd.net.txq[p]
    let sd := (sd.linkChange p false).incSat (F.NW_PORT_DOWNS p)
    let sd := sd.onNet (fun n => { n with txq := n.txq.set p [] })
    q.foldl (fun (x : Side) f => if f.kind = 0 then x.releaseFail f.ref 1 else x.queueTx p f) sd
  else sd

/-! ### The commands -/

/-- ETH_FRAME_RECEIVE (R343). -/
def execEthFrameReceive (sd : SideId) (p : Fin 2) (fcsOk : Bool) (len t : Nat) (freq : Int) (last : Bool) (f : EthFrame)
    (s : State) : Answer :=
  s.go sd (fun x => x.ethReceive p (s.side sd.other).rate fcsOk len t freq last f)

/-- PTP_ANNOUNCE_TIMEOUT (R347). -/
def execPtpAnnounceTimeout (sd : SideId) (p : Fin 2) (s : State) : Answer := 
  s.go sd (fun x => x.announceTimeout (s.side sd.other).rate p)

/-- ETH_LINK_UP (R344). -/
def execEthLinkUp (sd : SideId) (p : Fin 2) (s : State) : Answer := s.go sd (fun x => x.ethUp p)

/-- ETH_LINK_DOWN (R344). -/
def execEthLinkDown (sd : SideId) (p : Fin 2) (s : State) : Answer := s.go sd (fun x => x.ethDown p)

/-- ETH_FRAME_TRANSMIT (R305). -/
def execEthFrameTransmit (sd : SideId) (p : Fin 2) (t : Nat) (s : State) : Answer := s.go sd (fun x => x.ethTransmit p t)

/-- ARP_REFRESH (R357). -/
def execArpRefresh (sd : SideId) (s : State) : Answer :=
  s.go sd (fun x => if x.clocked && x.gateOpen 38 then x.arpRefresh else x)

end Sys2Proof.Machine
end

