-- ==== Sys2Proof/Machine/Shemas.lean ====
section
/-!
DEFINITION. The Shemas island: links (R359, R360, R364), skeins (R361 to R363, R49, R55), time transfer (R365), control cells
(R366, R367) and broadcasts (R368).
-/
namespace Sys2Proof.Machine

open Sys2Proof

/-- Changes the Shemas island. -/
def Side.onShemas (sd : Side) (f : Shemas → Shemas) : Side := { sd with shemas := f sd.shemas }

/-! ### Skein records (Table NW-10) -/

def Side.setSkeinWord (sd : Side) (i w v : Nat) : Side :=
  sd.onShemas (fun x => { x with skeins := Sparse.set (fun _ => 0) x.skeins (4 * i + w) v })
def Side.incSkein (sd : Side) (i w lo len : Nat) (sat : Bool) : Side :=
  let v := sd.skeinF i w lo len + 1
  sd.setSkeinWord i w (withBits (sd.shemas.word i w) lo len (if sat then min v (2 ^ len - 1) else v))

/-- The key of a receive skein's mark. -/
def skeinMark (i : Nat) : Nat := 64 + i / 32 * 16 + i % 16

/-- Sets a receive skein's mark for its last row. -/
def Side.setSkeinMark (sd : Side) (i v : Nat) : Side :=
  { sd with pages := { sd.pages with mark := Sparse.set (fun _ => 0) sd.pages.mark (skeinMark i) v } }

/-- Notes that the receive skein `i` is done with input row `m`. -/
def Side.setTaken (sd : Side) (i m : Nat) : Side :=
  sd.onShemas (fun x => { x with taken := Sparse.set (fun _ => 0) x.taken i (m + 1) })

/-! ### Links -/

/-- Whether the island's links work: in the modes that process rows and Ready, while its gate is open (R360, R260). -/
def Side.linksOn (sd : Side) : Bool := sd.pulsing && sd.gateOpen 39

/-- The link's state, and a change of it. -/
def Side.shState (sd : Side) (l : Nat) : Nat := sd.get (F.SH_LINK_STATE l)
def Side.setLinkState (sd : Side) (l v : Nat) : Side := sd.set (F.SH_LINK_STATE l) v

/-- R359: a HELLO of the peer's device, Side, link number and rate code; `sees` says that the peer reports that it sees this
end. A link that has started takes 16 of them in a row. -/
def Side.hello (sd : Side) (devid l dev side link rate : Nat) (sees : Bool) : Side :=
  if !sd.linksOn then sd
  else
    let sd := if sd.shState l = 0 then sd.setLinkState l 1 else sd
    if sd.shState l = 2 ∨ sd.shState l = 3 then sd
    else
      let k := sd.shemas.links[linkOf l]
      let sd := ((sd.set (F.SH_LINK_PEER_DEVID l) dev).set (F.SH_LINK_PEER_SIDE l) side).set (F.SH_LINK_PEER_LINK l) link
      if k.hellos + 1 < 16 ∨ !sees then sd.onLink (linkOf l) (fun k => { k with hellos := k.hellos + 1 })
      else
        (sd.setLinkState l (if dev = devid then 4 else if rate ≠ sd.rate then 3 else 2)).onLink (linkOf l)
          (fun _ => { Link.reset with hellos := 16 })

/-- R364: the link returns to TRAINING. -/
def Side.linkDown (sd : Side) (l : Nat) : Side :=
  let sd := ((sd.setLinkState l 1).incSat (F.SH_LINK_DOWNS l)).set F.SH_STAT_LINK_CHG 1
  (sd.onLink (linkOf l) (fun _ => Link.reset)).raise 0x0017 l (leBytes 1 1)

/-- R364, R367: no frame with a good HCRC in 4 consecutive rows: the messages with cells on the link go elsewhere. -/
def State.linkLoss (s : State) (sd : SideId) (l : Nat) : State :=
  let x := s.side sd
  if x.linksOn && x.linkCarries l && decide (4 ≤ (x.shemas.links[linkOf l]).missRun) then
    (s.setSide sd (x.linkDown l)).reroute sd l
  else s

/-! ### Receiving skeins -/

/-- R363: a block taken for input row `m` goes on in the frame of row m + 1: one still to come, or, for a block that arrives after the
boundary, the one being sent. -/
def Side.forward (sd : Side) (i m : Nat) (b : SkeinBlock) : Side :=
  if sd.skeinF i 0 7 1 = 1 ∧ b.hops < 15 then
    let out := sd.skeinF i 0 24 2
    let copy := { b with skein := sd.skeinF i 0 26 4, hops := b.hops + 1 }
    if sd.row ≤ m then sd.onShemas (fun x => { x with fwd := x.fwd ++ [(out, (m + 1) % 2 ^ 64, copy)] })
    else
      sd.onLink (linkOf out) (fun k =>
        match k.sent with
        | some f =>
          if f.row = m + 1 ∧ !f.keepalive then
            { k with sent := some { f with
                skeins := f.skeins.filter (fun x => decide (x.skein < copy.skein)) ++ [copy] ++
                  f.skeins.filter (fun x => decide (copy.skein < x.skein)) } }
          else k
        | none => k)
  else sd

/-- Samples of receive skein `i` for input row `m`; after the row's publication they join the published copy, whose consumers
waited for them (R55). -/
def Side.putSkein (sd : Side) (i m : Nat) (words : List (BitVec 24)) : Side :=
  let base := i / 32 * 4096 + i % 16 * 256
  let put := fun (off : Nat) (m : Sparse (BitVec 24)) =>
    (words.zipIdx).foldl (fun (m : Sparse (BitVec 24)) w => Sparse.set (fun _ => 0) m (off + base + w.2) w.1) m
  match sd.pages.shemas with
  | (r, v) :: rest =>
    if r = m then
      if Sparse.get (fun _ => 0) sd.pages.mark 39 = 0 then { sd with pages := { sd.pages with shemas := (r, put 0 v) :: rest } } else sd
    else { sd with pages := { sd.pages with shemasIn := put (m * 65536) sd.pages.shemasIn } }
  | [] => { sd with pages := { sd.pages with shemasIn := put (m * 65536) sd.pages.shemasIn } }

/-- R362: receive skein `i` meets a good block of row `m` that arrived on link `l`. -/
def Side.skeinTake (sd : Side) (l m i : Nat) (b : SkeinBlock) : Side :=
  let named := decide (i / 32 = l) || (decide (sd.skeinF i 0 4 1 = 1) && decide (sd.skeinF i 0 5 2 = l))
  if !sd.skeinOn i || !named || decide (b.channels ≠ sd.skeinF i 0 12 8 + 1 ∨ b.words.length ≠ b.channels) then sd
  else if b.hops ≠ sd.skeinF i 0 20 4 then (sd.set F.SH_STAT_HOP_ERR 1).incSkein i 3 0 16 true
  else if sd.skeinTaken i m then sd
  else
    let sd := (sd.setTaken i m).incSkein i 1 0 32 false
    let sd := if b.held then sd.incSkein i 2 16 16 true else sd
    let sd := if i / 32 = l then sd else sd.incSkein i 3 16 16 true
    ((sd.putSkein i m b.words).setSkeinMark i b.held.toNat).forward i m b

/-- R362: the skein blocks of a frame of row `m`, whose words arrived in time. -/
def Side.skeinBlocks (sd : Side) (l m : Nat) (bs : List SkeinBlock) : Side :=
  bs.foldl (fun (x : Side) b =>
    if !b.crcOk then x.incSat (F.SH_LINK_CRC_ERR l)
    else (List.range 4).foldl (fun (x : Side) a => x.skeinTake l m (32 * a + b.skein % 16) b) x) sd

/-- R55, R362: blocks of row `m` that arrive `t` units of the counter after the boundary of the Side's row are in time. -/
def Side.inTime (sd : Side) (m t : Nat) : Bool :=
  decide (m = sd.row ∨ m = sd.row + 1 ∨ (m + 1 = sd.row ∧ t ≤ 400 * 225792))

/-- R362: no good block of the input row before had arrived 400 ns after the boundary. -/
def Side.skeinMissed (sd : Side) (i : Nat) : Side :=
  let m := (sd.row + 2 ^ 64 - 1) % 2 ^ 64
  if sd.linksOn && sd.skeinOn i && !sd.skeinTaken i m then
    (((sd.setTaken i m).incSkein i 2 0 16 true).setSkeinMark i 0).gaugeTry
  else sd

/-! ### Time transfer -/

/-- R365: what the times of two frames give: the error (without ASYM) and DELAY. -/
def transferTimes (t1 t2 t3 t4 : Nat) : Int × Int :=
  let d := fun (a b : Nat) => toSigned 64 (a + 2 ^ 64 - b % 2 ^ 64)
  (openHalf (d t2 t1 - d t4 t3), openHalf (d t2 t1 + d t4 t3))

/-- R365: a frame's time fields; the error goes to C4 while its SUBSEL names the link. -/
def Side.linkTime (sd : Side) (peer l t : Nat) (f : RowFrame) (freq : Int) (last : Bool) : Side :=
  let k := sd.shemas.links[linkOf l]
  let now := (sd.stamp t % 2 ^ 64).toNat
  let sd' := sd.onLink (linkOf l) (fun k => { k with rxPrev := some (f.row, now) })
  match k.sentAt.find? (fun e => e.1 = f.rxPrevRow), k.rxPrev with
  | some e, some r =>
    if (r.1 + 1) % 2 ^ 64 = f.row then
      let v := transferTimes e.2 f.rxPrev f.txPrev r.2
      let sd' := sd'.set (F.SH_LINK_DELAY l) (ofSigned 32 v.2)
      if sd.shState l ≥ 2 ∧ sd.get (F.TM_CAND_SUBSEL 4) % 4 = l then
        sd'.measured peer 4 (v.1 - toSigned 32 (sd.get (F.SH_LINK_ASYM l))) freq last none
      else sd'
    else sd'
  | _, _ => sd'

/-! ### Control cells -/

/-- The bytes of a cell: header, payload and CRC. A broadcast's payload holds BID, E, the device and the hops (log entry 38). -/
def cellBytes (c : Cell) : Nat :=
  match c.body with
  | .fragment _ _ _ _ _ p => 20 + p.length
  | .broadcast _ _ _ => 20 + 11

/-- Whether a cell's SEQ is acknowledged by `ack`. -/
def ackedBy (ack seq : Nat) : Bool := decide ((ack + 65536 - seq) % 65536 < 32768)

/-- Whether a cell belongs to a held message. -/
def cellOf (m : HeldMsg) (c : Cell) : Bool :=
  match c.body with
  | .fragment _ _ id _ _ _ => decide (c.src = m.src ∧ id = m.id)
  | .broadcast _ _ _ => false

/-- R366: ACK and CREDIT of a frame on a link; the messages whose cells are all acknowledged leave the relay. -/
def State.linkAck (s : State) (sd : SideId) (l ack credit : Nat) : State :=
  let x := s.side sd
  let x := x.onLink (linkOf l) (fun k =>
    { k with credit := credit, unacked := k.unacked.filter (fun c => !ackedBy ack c.2.seq), resend := k.resend.filter (fun c => !ackedBy ack c.seq) })
  let k := x.shemas.links[linkOf l]
  let waits := fun (m : HeldMsg) => (k.out ++ k.resend ++ k.unacked.map Prod.snd).any (cellOf m)
  (s.setSide sd x).onHost (fun h => { h with relay := h.relay.filter (fun m => decide (m.via ≠ some (sd, l)) || waits m) })

/-- R368: whether a Side has seen a broadcast within the last 1,024 rows. -/
def Side.hasSeen (sd : Side) (dev bid e : Nat) : Bool :=
  sd.shemas.seen.any (fun b => decide (b.1 = dev ∧ b.2.1 = bid ∧ b.2.2.1 = e ∧ sd.row ≤ b.2.2.2 + 1024))
def Side.noteSeen (sd : Side) (dev bid e : Nat) : Side :=
  sd.onShemas (fun x => { x with
    seen := (dev, bid, e, sd.row) :: x.seen.filter (fun b => decide (sd.row ≤ b.2.2.2 + 1024)) })

/-- Puts a cell into the output of every link of a Side that carries cells, but for one. -/
def Side.castCell (sd : Side) (skip : Option Nat) (c : Cell) : Side :=
  if sd.sendsCells then
    (List.range 4).foldl (fun (x : Side) l =>
      if some l ≠ skip ∧ x.linkCarries l then x.onLink (linkOf l) (fun k => k.queueCells [c]) else x) sd
  else sd

/-- R197, R368: a broadcast cell: the Side acts on it once, and the device forwards it once. -/
def State.broadcast (s : State) (sd : SideId) (l : Nat) (c : Cell) (bid e hops : Nat) : State :=
  let x := s.side sd
  if x.hasSeen c.src bid e then s
  else
    let onward := !(s.side sd.other).hasSeen c.src bid e
    let s := s.setSide sd ((x.noteSeen c.src bid e).castTriggers bid e)
    if onward then
      let copy := { c with body := .broadcast bid e (hops + 1) }
      (s.onSide sd (fun x => x.castCell (some l) copy)).onSide sd.other (fun x => x.castCell none copy)
    else s

/-- R366: one cell that arrived on a link: taken in SEQ order only. -/
def State.takeCell (s : State) (sd : SideId) (l : Nat) (c : Cell) : State :=
  if !c.crcOk then s.onSide sd (fun x => x.incSat (F.SH_LINK_CRC_ERR l))
  else if s.host.held || decide (c.seq ≠ ((s.side sd).shemas.links[linkOf l].rxSeq + 1) % 65536) then s
  else
    let s := s.onSide sd (fun x => x.onLink (linkOf l) (fun k => { k with rxSeq := c.seq }))
    match c.body with
    | .broadcast bid e hops => s.broadcast sd l c bid e hops
    | .fragment dst sel id _ last payload =>
      if last then
        let mine := fun (x : Cell) =>
          match x.body with
          | .fragment _ _ i _ _ p => if x.src = c.src ∧ i = id then p else []
          | .broadcast _ _ _ => []
        let k := (s.side sd).shemas.links[linkOf l]
        let bytes := k.frags.flatMap mine ++ payload
        (s.onSide sd (fun x => x.onLink (linkOf l) (fun k => { k with frags := k.frags.filter (fun x => (mine x).isEmpty) }))).onHost
          (fun h => h.relayIn dst sel c.src id bytes)
      else s.onSide sd (fun x => x.onLink (linkOf l) (fun k => { k with frags := k.frags ++ [c] }))

/-- R366: the cells that have not been acknowledged within 4 rows go again. -/
def Side.resendCells (sd : Side) (l : Nat) : Side :=
  let k := sd.shemas.links[linkOf l]
  let old := k.unacked.filter (fun c => decide (c.1 + 4 ≤ sd.row))
  if sd.linksOn && sd.linkCarries l && !old.isEmpty then
    (sd.set (F.SH_LINK_RESENT l) (min (sd.get (F.SH_LINK_RESENT l) + old.length) (2 ^ 32 - 1))).onLink (linkOf l) (fun k =>
      { k with resend := k.resend ++ old.map Prod.snd, unacked := k.unacked.filter (fun c => !decide (c.1 + 4 ≤ sd.row)) })
  else sd

/-! ### Receiving a frame -/

/-- R360 to R368: a row frame arrives on link `l`, `t` units of the counter after the boundary. -/
def State.frameReceive (s : State) (sd : SideId) (l t : Nat) (f : RowFrame) (freq : Int) (last : Bool) : State :=
  let x := s.side sd
  if !x.linksOn || !x.linkCarries l then s
  else if !f.hcrcOk then s.setSide sd (x.incSat (F.SH_LINK_CRC_ERR l))
  else
    let x := (x.set (F.SH_LINK_PEER_KEEPALIVE l) f.keepalive.toNat).onLink (linkOf l) (fun k => { k with heard := true })
    let x := x.linkTime (s.side sd.other).rate l t f freq last
    let x := if x.shState l = 2 && x.inTime f.row t then (x.skeinBlocks l f.row f.skeins).gaugeTry else x
    let s := (s.setSide sd x).linkAck sd l f.ack f.credit
    f.cells.foldl (fun s c => s.takeCell sd l c) s

/-! ### The row pulse -/

/-- The cells of a frame: within CREDIT and the frame's bytes (R366). -/
def fitCells : Nat → List Cell → List Cell
  | _, [] => []
  | room, c :: cs => if cellBytes c ≤ room then c :: fitCells (room - cellBytes c) cs else []

/-- Whether transmit skein `k` of link `l` carries forwarded blocks (R363). -/
def Side.forwardsTo (sd : Side) (l k : Nat) : Bool :=
  (List.range 64).any (fun j =>
    let i := j / 16 * 32 + j % 16
    sd.skeinOn i && decide (sd.skeinF i 0 7 1 = 1 ∧ sd.skeinF i 0 24 2 = l ∧ sd.skeinF i 0 26 4 = k))

/-- R361, R363: the skein block of transmit skein `k` of link `l` in the frame of row `row`. -/
def Side.skeinBlock (sd : Side) (row l k : Nat) : Option SkeinBlock :=
  let i := 32 * l + 16 + k
  match sd.shemas.fwd.find? (fun e => decide (e.1 = l ∧ e.2.1 = row ∧ e.2.2.skein = k)) with
  | some e => some e.2.2
  | none =>
    if sd.skeinOn i && !sd.forwardsTo l k then
      let n := sd.skeinF i 0 12 8 + 1
      some { skein := k, channels := n, hops := 1, held := sd.pages.skeinHeld, crcOk := true
             words := (List.range n).map (fun c => Sparse.get (fun _ => 0) sd.pages.skeinOut (l * 4096 + k * 256 + c)) }
    else none

/-- R360: link `l` sends its frame of row `row`, starting `start` units of the counter after the boundary, 100 ns at most. -/
def Side.sendFrame (sd : Side) (devid me held row l start : Nat) : Side :=
  if !sd.linkCarries l then sd
  else
    let at' := min start (100 * 225792)
    let k := sd.shemas.links[linkOf l]
    let full := decide (sd.mode = .solo ∨ sd.mode = .lead)
    let alive := decide (sd.mode = .follow ∨ sd.mode = .rework)
    let blocks := if full && decide (sd.shState l = 2) then (List.range 16).filterMap (sd.skeinBlock row l) else []
    let room := min (if 4 ≤ sd.rate then 2048 else 4096) (64 * k.credit)
    let cells := if alive then [] else fitCells room (k.resend ++ k.out)
    let now := (sd.stamp at' % 2 ^ 64).toNat
    let prev := k.sentAt.head?.getD (0, 0)
    let rx := k.rxPrev.getD (0, 0)
    let f : RowFrame :=
      { row := row, devid := devid, side := me, link := l, keepalive := alive, rate := sd.rate, skeins := blocks, cells := cells
        credit := Config.linkCredit held, txPrev := prev.2, rxPrev := rx.2, rxPrevRow := rx.1, ack := k.rxSeq, hcrcOk := true }
    let sd := blocks.foldl (fun (x : Side) b => x.incSkein (32 * l + 16 + b.skein) 1 0 32 false) sd
    let sd := sd.set (F.SH_LINK_CELLS_TX l) (sd.get (F.SH_LINK_CELLS_TX l) + cells.length)
    sd.onLink (linkOf l) (fun k =>
      { k with
        sent := some f, sentAt := ((row, now) :: k.sentAt).take 8, unacked := k.unacked ++ cells.map (fun c => (row, c))
        out := k.out.drop (cells.length - k.resend.length), resend := k.resend.drop cells.length })

/-- R364: whether the row before brought a good frame on link `l`; a link that has stopped starts training (R359). -/
def Side.linkRow (sd : Side) (l : Nat) : Side :=
  let k := sd.shemas.links[linkOf l]
  if sd.shState l = 0 then (sd.setLinkState l 1).onLink (linkOf l) (fun _ => Link.reset)
  else if sd.linkCarries l then
    (if k.heard then sd else sd.incSat (F.SH_LINK_MISSED l)).onLink (linkOf l) (fun k =>
      { k with heard := false, missRun := if k.heard then 0 else k.missRun + 1 })
  else sd

/-- R197: the broadcasts that a Side's own Cues made go out on the device's links, those of both Sides. -/
def State.sendCasts (s : State) (sd : SideId) : State :=
  let devid := s.host.get F.HP_ID_DEVID
  let s := (s.side sd).takes.casts.foldl (fun (s : State) c =>
    let cell : Cell := { seq := 0, src := devid, body := .broadcast c.1 c.2 0, crcOk := true }
    (s.onSide sd (fun x => (x.noteSeen devid c.1 c.2).castCell none cell)).onSide sd.other (fun x => x.castCell none cell)) s
  s.onSide sd (fun x => { x with takes := { x.takes with casts := [] } })

/-- The Shemas island's share of the row pulse for row `row`: the input row before (R26, R55), what Emit placed (R49, R51) and
the links' frames (R360). `held` counts the messages the relay holds; `starts` gives each frame's start. -/
def Side.shemasPulse (sd : Side) (devid me held row : Nat) (unfinished starts : List Nat) : Side :=
  let prev := (row + 2 ^ 64 - 1) % 2 ^ 64
  if !sd.gateOpen 39 then ((sd.markUnit 39 .idle).markUnit 40 .idle).skip [39, 40]
  else
    let repeats := (sd.emittedRow 40 prev).isNone
    let r := sd.publishInput 39 prev sd.pages.shemas (rowOf sd.pages.shemasIn prev)
    let sd : Side := { r.1 with pages := { r.1.pages with shemas := r.2, shemasIn := rowsAfter sd.pages.shemasIn prev } }
    let sd := match sd.emittedRow 40 prev with
      | some e => { sd with pages := { sd.pages with skeinOut := e.skein } }
      | none => sd
    let sd := { sd with pages := { sd.pages with skeinHeld := repeats } }
    let sd := sd.transmitMark 40 prev
    let sd := (List.range 4).foldl (fun (x : Side) l => (x.linkRow l).sendFrame devid me held row l (starts.getD l 0)) sd
    (sd.onShemas (fun x => { x with fwd := x.fwd.filter (fun e => decide (row < e.2.1)) })).setUnfinished [39, 40] unfinished

/-! ### The commands -/

/-- SHEMAS_HELLO_RECEIVE (R359). -/
def execShemasHelloReceive (sd : SideId) (l : Fin 4) (dev : Fin 64) (side : Fin 2) (link : Fin 4) (rate : Fin 8) (sees : Bool)
    (s : State) : Answer :=
  s.go sd (fun x => x.hello (s.host.get F.HP_ID_DEVID) l.val dev.val side.val link.val rate.val sees)

/-- ROW_FRAME_RECEIVE (R362): `freq` and `last` belong to the measurement that C4 may take (R281). -/
def execRowFrameReceive (sd : SideId) (l : Fin 4) (t : Nat) (f : RowFrame) (freq : Int) (last : Bool) (s : State) : Answer :=
  s.answer (s.frameReceive sd l.val t f freq last)

/-- SKEIN_MISSED (R362): 400 ns after the boundary, for the receive skein `skein` of link `l`. -/
def execSkeinMissed (sd : SideId) (l : Fin 4) (skein : Fin 16) (s : State) : Answer :=
  s.go sd (fun x => x.skeinMissed (32 * l.val + skein.val))

/-- SHEMAS_LINK_LOSS (R364). -/
def execShemasLinkLoss (sd : SideId) (l : Fin 4) (s : State) : Answer := s.answer (s.linkLoss sd l.val)

/-- CONTROL_CELL_RESEND (R366). -/
def execControlCellResend (sd : SideId) (l : Fin 4) (s : State) : Answer := s.go sd (fun x => x.resendCells l.val)

end Sys2Proof.Machine
end

