-- ==== Sys2Proof/Machine/Mem.lean ====
section
/-!
DEFINITION. Memory banks (R443 to R446), the Swatch engine and repair (R452 to R458), Frog (R459) and the tamper wipe (R460).
-/
namespace Sys2Proof.Machine

open Sys2Proof

/-! ### Banks and macros (Tables MM-1 and MM-3) -/

/-- The first macro of a bank, and how many it has. -/
def bankMacros (b : Nat) : Nat × Nat :=
  if b < 12 then (32 * b, 32)
  else if b < 44 then (384 + 5 * (b - 12), 5)
  else if b < 47 then (544 + 12 * (b - 44), 12)
  else if b = 47 then (580, 32)
  else if b = 48 then (612, 16)
  else if b = 49 then (628, 16)
  else if b = 50 then (644, 4)
  else (648, 1)

/-- The bank of a macro. -/
def macroBank (m : Nat) : Nat :=
  if m < 384 then m / 32
  else if m < 544 then 12 + (m - 384) / 5
  else if m < 580 then 44 + (m - 544) / 12
  else if m < 612 then 47
  else if m < 628 then 48
  else if m < 644 then 49
  else if m < 648 then 50
  else 51

/-- The addresses of a bank: base and length, in the Side's memory space with the Cross banks at their physical views. -/
def bankRange (b : Nat) : Nat × Nat :=
  if b < 12 then (0x800000 * b, 0x800000)
  else if b < 44 then (coreBase (b - 12), 0x80000)
  else if b < 47 then (0x08000000 + 0x400000 * (b - 44), 0x400000)
  else if b = 47 then (0x09000000, 0x800000)
  else if b = 48 then (0x09800000, 0x400000)
  else if b = 49 then (0x09C00000, 0x400000)
  else if b = 50 then (0x0A000000, 0x100000)
  else (0x0A100000, 0x10000)

/-- The addresses of a macro, in ascending order within its bank (R443). -/
def macroRange (m : Nat) : Nat × Nat :=
  let b := macroBank m
  let r := bankRange b
  let i := m - (bankMacros b).1
  if 12 ≤ b ∧ b < 44 then
    if i < 3 then (r.1 + 0x20000 * i, 0x20000) else (r.1 + 0x60000 + 0x10000 * (i - 3), 0x10000)
  else
    let n := (bankMacros b).2
    (r.1 + r.2 * i / n, r.2 * (i + 1) / n - r.2 * i / n)

/-- Fills an address range with zero words and valid check bits. -/
def Side.zeroRange (sd : Side) (a n : Nat) : Side :=
  { sd with
    mem := sd.mem.filter (fun c => !decide (a ≤ c.1 ∧ c.1 < a + n))
    upsets := sd.upsets.filter (fun c => !decide (a ≤ 8 * c.1 ∧ 8 * c.1 < a + n)) }

/-- The last column of Table MM-3: whether nothing uses bank `b`. -/
def Side.bankIdle (sd : Side) (b : Nat) : Bool :=
  if b < 12 then decide (sd.bankOwnerOf b = 0 ∨ sd.mode = .castOn ∨ sd.mode = .ready ∨ sd.mode = .rework)
  else if b < 44 then !sd.gateOpen (b - 12)
  else if b < 47 then !sd.flag F.XA_CTRL_RUN
  else if b = 47 then (List.range 128).all (fun n => !sd.flag (F.TK_CUE_STATE n))
  else if b = 49 then (sd.flowsOn 0 256).isEmpty && (List.range 256).all (fun p => decide (sd.bufVal p 0 4 = 0))
  else if b = 50 then !sd.flag F.PB_CTRL_RUN
  else false

/-- R445: whether every bank of a list is On, as a message that would start a user of it requires. -/
def Side.banksOn (sd : Side) (l : List Nat) : Bool := l.all sd.bankOn

/-- R445: whether the banks of the units that a run starts are On: the Pattern's cores, the Cross array and the Patchbay. -/
def Side.unitBanksOn (sd : Side) : Bool :=
  sd.banksOn ((List.range 32).filterMap (fun k => if sd.coreMask.testBit k then some (12 + k) else none) ++ [44, 45, 46, 50])

/-- R444: a write of MM_BANKb.STATE starts a change; 3 is discarded. -/
def Side.writeBankState (sd : Side) (b v : Nat) : Side :=
  if v = 3 then sd
  else
    let sd := sd.set (F.MM_BANK_STATE b) v
    if sd.get (F.MM_BANK_CUR b) = v then sd else sd.set (F.MM_BANK_CUR b) 3

/-- R444: the change ends. A bank in Off keeps nothing, so one that comes back from Off holds zero words. -/
def Side.bankChanged (sd : Side) (b : Nat) : Side :=
  if sd.alive && decide (sd.get (F.MM_BANK_CUR b) = 3) then
    let v := sd.get (F.MM_BANK_STATE b)
    let sd := sd.set (F.MM_BANK_CUR b) v
    if v = 2 then sd.zeroRange (bankRange b).1 (bankRange b).2 else sd
  else sd

/-! ### The Swatch engine -/

/-- R453: the macros under test: 24 at a time. -/
def SwatchRun.testing (r : SwatchRun) : List Nat := r.left.take 24

/-- The live fields of a march: BUSY, MACRO and each bank's TESTING. -/
def Side.showSwatch (sd : Side) : Side :=
  let t := (sd.swatch.map SwatchRun.testing).getD []
  let sd := ((sd.set F.MM_STAT_SWATCH sd.swatch.isSome.toNat).set F.MM_SWATCH_STAT_BUSY sd.swatch.isSome.toNat).set
    F.MM_SWATCH_STAT_MACRO (t.headD 0)
  (List.range 52).foldl (fun (x : Side) b => x.set (F.MM_BANK_TESTING b) (t.any (fun m => macroBank m = b)).toNat) sd

/-- The start of a march over banks, ascending. -/
def Side.startSwatch (sd : Side) (kind : Nat) (repair : Bool) (banks : List Nat) (unit : Nat) (inMode : Bool) : Side :=
  let left := banks.flatMap (fun b => (List.range (bankMacros b).2).map (fun i => (bankMacros b).1 + i))
  let sd := (sd.set F.MM_SWATCH_STAT_REPAIRS 0).set F.MM_SWATCH_FAIL_VALID 0
  { sd with
    swatch := some { kind := kind, repair := repair, left := left, second := [], result := 0, spares := 0, unit := unit, inMode := inMode } }.showSwatch

/-- R454: the banks that a request names. -/
def swatchBanks (unit : Nat) : List Nat := if unit = 0xFF then List.range 48 ++ [49, 50] else [unit]

/-- R454: whether a request of a bank (0xFF: all) may run. -/
def Side.swatchMay (sd : Side) (unit : Nat) : Bool :=
  sd.swatch.isNone && (swatchBanks unit).all (fun b => decide (b ≤ 47 ∨ b = 49 ∨ b = 50) && sd.bankIdle b)

/-- A write of MM_SWATCH_CTRL.GO: a run, or RESULT 3 for one that is refused. -/
def Side.swatchGo (sd : Side) : Side :=
  let sd := sd.set F.MM_SWATCH_CTRL_GO 1
  let unit := if sd.flag F.MM_SWATCH_CTRL_ALL then 0xFF else sd.get F.MM_SWATCH_CTRL_BANK
  let kind := sd.get F.MM_SWATCH_CTRL_KIND
  let repair := sd.flag F.MM_SWATCH_CTRL_REPAIR
  if sd.swatchMay unit && !(repair && decide (kind ≠ 0)) then sd.startSwatch kind repair (swatchBanks unit) unit false
  else sd.set F.MM_SWATCH_STAT_RESULT 3

/-- A change of the march under way. -/
def Side.onSwatch (sd : Side) (f : SwatchRun → SwatchRun) : Side := { sd with swatch := sd.swatch.map f }

/-- R458: the spares for failing bits (row, column) of a macro with `rows` spare rows and perhaps a spare column left: how many
rows, and whether the column; none if they do not suffice. -/
def spareFor (rows : Nat) (col : Bool) (bits : List (Nat × Nat)) : Option (Nat × Bool) :=
  let count := fun (l : List (Nat × Nat)) => (l.map Prod.fst).eraseDups.length
  if count bits ≤ rows then some (count bits, false)
  else if col then
    ((bits.map Prod.snd).eraseDups.find? (fun c => decide (count (bits.filter (fun b => b.2 ≠ c)) ≤ rows))).map
      (fun c => (count (bits.filter (fun b => b.2 ≠ c)), true))
  else none

/-- R456, R458: a macro that cannot be repaired. -/
def Side.macroDead (sd : Side) (m : Nat) : Side :=
  ((sd.set (F.MM_MACRO_UNREPAIRABLE m) 1).set (F.MM_BANK_FAILED (macroBank m)) 1).onSwatch (fun r => { r with result := 2 })

/-- The macro leaves the run. March C- leaves every word of it zero (Table MM-4). -/
def Side.macroOver (sd : Side) (m kind : Nat) : Side :=
  let sd := if kind = 0 then sd.zeroRange (macroRange m).1 (macroRange m).2 else sd
  (sd.onSwatch (fun r => { r with left := r.left.erase m, second := r.second.erase m })).showSwatch

/-- MM_SWATCH_FAIL holds the first failing macro of the run. -/
def Side.noteFail (sd : Side) (m word : Nat) : Side :=
  if sd.flag F.MM_SWATCH_FAIL_VALID then sd
  else ((sd.set F.MM_SWATCH_FAIL_MACRO m).set F.MM_SWATCH_FAIL_WORD word).set F.MM_SWATCH_FAIL_VALID 1

/-- R458: a first march of macro `m` found failing bits: spares and a second march, or the macro cannot be repaired. A run
without REPAIR repairs nothing. -/
def Side.macroRepair (sd : Side) (r : SwatchRun) (m : Nat) (bits : List (Nat × Nat)) : Side :=
  if !r.repair then (sd.onSwatch (fun r => { r with result := 2 })).macroOver m r.kind
  else
    let left := 2 - (sd.get (F.MM_MACRO_FUSE_ROWS m) + sd.get (F.MM_MACRO_SOFT_ROWS m))
    match spareFor left (!sd.flag (F.MM_MACRO_FUSE_COL m) && !sd.flag (F.MM_MACRO_SOFT_COL m)) bits with
    | some p =>
      let sd := sd.set (F.MM_MACRO_SOFT_ROWS m) (sd.get (F.MM_MACRO_SOFT_ROWS m) + p.1)
      let sd := if p.2 then sd.set (F.MM_MACRO_SOFT_COL m) 1 else sd
      let n := r.spares + p.1 + p.2.toNat
      (sd.set F.MM_SWATCH_STAT_REPAIRS (min n 255)).onSwatch (fun r =>
        { r with spares := n, second := m :: r.second, result := max r.result 1 })
    | none => (sd.macroDead m).macroOver m r.kind

/-- R452, R453, R458: the march of macro `m` ends with these failing bits (word, row, column). -/
def Side.macroDone (sd : Side) (m : Nat) (fails : List (Nat × Nat × Nat)) : Side :=
  match sd.swatch with
  | none => sd
  | some r =>
    if !r.testing.contains m then sd
    else
      let sd := sd.set (F.MM_MACRO_LAST_FAIL m) (!fails.isEmpty).toNat
      match fails with
      | [] => sd.macroOver m r.kind
      | f :: _ =>
        let sd := sd.noteFail m f.1
        if r.second.contains m then (sd.macroDead m).macroOver m r.kind else sd.macroRepair r m (fails.map Prod.snd)

/-- R456, Table PW-4: the end of a run. -/
def Side.swatchDone (sd : Side) : Side :=
  match sd.swatch with
  | some r =>
    if r.left ≠ [] then sd
    else
      let sd := ({ sd with swatch := none } : Side).showSwatch.set F.MM_SWATCH_STAT_RESULT r.result
      if r.inMode then if r.result = 2 then sd.halt 4 else sd.changeMode .castOn
      else sd.raise 0x001A r.unit (leBytes 1 r.result ++ leBytes 1 (min r.spares 255))
  | none => sd

/-! ### Frog and the secure bank -/

/-- R459, R455, Table PW-4: every bank is zero, valid and On, its records and counts at their reset values; then Swatch, or
Cast-on. -/
def Side.frogDone (sd : Side) : Side :=
  if sd.mode = .frog then
    let sd := { sd with
      mem := [], upsets := []
      regs := sd.regs.filter (fun p => !decide (0xC0100 ≤ p.1 / 32 ∧ p.1 / 32 < 0xC0440)) }
    let sd := sd.set F.MM_STAT_FROG 0
    if sd.flag F.PW_STRAP_MTEST then (sd.changeMode .swatch).startSwatch 0 true (List.range 52) 0xFF true
    else sd.changeMode .castOn
  else sd

/-- The secure bank. -/
def secureBase : Nat := 0x0A100000

/-- R460: the wipe: the bank is zero; firmware clears the current session tag. -/
def Side.tamperWipe (sd : Side) : Side :=
  let sd := (sd.zeroRange secureBase 0x10000).set F.MM_SEC_STAT_TAMPERED 1
  { sd with fw := { sd.fw with session := none } }

/-- R460: TAMPER_N is low for `ns`, at least 50 ns: until its release. `open'` is the outcome of a pulse between 10 and 50 ns,
after which the pin is high again. -/
def Side.tamper (sd : Side) (ns : Nat) (open' : Bool) : Side :=
  if sd.mode = .dark ∨ ns < 10 then sd
  else if 50 ≤ ns then (sd.tamperWipe).set F.MM_SEC_STAT_TAMPER_N 0
  else if open' then sd.tamperWipe
  else sd

/-- R450: a double-bit error in the Dorden memory or the secure bank. -/
def Side.fatalUe (sd : Side) (a : Nat) : Side :=
  match bankOf a with
  | some 48 => sd.halt 2
  | some 51 => sd.halt 3
  | _ => sd

/-! ### The commands -/

/-- FROG_COMPLETE (R459). -/
def execFrogComplete (sd : SideId) (s : State) : Answer := s.go sd Side.frogDone

/-- BANK_STATE_WRITE (R444). -/
def execBankStateWrite (sd : SideId) (w : Writer) (b : Fin 52) (v : Fin 4) (s : State) : Answer :=
  s.go sd (fun x => if s.mayWrite sd w then x.writeBankState b.val v.val else x)

/-- BANK_STATE_CHANGE_DONE (R444). -/
def execBankStateChangeDone (sd : SideId) (b : Fin 52) (s : State) : Answer := s.go sd (fun x => x.bankChanged b.val)

/-- SWATCH_GO (R454): a write of MM_SWATCH_CTRL with GO = 1. -/
def execSwatchGo (sd : SideId) (w : Writer) (bank : Fin 64) (all kind repair : Bool) (s : State) : Answer :=
  s.go sd (fun x =>
    if s.mayWrite sd w then
      ((((x.set F.MM_SWATCH_CTRL_BANK bank.val).set F.MM_SWATCH_CTRL_ALL all.toNat).set F.MM_SWATCH_CTRL_KIND kind.toNat).set
        F.MM_SWATCH_CTRL_REPAIR repair.toNat).swatchGo
    else x)

/-- SWATCH_MACRO_DONE (R453): the failing bits of the march, by word, row and column. -/
def execSwatchMacroDone (sd : SideId) (m : Fin 649) (fails : List (Nat × Nat × Nat)) (s : State) : Answer :=
  s.go sd (fun x => if x.alive then x.macroDone m.val fails else x)

/-- SWATCH_RUN_DONE (R456). -/
def execSwatchRunDone (sd : SideId) (s : State) : Answer := s.go sd (fun x => if x.alive then x.swatchDone else x)

/-- TAMPER_ASSERT (R460). -/
def execTamperAssert (sd : SideId) (ns : Nat) (s : State) : Answer :=
  if 10 ≤ ns ∧ ns < 50 then
    let c := s.choice
    c.2.answer (c.2.onSide sd (fun x => x.tamper ns c.1))
  else s.go sd (fun x => x.tamper ns false)

/-- TAMPER_RELEASE (R460). -/
def execTamperRelease (sd : SideId) (s : State) : Answer :=
  s.go sd (fun x => if x.mode = .dark then x else x.set F.MM_SEC_STAT_TAMPER_N 1)

end Sys2Proof.Machine
end

