-- ==== Sys2Proof/Machine/Dma.lean ====
section
/-!
DEFINITION. The DMA engine's requests, channels and data regions (R432 to R439) and the Gauge engine's frames (R166 to R168). The
transfers of a job stand in `DmaJob`.
-/
namespace Sys2Proof.Machine

open Sys2Proof

/-- Changes the DMA engine. -/
def Side.onDma (sd : Side) (f : Dma → Dma) : Side := { sd with dma := f sd.dma }

/-! ### Request lines (R433) -/

/-- The field and bit of a line's latch. -/
def lineBit (line : Nat) : Fld × Nat := if line < 32 then (F.DMA_PEND_LO, line) else (F.DMA_PEND_HI, line - 32)
def Side.pendOn (sd : Side) (line : Nat) : Bool := sd.bit (lineBit line).1 (lineBit line).2
def Side.setPend (sd : Side) (line : Nat) (v : Bool) : Side := sd.setBit (lineBit line).1 (lineBit line).2 v

/-- R433: a request on a line whose latch is set. -/
def Side.lineLost (sd : Side) (line : Nat) : Side :=
  let sd := (sd.incSat F.DMA_LOST_COUNT).set F.DMA_STAT_LOST 1
  if sd.flag F.DMA_LOST_VALID then sd else (sd.set F.DMA_LOST_LINE line).set F.DMA_LOST_VALID 1

/-- R433: a request on a line; the first request of a job gives its header. -/
def Side.lineRequest (sd : Side) (line : Nat) (header : Option (Nat × Nat)) : Side :=
  if sd.pendOn line then sd.lineLost line
  else
    let sd := sd.setPend line true
    let known := sd.dma.headers.any (fun h => h.1 = line) || sd.dma.job.any (fun j => j.line = line)
    match header with
    | some h => if known then sd else sd.onDma (fun d => { d with headers := d.headers ++ [(line, h.1, h.2)] })
    | none => sd

/-- R433: two enabled channels name the same line. -/
def Side.checkConflict (sd : Side) : Side :=
  let on := (List.range 16).filter (fun c => sd.flag (F.DMA_CH_EN c))
  if on.any (fun c => on.any (fun d => decide (c < d ∧ sd.get (F.DMA_CH_LINE c) = sd.get (F.DMA_CH_LINE d)))) then
    sd.set F.DMA_STAT_CONFLICT 1
  else sd

/-- The channel that answers a line: its own for a software line, else the lowest enabled one that names it. -/
def Side.lineOwner (sd : Side) (line : Nat) : Option Nat :=
  if 48 ≤ line && sd.flag (F.DMA_CH_EN (line - 48)) then some (line - 48)
  else (List.range 16).find? (fun c => sd.flag (F.DMA_CH_EN c) && decide (sd.get (F.DMA_CH_LINE c) = line))

/-- The pending line that channel `c` answers, the lower-numbered first (R434). -/
def Side.pendingLine (sd : Side) (c : Nat) : Option Nat :=
  (List.range 64).find? (fun l => sd.pendOn l && sd.lineOwner l == some c)

/-! ### The data region (R437) -/

/-- The channel's data region, its record ring, and whether the channel is lent. -/
def Side.dataBase (sd : Side) (c : Nat) : Nat := sd.get64 (F.DMA_CH_DATA_BASE_LO c) (F.DMA_CH_DATA_BASE_HI c)
def Side.recBase (sd : Side) (c : Nat) : Nat := sd.get64 (F.DMA_CH_REC_BASE_LO c) (F.DMA_CH_REC_BASE_HI c)
def Side.lent (sd : Side) (c : Nat) : Bool := sd.flag (F.DMA_CH_LENT c)

/-- R435: the record ring is full. -/
def Side.recFull (sd : Side) (c : Nat) : Bool :=
  decide ((sd.get (F.DMA_CH_REC_WR c) + 65536 - sd.get (F.DMA_CH_REC_CONS c)) % 65536 = sd.get (F.DMA_CH_REC_COUNT c))

/-- O: the offset of the oldest unconsumed record that holds data. -/
def Side.oldestData (sd : Side) (c : Nat) : Option Nat :=
  (sd.dma.records.find? (fun r => decide (r.1 = c) && r.2.2.2)).map (fun r => r.2.2.1)

/-- R437: where a job of `n` bytes is placed. -/
def placeJob (off len n : Nat) (oldest : Option Nat) : Option Nat :=
  match oldest with
  | none => if off + n ≤ len then some off else if n ≤ len then some 0 else none
  | some o =>
    if o < off then if off + n ≤ len then some off else if n ≤ o then some 0 else none
    else if off + n ≤ o then some off
    else none

/-- R437: DATA_OFF after a job of `n` bytes at `a`. -/
def nextOff (a n len : Nat) : Nat :=
  let e := (a + n + 31) / 32 * 32
  if len ≤ e then 0 else e

/-- R438: a write of `v` to REC_CONS; one that would pass REC_WR is discarded. -/
def Side.consume (sd : Side) (c v : Nat) : Side :=
  let cons := sd.get (F.DMA_CH_REC_CONS c)
  let k := (v + 65536 - cons) % 65536
  if k ≤ (sd.get (F.DMA_CH_REC_WR c) + 65536 - cons) % 65536 then
    let gone := (sd.dma.records.filter (fun r => r.1 = c)).take k
    (sd.set (F.DMA_CH_REC_CONS c) v).onDma (fun d => { d with records := d.records.filter (fun r => !gone.contains r) })
  else sd

/-! ### Halts (R436, R439) -/

/-- R436: the channel and the engine halt. -/
def Side.dmaHalt (sd : Side) (c addr : Nat) (write : Bool) (beat kind : Nat) : Side :=
  let sd := ((sd.set (F.DMA_CH_HALTED c) 1).set F.DMA_STAT_HALTED 1).set F.DMA_STAT_CH c
  let sd := (sd.set64 F.DMA_ERR_ADDR_LO F.DMA_ERR_ADDR_HI addr).set F.DMA_ERR_INFO_WRITE write.toNat
  let sd := ((sd.set F.DMA_ERR_INFO_KIND kind).set F.DMA_ERR_INFO_CH c).set F.DMA_ERR_INFO_BEAT beat
  (sd.set F.DMA_ERR_INFO_VALID 1).raise 0x001B c (leBytes 8 addr ++ leBytes 1 write.toNat)

/-- The engine leaves its halt. -/
def Side.dmaResumeEngine (sd : Side) : Side := (sd.set F.DMA_STAT_HALTED 0).set F.DMA_STAT_BUSY 0

/-- R439: a lent channel that has stayed halted is parked. -/
def Side.dmaPark (sd : Side) (c : Nat) : Side :=
  match sd.dma.job with
  | some j =>
    if j.ch = c && sd.lent c && sd.flag (F.DMA_CH_HALTED c) && sd.flag F.DMA_STAT_HALTED then
      ((sd.set (F.DMA_CH_PARKED c) 1).dmaResumeEngine).onDma (fun d => { d with job := none, parked := d.parked ++ [j] })
    else sd
  | none => sd

/-- Whether a channel has a job: running, halted or parked. -/
def Side.hasJob (sd : Side) (c : Nat) : Bool := sd.dma.job.any (fun j => j.ch = c) || sd.dma.parked.any (fun j => j.ch = c)

/-- R438: RETURN ends the job and the pending latches; the loan's settings go back to their reset values (log entry 42). -/
def Side.dmaReturn (sd : Side) (c : Nat) : Side :=
  let running := sd.dma.job.any (fun j => j.ch = c)
  let lines := [48 + c, sd.get (F.DMA_CH_LINE c)]
  let sd := lines.foldl (fun (x : Side) l => x.setPend l false) sd
  let sd := if running then (sd.dmaResumeEngine).set F.DMA_ERR_INFO_VALID 0 else sd
  let sd := [F.DMA_CH_LENT c, F.DMA_CH_EN c, F.DMA_CH_HOSTDST c, F.DMA_CH_ACTIVE c, F.DMA_CH_HALTED c, F.DMA_CH_PARKED c,
    F.DMA_CH_FULL c, F.DMA_CH_DATA_LEN c].foldl (fun (x : Side) f => x.set f 0) sd
  let sd := sd.onDma (fun d =>
    { job := if running then none else d.job, parked := d.parked.filter (fun j => j.ch ≠ c)
      headers := d.headers.filter (fun h => !lines.contains h.1), records := d.records.filter (fun r => r.1 ≠ c) })
  { sd with gauge := { sd.gauge with frames := sd.gauge.frames.filter (fun e => e.2.2.2 + 12 ≠ c) } }

/-- R438: LEND; firmware enables the channel on its meter line (Table FB-4; log entry 42). -/
def Side.dmaLend (sd : Side) (c base len rec count : Nat) : Side :=
  let sd := (sd.set64 (F.DMA_CH_DATA_BASE_LO c) (F.DMA_CH_DATA_BASE_HI c) base).set (F.DMA_CH_DATA_LEN c) len
  let sd := (sd.set64 (F.DMA_CH_REC_BASE_LO c) (F.DMA_CH_REC_BASE_HI c) rec).set (F.DMA_CH_REC_COUNT c) (min (max count 1) 4096)
  let sd := [F.DMA_CH_REC_WR c, F.DMA_CH_REC_CONS c, F.DMA_CH_DATA_OFF c].foldl (fun (x : Side) f => x.set f 0) sd
  let sd := (((sd.set (F.DMA_CH_LENT c) 1).set (F.DMA_CH_HOSTDST c) 1).set (F.DMA_CH_EN c) 1).set (F.DMA_CH_LINE c) (c - 12)
  sd.checkConflict

/-! ### Meter frames (R166 to R168) -/

/-- Table PB-7: the frame of group `g` in row `row`. -/
def Side.meterFrame (sd : Side) (devid me g row : Nat) : List Byte :=
  let first := sd.get (F.PB_GRP_FIRST g)
  let count := sd.get (F.PB_GRP_COUNT g)
  leBytes 4 0x46594D46 ++ leBytes 1 g ++ leBytes 1 devid ++ leBytes 1 me ++ leBytes 1 0 ++ leBytes 8 row ++
    leBytes 4 (sd.get (F.PB_GRP_SEQ g)) ++ leBytes 2 first ++ leBytes 2 count ++ leBytes 2 (sd.get (F.PB_GRP_LOST g)) ++ leBytes 6 0 ++
    (List.range count).flatMap (fun i => sd.bytes (meterRec (first + i)) 32)

/-- The address of a frame buffer in long memory. -/
def frameBase (g buf : Nat) : Nat := 32 * (Config.frameArea g buf % 0x300000)

/-- R168: whether the frame is dropped. -/
def Side.frameDropped (sd : Side) (g : Nat) : Bool :=
  let c := sd.get (F.PB_GRP_CHANNEL g) + 12
  !sd.lent c || sd.flag (F.DMA_CH_HALTED c) || (sd.gauge.frames.any (fun e => e.1 = g ∧ e.2.2.2 + 12 = c))

/-- R166: the group that a meter point belongs to (Table PB-6). -/
def Side.groupOf (sd : Side) (p : Nat) : Option Nat :=
  let w := sd.mparam p 0
  if w.testBit 19 then some (w / 65536 % 8) else none

/-- R167, R168: group `g` captures its frame for row `row`, and its points start anew. -/
def Side.captureGroup (sd : Side) (devid me row g : Nat) : Side :=
  if !sd.flag (F.PB_GRP_EN g) || decide (sd.get (F.PB_GRP_PERIOD g) = 0) || decide (row % sd.get (F.PB_GRP_PERIOD g) ≠ 0) then sd
  else
    let frame := sd.meterFrame devid me g row
    let buf := sd.get (F.PB_GRP_SEQ g) % 2
    let line := sd.get (F.PB_GRP_CHANNEL g)
    let drop := sd.frameDropped g
    let sd := (List.range (sd.get (F.PB_GRP_COUNT g))).foldl (fun (x : Side) i =>
      if x.groupOf (x.get (F.PB_GRP_FIRST g) + i) = some g then x.framed (x.get (F.PB_GRP_FIRST g) + i) else x) sd
    let sd := sd.incWrap (F.PB_GRP_SEQ g)
    if drop then sd.incSat (F.PB_GRP_LOST g)
    else
      let sd := (sd.set (F.PB_GRP_LOST g) 0).putBytes (frameBase g buf) frame
      let first := !sd.gauge.frames.any (fun e => e.2.2.2 = line)
      let sd := { sd with gauge := { sd.gauge with frames := sd.gauge.frames ++ [(g, buf, frame.length, line)] } }
      if first then sd.lineRequest line (some (frameBase g buf, frame.length)) else sd

/-- The frame that a channel has delivered is done with, and the next one waiting for the channel is requested. -/
def Side.frameDone (sd : Side) (line : Nat) : Side :=
  match sd.gauge.frames.find? (fun e => e.2.2.2 = line) with
  | none => sd
  | some e =>
    let sd := { sd with gauge := { sd.gauge with frames := sd.gauge.frames.erase e } }
    match sd.gauge.frames.find? (fun e => e.2.2.2 = line) with
    | some n => sd.lineRequest line (some (frameBase n.1 n.2.1, n.2.2.1))
    | none => sd

/-- R167: the end of the Gauge engine's row. -/
def Side.captureFrames (sd : Side) (devid me : Nat) : Side :=
  if sd.clocked && sd.gateOpen 33 && sd.gauge.captureDue then
    let sd := { sd with gauge := { sd.gauge with captureDue := false } }
    (List.range 8).foldl (fun (x : Side) g => x.captureGroup devid me sd.gauge.row g) sd
  else sd

/-! ### The commands -/

/-- METER_FRAME_CAPTURE (R167). -/
def execMeterFrameCapture (sd : SideId) (s : State) : Answer :=
  s.go sd (fun x => x.captureFrames (s.host.get F.HP_ID_DEVID) sd.num)

/-- DMA_CHANNEL_PARK (R439). -/
def execDmaChannelPark (sd : SideId) (c : Fin 16) (s : State) : Answer := s.go sd (fun x => if x.alive then x.dmaPark c.val else x)

/-- Whether a writer may write REC_CONS: the host, of a lent channel, in every life-cycle state (R438). -/
def Side.mayConsume (sd : Side) (w : Writer) (c : Nat) : Bool := sd.mayWrite w || (sd.alive && sd.lent c)

/-- DMA_RECORD_CONSUME (R438). -/
def execDmaRecordConsume (sd : SideId) (w : Writer) (c : Fin 16) (v : BitVec 16) (s : State) : Answer :=
  s.go sd (fun x => if x.mayConsume w c.val && (decide (w = .firmware) || s.host.open) then x.consume c.val v.toNat else x)

end Sys2Proof.Machine
end

