-- ==== Sys2Proof/Machine/Views.lean ====
section
/-!
DEFINITION. The Side's memory space (R441, R442): targets and the masters that reach them (R423), the views of the C banks, the Cross
gains and the Patchbay tables (R133, R170), and reads and writes of it with their responses and ECC (R446 to R450).
-/
namespace Sys2Proof.Machine

open Sys2Proof

/-! ### Targets (Table FB-2) -/

/-- The masters that Table FB-2 names for a target, and those of them that only read it. -/
def targetMasters (t : Nat) : List Nat × List Nat :=
  if t < 12 then ([1, 2, 3, 4, 7, 8, 11], [3])
  else if t < 20 then ([1, 2, 3, 4, 8, 9, 11], [3])
  else
    match t with
    | 20 => ([1, 2, 3, 4, 8, 10, 11], [3])
    | 21 => ([1, 2, 3, 4, 8, 9, 11], [3])
    | 22 => ([1, 2, 3, 4, 8, 9, 10, 11], [3, 9, 10])
    | 23 => ([0, 1, 2, 3, 4, 5, 6, 8, 11], [3])
    | 24 => ([1, 2, 3, 4, 5, 8, 11], [3])
    | 25 => ([1, 8], [])
    | 26 => ([1, 2, 3, 4, 9, 11], [])
    | 27 => ([2], [])
    | 28 => ([1, 2], [])
    | _ => ([], [])

/-- R423: the response to a request of master `m` that does not reach target `t`: DECERR, or SLVERR for a write of a master that only
reads it. Master 4 writes the peripheral bridge and does not read it. -/
def reachResp (t m : Nat) (write : Bool) : Nat :=
  let p := targetMasters t
  if !p.1.contains m then 3 else if write && p.2.contains m then 4 else if t = 26 ∧ m = 4 ∧ !write then 3 else 0

/-! ### Views -/

/-- The view of Table XA-3 and the crosspoint that an address names. -/
def gainView (a : Nat) : Nat × Nat × Nat := ((a - 0x07000000) / 0x400000, gainIndex ((a - 0x07000000) % 0x400000))

/-- The address at which the 32-bit word at `a` is stored: behind the C views (R442), the gain views (R133) and the selection
tables (R170), the bank they name; none where no view is. -/
def Side.physWord (sd : Side) (a : Nat) : Option Nat :=
  match fabTarget a with
  | 20 =>
    let v := gainView a
    (sd.viewBank v.1 v.2.2).map (fun b => gainAddr b v.2.1 v.2.2)
  | 21 =>
    let o := a - 0x0A000000
    if o < 0x10000 then some (selBase sd.active + o)
    else if o < 0x20000 then some (selBase (1 - sd.active) + (o - 0x10000))
    else if o < 0x90000 then some a
    else none
  | 26 | 31 => none
  | t =>
    if 12 ≤ t ∧ t < 20 then
      let k := (a - 0x06000000) / 0x80000
      let o := a % 0x80000
      let act := sd.get (F.SK_CBANK_ACTIVE k)
      if o < 0x60000 then some a
      else if o < 0x70000 then some (cBank k (1 - act) + (o - 0x60000))
      else some (cBank k act + (o - 0x70000))
    else some a

/-- R446, R454: what a bank's state does to an access: 4 while a macro of it is under test, and for a write while it is not On. -/
def Side.bankResp (sd : Side) (p : Nat) (write : Bool) : Nat :=
  match bankOf p with
  | some b => if sd.flag (F.MM_BANK_TESTING b) then 4 else if write && !sd.bankOn b then 4 else 0
  | none => 3

/-- Whether a bank gives an access its stored words. -/
def Side.bankLives (sd : Side) (p : Nat) : Bool := (bankOf p).any (fun b => sd.bankOn b) && decide (sd.bankResp p false = 0)

/-- A stored 32-bit word as a fabric reader receives it: a gain reads sign-extended (R133). -/
def Side.storedWord (sd : Side) (a p : Nat) : Nat :=
  let w := (sd.rtWord p).toNat
  if fabTarget a = 20 then ofSigned 32 (toSigned 24 w) else w

/-- The 32-bit word at `a` and the response (R423, R446, R447). -/
def Side.viewWord (sd : Side) (a : Nat) : Nat × Nat :=
  match sd.physWord a with
  | none => (0, 3)
  | some p =>
    if sd.bankLives p then (sd.storedWord a p, if sd.upset p = 2 then 5 else 0) else (0, sd.bankResp p false)

/-- The response of a burst: that of its first word that is not answered OKAY (log entry 43). -/
def firstResp (l : List Nat) : Nat := (l.find? (fun r => r ≠ 0)).getD 0

/-- The addresses of `n` words from `a`. -/
def wordsFrom (a n : Nat) : List Nat := (List.range n).map (fun i => a + 4 * i)

/-- R447: the error counts and records of the 64-bit words that hold the words at `ws`, each once. -/
def Side.touchWords (sd : Side) (ws : List Nat) : Side :=
  ((ws.filterMap (fun a => (sd.physWord a).filter sd.bankLives)).map (fun p => p / 8 * 8)).eraseDups.foldl (fun (x : Side) p =>
    if sd.upset p = 2 then (x.eccTouch p).fatalUe p else x.eccTouch p) sd

/-- A read of `n` words of the memory space from `a`. -/
def Side.spaceRead (sd : Side) (a n : Nat) : Side × List Byte × Nat :=
  let vals := (wordsFrom a n).map sd.viewWord
  (sd.touchWords (wordsFrom a n), vals.flatMap (fun v => leBytes 4 v.1), firstResp (vals.map Prod.snd))

/-! ### Writes -/

/-- Whether a unit's RUN lets firmware write its words, or the write is a mirror write (R66, R133, R242). -/
def Side.idleOr (sd : Side) (run : Fld) (mirror : Bool) : Nat := if mirror || !sd.flag run then 0 else 4

/-- R160: whether units 33 and 34 run from the Active table. A change of RUN takes effect at the next row boundary, and at once where the
row pulse does not run (log entry 132). -/
def Side.patchRuns (sd : Side) : Bool := sd.gauge.running && (sd.pulsing || sd.flag F.PB_CTRL_RUN)

/-- The response of the view that a word lies in to a write of it, before its bank answers (Tables MM-2, XA-3, PB-12,
R350). -/
def Side.viewResp (sd : Side) (a : Nat) (mirror : Bool) : Nat :=
  match fabTarget a with
  | 20 =>
    match (gainView a).1 with
    | 0 | 1 => sd.idleOr F.XA_CTRL_RUN mirror
    | 2 => 0
    | 4 | 5 | 6 => if mirror then 0 else 4
    | _ => 3
  | 21 =>
    let o := a - 0x0A000000
    if o < 0x10000 then (if mirror || !sd.patchRuns then 0 else 4)
    else if o < 0x20000 then 0
    else if 0x50000 ≤ o ∧ o < 0x70000 then 0
    else if o < 0x90000 then (if mirror then 0 else 4)
    else 3
  | 24 =>
    let i := (a - 0x09F80000) / 128
    if 0x09F80000 ≤ a ∧ a < 0x09F88000 ∧ !mirror then
      (if sd.flowF i 0 0 1 = 1 ∨ startMask i (a % 128 / 4) = 0 then 4 else 0)
    else 0
  | t =>
    if 12 ≤ t ∧ t < 20 then
      let o := a % 0x80000
      if o < 0x20000 ∨ 0x70000 ≤ o then sd.idleOr (F.SK_CTRL_RUN ((a - 0x06000000) / 0x80000)) mirror else 0
    else 0

/-- The response to a write of the word at `a`. -/
def Side.writeResp (sd : Side) (a : Nat) (mirror : Bool) : Nat :=
  match sd.physWord a with
  | none => 3
  | some p => if sd.viewResp a mirror ≠ 0 then sd.viewResp a mirror else sd.bankResp p true

/-- The bits of a meter parameter word that a write stores (Table PB-6); the rest are read only or zero. -/
def meterBits (w : Nat) : Nat := [0x00FF8000, 0x3FFF0FFF, 0x3FF, 0xFFFFFFFF, 0xFFFFFFFF, 0x1FFFFF, 0xFFFFFFFF, 0].getD w 0

/-- What a write of the word at `a` leaves stored: a gain's bits [31:24] are ignored (R133), a meter parameter's read-only fields keep
their values (R170), a flow record takes its Start fields and its shadow its Take fields (R350). -/
def storeForm (a old new : Nat) (mirror : Bool) : Nat :=
  match fabTarget a with
  | 20 => new % 2 ^ 24
  | 21 =>
    let o := a - 0x0A000000
    if 0x50000 ≤ o ∧ o < 0x70000 && !mirror then mergeMask old new (meterBits (o / 4 % 8)) else new
  | 24 =>
    if 0x09F80000 ≤ a ∧ a < 0x09F88000 && !mirror then mergeMask old new (startMask ((a - 0x09F80000) / 128) (a % 128 / 4))
    else if 0x09F90000 ≤ a ∧ a < 0x09F98000 then mergeMask 0 new (takeMask ((a - 0x09F90000) / 128) (a % 128 / 4))
    else new
  | _ => new

/-- What the fabric's writes tell the units: the words a running refill is to leave (R85, R139, R159). -/
def Side.noteWrite (sd : Side) (a p : Nat) : Side :=
  match fabTarget a with
  | 20 =>
    let v := gainView a
    if v.1 = 2 then sd.noteGainWrite ((p - 0x08000000) / 0x400000) v.2.1 v.2.2 else sd
  | 21 =>
    let o := a - 0x0A000000
    if 0x10000 ≤ o ∧ o < 0x20000 && sd.gauge.refill then
      { sd with gauge := { sd.gauge with written := (o - 0x10000) / 4 :: sd.gauge.written } }
    else sd
  | _ =>
    if h : 0x06000000 ≤ a ∧ a < 0x07000000 then
      let k : Fin 32 := ⟨(a - 0x06000000) / 0x80000, by omega⟩
      let o := a % 0x80000
      if 0x60000 ≤ o ∧ o < 0x70000 && (sd.cores[k]).refill then
        sd.setCore k { sd.cores[k] with refillWritten := (o - 0x60000) / 16 :: (sd.cores[k]).refillWritten }
      else sd
    else sd

/-- Bytes merged into a word by their strobes. -/
def strobed (old : Nat) (data : List Byte) (st : List Bool) : Nat :=
  leVal ((List.range 4).map (fun i => if st.getD i false then data.getD i 0 else (leBytes 4 old).getD i 0))

/-- Stores a 32-bit word of the memory space by its strobes. -/
def Side.putView (sd : Side) (a p : Nat) (data : List Byte) (st : List Bool) (mirror : Bool) : Side :=
  let old := (sd.rtWord p).toNat
  let x := sd.putBytes p (leBytes 4 (storeForm a old (strobed old data st) mirror))
  if mirror then x else x.noteWrite a p

/-- R460: while TAMPER_N is low, writes to the secure bank are discarded. -/
def Side.tamperLow (sd : Side) (a : Nat) : Bool := decide (fabTarget a = 25) && !sd.flag F.MM_SEC_STAT_TAMPER_N

/-- One half of a 64-bit write: merged with its 64-bit word (R448). -/
def Side.mergeHalf (sd : Side) (a : Nat) (data : List Byte) (st : List Bool) (mirror : Bool) : Side × Nat :=
  if !st.any id then (sd, 0)
  else
    let r := sd.writeResp a mirror
    match sd.physWord a with
    | some p =>
      if r = 0 then
        let bad := sd.upset p = 2
        let x := (sd.mergeUpset p).putView a p data st mirror
        (if bad then x.fatalUe p else x, if bad then 5 else 0)
      else (sd, r)
    | none => (sd, r)

/-- A write of the 64-bit word at `a`: its bytes and strobes. A write of all of it needs no merge (R448). -/
def Side.write64 (sd : Side) (a : Nat) (data : List Byte) (st : List Bool) (mirror : Bool) : Side × Nat :=
  if sd.tamperLow a then (sd, 0)
  else
    let s0 := st.take 4
    let s1 := (st.drop 4).take 4
    let n := if fabTarget a = 20 then 3 else 4
    let full := (s0.take n).all id && (s1.take n).all id && decide (n ≤ s0.length ∧ n ≤ s1.length)
    match sd.physWord a, sd.physWord (a + 4) with
    | some p, some q =>
      if full && decide (q = p + 4) && decide (sd.writeResp a mirror = 0) && decide (sd.writeResp (a + 4) mirror = 0) then
        (((sd.setUpset p 0).putView a p data s0 mirror).putView (a + 4) q (data.drop 4) s1 mirror, 0)
      else
        let x := sd.mergeHalf a data s0 mirror
        let y := x.1.mergeHalf (a + 4) (data.drop 4) s1 mirror
        (y.1, firstResp [x.2, y.2])
    | _, _ =>
      let x := sd.mergeHalf a data s0 mirror
      let y := x.1.mergeHalf (a + 4) (data.drop 4) s1 mirror
      (y.1, firstResp [x.2, y.2])

/-- Whether a target has a real-time port (R64, R134, R159, R449). -/
def realTime (t : Nat) : Bool := decide (t ≤ 21)

/-- R449: a write of 64-bit words from `a`; those at the places in `collide` lose to a real-time port. -/
def Side.writeWords (sd : Side) (a : Nat) (mirror : Bool) (collide : List Nat) : Nat → List (List Byte × List Bool) → Side × List Nat
  | _, [] => (sd, [])
  | i, w :: rest =>
    let x := if collide.contains i && !mirror && realTime (fabTarget a) && w.2.any id then (sd, 1) else sd.write64 a w.1 w.2 mirror
    let r := x.1.writeWords (a + 8) mirror collide (i + 1) rest
    (r.1, x.2 :: r.2)

/-- Cuts a list into pieces of eight. -/
def eights {α : Type} : Nat → List α → List (List α)
  | 0, _ => []
  | n + 1, l => l.take 8 :: eights n (l.drop 8)

/-- A write of bytes with their strobes into the memory space from `a`, and its response. -/
def Side.spaceWrite (sd : Side) (a : Nat) (data : List Byte) (st : List Bool) (mirror : Bool) (collide : List Nat) : Side × Nat :=
  let pad := a % 8
  let d := List.replicate pad 0 ++ data
  let t := List.replicate pad false ++ st
  let n := (d.length + 7) / 8
  let r := sd.writeWords (a / 8 * 8) mirror collide 0 ((eights n d).zip (eights n t))
  (r.1, firstResp r.2)

/-! ### Gates (R259) -/

/-- Whether the island that an address lies in is gated, and whether its gate is closing softly (R258). -/
def Side.gatedAt (sd : Side) (a : Nat) : Bool := (addrGate a).any (fun k => !sd.gateOpen k)
def Side.closingAt (sd : Side) (a : Nat) : Bool := (addrGate a).any (fun k => sd.clk.closing.testBit k)

/-- Whether the bank behind an address answers before its gate is asked: it is under test, or not On (R36, R446, R454; log
entry 44). -/
def Side.bankAnswers (sd : Side) (a : Nat) : Bool :=
  match sd.physWord a with
  | some p => (bankOf p).any (fun b => sd.flag (F.MM_BANK_TESTING b) || !sd.bankOn b)
  | none => false

/-- A read by master `m` of `n` words from `a`, without the registers: its response, bytes and what it leaves (R423, R259). The
peripheral bridge answers such a burst with SLVERR (R10, R424). -/
def Side.masterRead (sd : Side) (m a n : Nat) : Side × List Byte × Nat :=
  let r := reachResp (fabTarget a) m false
  let zero := leBytes (4 * n) 0
  if r ≠ 0 then (sd, zero, r)
  else if fabTarget a = 26 then (sd, zero, 4)
  else if sd.gatedAt a && !sd.bankAnswers a then (sd.set F.FB_STAT_ORPHAN 1, zero, 2)
  else sd.spaceRead a n

/-- A write by master `m` of bytes from `a`, without the registers. `late` decides whether a write that the orphan responder answers
is carried out (R259); `mirror` marks a mirror write (R242). -/
def Side.masterWrite (sd : Side) (m a : Nat) (data : List Byte) (st : List Bool) (collide : List Nat) (mirror late : Bool) : Side × Nat :=
  let r := reachResp (fabTarget a) m true
  if r ≠ 0 then (sd, r)
  else if fabTarget a = 26 then (sd, 4)
  else if sd.gatedAt a && !sd.bankAnswers a then
    ((if late then (sd.spaceWrite a data st mirror collide).1 else sd).set F.FB_STAT_ORPHAN 1, 2)
  else sd.spaceWrite a data st mirror collide

end Sys2Proof.Machine
end

