-- ==== Sys2Proof/Machine/DmaJob.lean ====
section
/-!
DEFINITION. The DMA engine's jobs: their transfers (R432, R436), their start and end (R434, R435, R437) and RESUME (R438).
-/
namespace Sys2Proof.Machine

open Sys2Proof

/-- R431: the fabric error record after an error response of target `t` to master `m` at `a`; a DECERR comes from the
default target. -/
def Side.fabError (sd : Side) (m t resp : Nat) (write : Bool) (a : Nat) : Side :=
  if resp ≤ 1 then sd
  else if sd.flag F.FB_STAT_ERR then (sd.incSat F.FB_ERR_CNT_COUNT).set F.FB_STAT_MULTI 1
  else
    let sd := ((sd.set F.FB_ERR_INFO_MASTER m).set F.FB_ERR_INFO_TARGET (if resp = 3 then 31 else t)).set F.FB_ERR_INFO_RESP resp
    (((sd.set F.FB_ERR_INFO_WRITE write.toNat).set F.FB_ERR_INFO_VALID 1).set F.FB_ERR_ADDR a).set F.FB_STAT_ERR 1

/-- Changes the job that the engine runs. -/
def Side.onJob (sd : Side) (f : DmaJob → DmaJob) : Side := sd.onDma (fun d => { d with job := d.job.map f })

/-! ### Bursts (R432) -/

/-- The first failing place of a list of responses that are not OKAY: its index and its response. -/
def firstBad (l : List Nat) : Option (Nat × Nat) :=
  (l.zipIdx.find? (fun p => p.1 ≠ 0)).map (fun p => (p.2, p.1))

/-- Reads `n` beats of 32 bytes from `a` as the DMA engine: the bytes and each beat's response. -/
def Side.readBeats (sd : Side) (a : Nat) : Nat → Side × List Byte × List Nat
  | 0 => (sd, [], [])
  | n + 1 =>
    let x := sd.masterRead 2 a 8
    let r := x.1.readBeats (a + 32) n
    (r.1, x.2.1 ++ r.2.1, x.2.2 :: r.2.2)

/-- Writes bytes from `a` beat by beat as the DMA engine: each beat's response. A write that the orphan responder answers is carried
out or not, as `late` says. -/
def Side.writeBeats (sd : Side) (late : Bool) : Nat → Nat → List Byte → Side × List Nat
  | 0, _, _ => (sd, [])
  | n + 1, a, data =>
    let d := data.take 32
    let x := sd.masterWrite 2 a d (d.map (fun _ => true)) [] false late
    let r := x.1.writeBeats late n (a + 32) (data.drop 32)
    (r.1, x.2 :: r.2)

/-- The beats of `n` bytes. -/
def beatsOf (n : Nat) : Nat := (n + 31) / 32

/-- The bytes from `src` and `dst` up to the next 4 KiB boundary of either (R432). -/
def burstLen (src dst n : Nat) : Nat := min n (min (4096 - src % 4096) (4096 - dst % 4096))

/-- R436, R431: the engine's halt at beat `b` of a burst from `a` answered by target `t`. -/
def Side.dmaFail (sd : Side) (c a : Nat) (write : Bool) (p : Nat × Nat) : Side :=
  let at' := a + 32 * p.1
  ((sd.fabError 2 (fabTarget at') p.2 write at').dmaHalt c at' write p.1 p.2).onJob (fun j => { j with retry := true })

/-- Bytes to the destination of channel `c`'s job: host memory (R421, R436) or the Side's memory space. The Bool says that the write
was carried out. -/
def State.dmaPut (s : State) (sd : SideId) (c : Nat) (toHost : Bool) (dst : Nat) (data : List Byte) : State × Bool :=
  let fail := fun (f : Side → Side) => (s.onSide sd f, false)
  if toHost then
    if s.host.masters then ({ s with host := { s.host with memWrite := some (dst, data) } }, true)
    else fail (fun x => (x.dmaHalt c dst true 0 6).onJob (fun j => { j with retry := true }))
  else
    let ch := s.choice
    let r := (s.side sd).writeBeats ch.1 (beatsOf data.length) dst data
    match firstBad r.2 with
    | some p => (ch.2.setSide sd (r.1.dmaFail c dst true p), false)
    | none => (ch.2.setSide sd r.1, true)

/-- The bursts of one transfer: `n` bytes from `src` to `dst`. -/
def State.dmaBursts (s : State) (sd : SideId) (c : Nat) (toHost : Bool) : Nat → Nat → Nat → Nat → State × Bool
  | 0, _, _, _ => (s, true)
  | fuel + 1, src, dst, n =>
    if n = 0 then (s, true)
    else
      let k := burstLen src dst n
      let r := (s.side sd).readBeats src (beatsOf k)
      match firstBad r.2.2 with
      | some p => (s.setSide sd (r.1.dmaFail c src false p), false)
      | none =>
        let w := (s.setSide sd r.1).dmaPut sd c toHost dst (r.2.1.take k)
        if w.2 then w.1.dmaBursts sd c toHost fuel (src + k) (dst + k) (n - k) else w

/-! ### Transfers -/

/-- The bytes of a transfer, and the transfers of a job. -/
def Side.xferBytes (sd : Side) (c : Nat) : Nat := 32 * (sd.get (F.DMA_CH_BURST c) + 1)
def Side.xfers (sd : Side) (j : DmaJob) : Nat := (j.len + sd.xferBytes j.ch - 1) / sd.xferBytes j.ch

/-- Whether a job's transfers are all done. -/
def Side.jobMoved (sd : Side) (j : DmaJob) : Bool := !j.retry && decide (sd.xfers j ≤ j.next)

/-- R437: whether bytes of a job in a data region lie outside it. -/
def Side.outOfRegion (sd : Side) (j : DmaJob) (a n : Nat) : Bool :=
  let len := sd.get (F.DMA_CH_DATA_LEN j.ch)
  decide (len ≠ 0) && (decide (a < sd.dataBase j.ch) || decide (sd.dataBase j.ch + len < a + n))

/-- The job's next transfer. -/
def State.dmaXfer (s : State) (sd : SideId) (j : DmaJob) : State :=
  let x := s.side sd
  let t := x.xferBytes j.ch
  let o := t * j.next
  let n := min t (j.len - o)
  if x.outOfRegion j (j.dst + o) n then
    s.onSide sd (fun x => (x.dmaHalt j.ch (j.dst + o) true 0 7).onJob (fun k => { k with retry := true }))
  else
    let r := s.dmaBursts sd j.ch j.toHost 3 (j.src + o) (j.dst + o) n
    if r.2 then
      r.1.onSide sd (fun x =>
        (x.set (F.DMA_CH_DONE_BYTES j.ch) (x.get (F.DMA_CH_DONE_BYTES j.ch) + n)).onJob
          (fun k => { k with next := k.next + 1, retry := false }))
    else r.1

/-- R258: the fabric holds back the next transfer of a job, whose source or destination lies in an island whose soft close runs. -/
def Side.dmaHeld (sd : Side) (j : DmaJob) : Bool :=
  let o := sd.xferBytes j.ch * j.next
  let held := fun a => sd.closingAt a && !sd.gatedAt a
  held (j.src + o) || (!j.toHost && held (j.dst + o))

/-- R433, R434: the engine serves the requests of the job that runs: a peripheral's one transfer for a request, a software job's all. -/
def State.dmaServe (s : State) (sd : SideId) : Nat → State
  | 0 => s
  | fuel + 1 =>
    let x := s.side sd
    match x.dma.job with
    | none => s
    | some j =>
      if x.flag F.DMA_STAT_HALTED || x.jobMoved j || !(j.retry || x.pendOn j.line) || x.dmaHeld j then s
      else
        let last := decide (x.xfers j ≤ j.next + 1)
        let s := if j.line < 48 && !j.retry || last then s.onSide sd (fun x => x.setPend j.line false) else s
        (s.dmaXfer sd j).dmaServe sd fuel

/-- As many steps as a job of the greatest length can need. -/
def dmaFuel (j : DmaJob) : Nat := j.len / 32 + 1

/-- Serves the job that runs, if there is one. The engine processes in no mode whose islands stand still (R268). -/
def State.dmaRun (s : State) (sd : SideId) : State :=
  match (s.side sd).dma.job with
  | some j => if (s.side sd).clocked then s.dmaServe sd (dmaFuel j) else s
  | none => s

/-! ### The end of a job (R435) -/

/-- Table FB-5. -/
def Side.record (sd : Side) (c status line off bytes : Nat) : List Byte :=
  leBytes 4 (c + 16 * status + 256 * line + 65536 * sd.get (F.DMA_CH_SEQ c)) ++
    leBytes 4 (if sd.get (F.DMA_CH_DATA_LEN c) = 0 then 0 else off) ++ leBytes 4 bytes ++ leBytes 4 sd.row

/-- The record ring's next entry. -/
def Side.recAddr (sd : Side) (c : Nat) : Nat := sd.recBase c + 16 * (sd.get (F.DMA_CH_REC_WR c) % sd.get (F.DMA_CH_REC_COUNT c))

/-- The Dorden Collector's pulse source `k`. -/
def Side.dordenPulse (sd : Side) (k : Nat) : Side := { sd with col := sd.col.input false (1 + k % 127) 1 1 false }

/-- What an issued record leaves (R435): REC_WR, SEQ, JOBS for a job that was completed, the Dorden Collector's pulse. -/
def Side.recorded (sd : Side) (c status off : Nat) : Side :=
  let e := (c, sd.get (F.DMA_CH_SEQ c), off, decide (status ≠ 3))
  let sd := (sd.incWrap (F.DMA_CH_REC_WR c)).incWrap (F.DMA_CH_SEQ c)
  let sd := if status ≤ 1 then sd.incWrap (F.DMA_CH_JOBS c) else sd
  (sd.onDma (fun d => { d with records := d.records ++ [e] })).dordenPulse (Config.dmaSource c)

/-- The record of channel `c` written, the state after it, and whether it could be written. -/
def State.dmaRecord (s : State) (sd : SideId) (c status line off bytes : Nat) : State × Bool :=
  let x := s.side sd
  let r := s.dmaPut sd c (x.flag (F.DMA_CH_HOSTDST c)) (x.recAddr c) (x.record c status line off bytes)
  if r.2 then (r.1.onSide sd (fun x => x.recorded c status off), true) else r

/-- The engine has ended a job. -/
def Side.jobEnd (sd : Side) (j : DmaJob) : Side :=
  let sd := ((sd.set (F.DMA_CH_ACTIVE j.ch) 0).set F.DMA_STAT_BUSY 0).onDma (fun d => { d with job := none })
  if j.line < 4 then sd.frameDone j.line else sd

/-- The offset of a job's data in the data region. -/
def Side.jobOff (sd : Side) (j : DmaJob) : Nat := if sd.get (F.DMA_CH_DATA_LEN j.ch) = 0 then 0 else j.off

/-- The job that runs ends with a status. -/
def State.dmaFinish (s : State) (sd : SideId) (j : DmaJob) (status : Nat) : State :=
  let x := s.side sd
  let r := s.dmaRecord sd j.ch status j.line (x.jobOff j) (x.get (F.DMA_CH_DONE_BYTES j.ch))
  if r.2 then r.1.onSide sd (fun x => x.jobEnd j)
  else r.1.onSide sd (fun x => x.onJob (fun k => { k with retry := false }))

/-! ### The start of a job (R434, R437) -/

/-- A job's source and length: the peripheral's header, or the channel's registers (R432). -/
def Side.jobHeader (sd : Side) (c line : Nat) : Option (Nat × Nat) :=
  if 48 ≤ line then
    some (sd.get (F.DMA_CH_SRC c), if sd.get (F.DMA_CH_LEN c) = 0 then 2 ^ 24 else sd.get (F.DMA_CH_LEN c))
  else (sd.dma.headers.find? (fun h => h.1 = line)).map (fun h => h.2)

/-- A job that channel `c` could start for line `line`: none while there is no room. A job whose `len` exceeds the data region is
given all the same (TOO_BIG). COPY writes to DST (R438). -/
def Side.jobFor (sd : Side) (c line : Nat) (h : Nat × Nat) : Option DmaJob :=
  let dlen := sd.get (F.DMA_CH_DATA_LEN c)
  let dst := sd.get64 (F.DMA_CH_DST_LO c) (F.DMA_CH_DST_HI c)
  let job := fun (dst off : Nat) =>
    ({ ch := c, line := line, src := h.1, len := h.2, dst := dst, toHost := sd.flag (F.DMA_CH_HOSTDST c), off := off, next := 0
       skipped := false, retry := false } : DmaJob)
  if sd.recFull c then none
  else if dlen = 0 then some (job dst 0)
  else if sd.lent c && decide (48 ≤ line) then some (job dst (dst - sd.dataBase c))
  else if dlen < h.2 then some (job 0 0)
  else (placeJob (sd.get (F.DMA_CH_DATA_OFF c)) dlen h.2 (sd.oldestData c)).map (fun a => job (sd.dataBase c + a) a)

/-- Whether a channel waits for the engine: a request or a parked job that was resumed. -/
def Side.parkedJob (sd : Side) (c : Nat) : Option DmaJob := sd.dma.parked.find? (fun j => j.ch = c)

/-- What channel `c` would start: a job taken up again, or a new one; none while it has nothing, or no room. -/
def Side.ready (sd : Side) (c : Nat) : Option DmaJob :=
  if !sd.flag (F.DMA_CH_EN c) || sd.flag (F.DMA_CH_HALTED c) then none
  else
    match sd.parkedJob c with
    | some j => some j
    | none =>
      match sd.pendingLine c with
      | none => none
      | some l => (sd.jobHeader c l).bind (fun h => sd.jobFor c l h)

/-- R437: a channel with a request and no room sets FULL. -/
def Side.noteFull (sd : Side) (c : Nat) : Side :=
  if sd.flag (F.DMA_CH_EN c) && !sd.flag (F.DMA_CH_HALTED c) && (sd.pendingLine c).isSome && (sd.ready c).isNone then
    sd.set (F.DMA_CH_FULL c) 1
  else sd

/-- The engine takes up a job. -/
def Side.takeJob (sd : Side) (j : DmaJob) : Side :=
  let again := (sd.parkedJob j.ch).isSome
  let sd := ((((sd.set F.DMA_STAT_BUSY 1).set F.DMA_STAT_CH j.ch).set (F.DMA_CH_ACTIVE j.ch) 1).set (F.DMA_CH_FULL j.ch) 0)
  let sd := sd.onDma (fun d =>
    { d with job := some j, parked := d.parked.filter (fun k => k.ch ≠ j.ch), headers := d.headers.filter (fun h => h.1 ≠ j.line) })
  if again then sd
  else
    let sd := sd.set (F.DMA_CH_DONE_BYTES j.ch) 0
    let dlen := sd.get (F.DMA_CH_DATA_LEN j.ch)
    if dlen = 0 || (sd.lent j.ch && decide (48 ≤ j.line)) then sd else sd.set (F.DMA_CH_DATA_OFF j.ch) (nextOff j.off j.len dlen)

/-- R437: a job longer than the data region is not started. -/
def State.dmaTooBig (s : State) (sd : SideId) (j : DmaJob) : State :=
  let r := s.dmaRecord sd j.ch 3 j.line 0 0
  if r.2 then
    r.1.onSide sd (fun x =>
      let x := ((x.set F.DMA_STAT_TOO_BIG 1).setPend j.line false).onDma (fun d =>
        { d with headers := d.headers.filter (fun h => h.1 ≠ j.line) })
      if j.line < 4 then x.frameDone j.line else x)
  else r.1

/-- R434: the engine, idle, starts the job of the lowest-numbered channel that is ready; those before it that lack room set FULL. -/
def State.dmaStart (s : State) (sd : SideId) : State :=
  let x := s.side sd
  if !x.clocked || !x.flag F.DMA_CTRL_EN || x.flag F.DMA_STAT_BUSY || x.flag F.DMA_STAT_HALTED then s
  else
    let s := s.onSide sd (fun x => (List.range 16).foldl Side.noteFull x)
    match (List.range 16).findSome? (fun c => x.ready c) with
    | none => s
    | some j =>
      let dlen := x.get (F.DMA_CH_DATA_LEN j.ch)
      if dlen ≠ 0 && decide (dlen < j.len) && (x.parkedJob j.ch).isNone && !(x.lent j.ch && decide (48 ≤ j.line)) then s.dmaTooBig sd j
      else (s.onSide sd (fun x => x.takeJob j)).dmaRun sd

/-! ### RESUME (R438) -/

/-- The failed transfer issued again, or skipped. -/
def DmaJob.resume (j : DmaJob) (skip : Bool) : DmaJob := if skip && j.retry then { j with next := j.next + 1, skipped := true, retry := false } else j

/-- R438, R439: RESUME of a halted or parked channel. -/
def State.dmaResume (s : State) (sd : SideId) (c : Nat) (skip : Bool) : State :=
  let clear := fun (x : Side) => ((x.set (F.DMA_CH_HALTED c) 0).set (F.DMA_CH_PARKED c) 0).set F.DMA_ERR_INFO_VALID 0
  if ((s.side sd).parkedJob c).isSome then
    s.onSide sd (fun x => (clear x).onDma (fun d => { d with parked := d.parked.map (fun j => if j.ch = c then j.resume skip else j) }))
  else
    (s.onSide sd (fun x => ((clear x).set F.DMA_STAT_HALTED 0).onJob (fun j => j.resume skip))).dmaRun sd

/-! ### The commands -/

/-- DMA_REQUEST (R433): a request of a peripheral; the first of a job gives its source and length. -/
def execDmaRequest (sd : SideId) (line : Fin 48) (src : BitVec 32) (len : Fin 16777216) (s : State) : Answer :=
  let n := if len.val = 0 then 2 ^ 24 else len.val
  if (s.side sd).clocked then s.answer ((s.onSide sd (fun x => x.lineRequest line.val (some (src.toNat, n)))).dmaRun sd) else .next s

/-- A write of DMA_SWREQ. -/
def Side.softRequestLine (sd : Side) (c : Nat) : Side := (sd.set F.DMA_SWREQ_CH c).lineRequest (48 + c) none

/-- DMA_SOFTWARE_REQUEST (R433). -/
def execDmaSoftwareRequest (sd : SideId) (w : Writer) (c : Fin 16) (s : State) : Answer :=
  s.go sd (fun x => if s.mayWrite sd w then x.softRequestLine c.val else x)

/-- DMA_JOB_START (R434). -/
def execDmaJobStart (sd : SideId) (s : State) : Answer := s.answer (s.dmaStart sd)

/-- DMA_JOB_COMPLETE (R435). -/
def execDmaJobComplete (sd : SideId) (s : State) : Answer :=
  let x := s.side sd
  match x.dma.job with
  | some j =>
    if x.clocked && !x.flag F.DMA_STAT_HALTED && x.jobMoved j then s.answer (s.dmaFinish sd j (if j.skipped then 1 else 0)) else .next s
  | none => .next s

/-- DMA_JOB_ABANDON (R434). -/
def execDmaJobAbandon (sd : SideId) (s : State) : Answer :=
  let x := s.side sd
  match x.dma.job with
  | some j =>
    if x.clocked && !x.flag F.DMA_STAT_HALTED && !x.jobMoved j && !x.pendOn j.line then
      s.answer ((s.onSide sd (fun x => x.set (F.DMA_CH_ABANDONED j.ch) 1)).dmaFinish sd j 2)
    else .next s
  | none => .next s

end Sys2Proof.Machine
end

