-- ==== Sys2Proof/Machine/Clocks.lean ====
section
/-!
DEFINITION. Clock start-up and supervision (R250 to R257, R263, R264), gates (R258 to R261, R495) and CLKOBS (R262).
-/
namespace Sys2Proof.Machine

open Sys2Proof

/-- Changes the clock and reset logic. -/
def Side.onClk (sd : Side) (f : ClkUnit → ClkUnit) : Side := { sd with clk := f sd.clk }

/-! ### Start-up -/

/-- Whether the Side is in Reset with no source asserted and its start-up stands at step `n`. -/
def Side.starting (sd : Side) (n : Nat) : Bool := decide (sd.mode = .reset ∧ sd.clk.asserted = 0 ∧ sd.clk.stage = n)

/-- R250: the start wait ends; the XIN monitor begins to qualify XIN. -/
def Side.startWaitOver (sd : Side) : Side := if sd.starting 1 then sd.onClk (fun c => { c with stage := 2 }) else sd

/-- The sum of 16 window counts divided by 16, rounded half to even (R264). -/
def meanOf16 (total : Nat) : Nat := if total % 16 > 8 ∨ (total % 16 = 8 ∧ total / 16 % 2 = 1) then total / 16 + 1 else total / 16

/-- R264: the calibration after 16 windows; E outside 520 to 820 is refused with FREQ_CAL. -/
def Side.calibrate (sd : Side) (counts : Vector Nat 16) : Side :=
  if sd.starting 2 then
    let e := meanOf16 counts.toList.sum
    let sd := (sd.set F.CK_XMON_CNT_CAL e).set F.CK_XMON_CNT_LAST counts[15]
    if 520 ≤ e ∧ e ≤ 820 then
      ((sd.set F.CK_XMON_STAT_CAL_DONE 1).set F.CK_XMON_STAT_XIN_OK 1).onClk (fun c => { c with stage := 4 })
    else ((sd.recordXloss 6).set F.CK_XMON_STAT_CAL_DONE 0).onClk (fun c => { c with stage := 3 })
  else sd

/-- R251: SYSPLL locks. -/
def Side.sysLock (sd : Side) : Side :=
  if sd.starting 4 then (sd.set F.CK_XMON_STAT_SYSPLL_LOCK 1).set F.CK_SYSPLL_LOCK 1 else sd

/-- Whether SERPLL loop `n` is on: SERPLL0 from the calibration on, the others by their RATE codes (Table CK-5). -/
def Side.serOn (sd : Side) (n : Fin 3) : Bool :=
  (sd.starting 4 || sd.alive) &&
    (match n with
    | 0 => true
    | 1 => sd.flag F.CK_SERPLL_RATE1
    | 2 => sd.flag F.CK_SERPLL_RATE2)

/-- R251, R254: a SERPLL loop locks. A held loop stays as it is (R268). -/
def Side.serLock (sd : Side) (n : Fin 3) : Side :=
  if sd.serOn n && !sd.flag F.CK_SERPLL_HOLD then sd.setBit F.CK_SERPLL_LOCK n.val true else sd

/-- R254: a write of a RATE code relocks that loop. -/
def Side.writeSerRate (sd : Side) (n rate : Nat) : Side :=
  let f := if n = 1 then F.CK_SERPLL_RATE1 else F.CK_SERPLL_RATE2
  if sd.get f = rate % 4 then sd else (sd.set f rate).setBit F.CK_SERPLL_LOCK n false

/-- R252: XIN without an edge, a refused calibration or SYSPLL out of lock for 1 ms: the cause is recorded and steps 3 to 6
of Table CK-3 start again. A refused calibration has recorded its cause already. -/
def Side.retryStart (sd : Side) (cause : StartCause) : Side :=
  match cause with
  | .noEdge => if sd.mode = .reset ∧ sd.clk.asserted = 0 ∧ 2 ≤ sd.clk.stage then (sd.set F.CK_XMON_STAT_XIN_OK 0).detect 1 else sd
  | .calibration => if sd.starting 3 then sd.startAgain else sd
  | .unlocked => if sd.starting 4 && !sd.flag F.CK_SYSPLL_LOCK then sd.detect 5 else sd

/-- R251 step 6, R257: once SYSPLL and SERPLL0 are locked, the island muxes stop WOSC and, at its falling edge, start their running sources
(R255); the repairs are applied (R457: they stand in MM_MACRO). Until WOSC shows that edge (`edge`) the muxes stand between their inputs. A
request before the sources run is refused. -/
def Side.islandSwitch (sd : Side) (edge : Bool) : Side :=
  if sd.mode = .reset ∧ sd.clk.asserted = 0 ∧ 1 ≤ sd.clk.stage ∧ sd.clk.stage ≤ 4 then
    if sd.clk.stage = 4 ∧ sd.flag F.CK_SYSPLL_LOCK ∧ sd.bit F.CK_SERPLL_LOCK 0 then
      if edge then ((sd.set F.CK_MUX_STAT_SWITCHING 0).set F.CK_MUX_STAT_ISLAND_SRC 1).onClk (fun c => { c with stage := 5 })
      else sd.set F.CK_MUX_STAT_SWITCHING 1
    else sd.set F.CK_XMON_STAT_MUX_REFUSED 1
  else sd

/-- Table PW-4: Frog, once the start-up is complete. -/
def Side.frogEntry (sd : Side) : Side :=
  if sd.starting 5 then (sd.changeMode .frog).set F.MM_STAT_FROG 1 else sd

/-! ### Supervision -/

/-- R263: no XIN edge for 8 WOSC cycles. -/
def Side.xinNoEdge (sd : Side) : Side :=
  if sd.monitored then (sd.set F.CK_XMON_STAT_XIN_OK 0).detect 1 else sd

/-- R263, R264: the end of a window of 1,024 XIN cycles that held `n` WOSC cycles. -/
def Side.xinWindow (sd : Side) (n : Nat) : Side :=
  if sd.monitored then
    let sd := sd.set F.CK_XMON_CNT_LAST n
    let e := sd.get F.CK_XMON_CNT_CAL
    if !sd.flag F.CK_XMON_STAT_CAL_DONE then sd
    else if 8 * n < 7 * e then (sd.set F.CK_XMON_STAT_XIN_OK 0).detect 2
    else if 9 * e < 8 * n then (sd.set F.CK_XMON_STAT_XIN_OK 0).detect 3
    else sd.set F.CK_XMON_STAT_XIN_OK 1
  else sd

/-- R263: SYSPLL out of lock. In Coast its loop is open and LOCK is 0, so nothing is detected (R267). -/
def Side.sysUnlock (sd : Side) : Side :=
  if sd.monitored && sd.flag F.CK_SYSPLL_LOCK then
    (((sd.incSat F.CK_SYSPLL_UNLOCKS).set F.CK_SYSPLL_LOCK 0).set F.CK_XMON_STAT_SYSPLL_LOCK 0).detect 5
  else sd

/-! ### Gates -/

/-- Whether a gate index has a gate (Table CK-6). -/
def gateExists (k : Nat) : Bool := decide (k < 34 ∨ (37 ≤ k ∧ k < 41))

/-- Whether gate `k` is asked to close (CK_GATE_REQ). -/
def Side.gateReq (sd : Side) (k : Nat) : Bool := sd.gateBit F.CK_GATE_REQ_LO F.CK_GATE_REQ_HI_A F.CK_GATE_REQ_HI_B k

/-- Whether gate `k` is to close hard. -/
def Side.gateHard (sd : Side) (k : Nat) : Bool := sd.gateBit F.CK_GATE_HARD_LO F.CK_GATE_HARD_HI_A F.CK_GATE_HARD_HI_B k

/-- R495: what closing its gate does to an island whose row work is unfinished; `reached` counts the steps the Cross array's
refill or collapse had taken (R145). -/
def Side.gateAbandon (sd : Side) (k reached : Nat) : Side :=
  if h : k < 32 then
    if (sd.cores[k]).inRow then sd.coreGateClosed ⟨k, h⟩ else sd
  else if k = 32 then
    if sd.cross.inRow then
      let sd := (sd.abandonBanks reached).crossStill
      { sd with cross := { sd.cross with inRow := false, refill := [], collapse := [], written := [] } }
    else sd
  else
    let sd := if k = 33 then ({ sd.gaugeLate with gauge := { sd.gauge with waits := none } } : Side) else sd
    let us := if k = 33 then [33, 34] else if k = 37 then [35, 36] else if k = 38 then [37, 38] else if k = 39 then [39, 40] else []
    sd.skip (us.filter sd.missed)

/-- The gate of island `k` closes; the gate cell answers for it from then on, so that what waited for it goes on (R260). -/
def Side.closeGate (sd : Side) (k reached : Nat) : Side :=
  let sd := (sd.gateAbandon k reached).setGateBit F.CK_GATE_STAT_LO F.CK_GATE_STAT_HI_A F.CK_GATE_STAT_HI_B k true
  (sd.onClk (fun c => { c with closing := withBit c.closing k false })).gaugeTry

/-- R258: a write of 1 to a REQ bit with HARD 0 starts a soft close. -/
def Side.softRequest (sd : Side) (k : Nat) : Side :=
  if gateExists k && !sd.gateHard k then
    let sd := sd.setGateBit F.CK_GATE_REQ_LO F.CK_GATE_REQ_HI_A F.CK_GATE_REQ_HI_B k true
    if sd.gateOpen k then sd.onClk (fun c => { c with closing := withBit c.closing k true }) else sd
  else sd

/-- R258: whether the island's fabric port has a transaction outstanding. -/
def Side.fabBusy (sd : Side) (k : Nat) : Bool := sd.fab.out.any (fun t => addrGate t.addr == some k)

/-- R259: the orphan responder completes what is outstanding to an island whose gate has closed hard. -/
def Side.orphanAll (sd : Side) (k : Nat) : Side :=
  if sd.fabBusy k then
    let out := sd.fab.out.map (fun t =>
      if addrGate t.addr == some k then { t with resp := 2, data := t.data.map (fun _ => 0) } else t)
    { sd.set F.FB_STAT_ORPHAN 1 with fab := { sd.fab with out := out } }
  else sd

/-- R258: the island's fabric port has nothing outstanding: the gate closes. -/
def Side.softClose (sd : Side) (k reached : Nat) : Side :=
  if sd.alive && sd.clk.closing.testBit k && !sd.fabBusy k then sd.closeGate k reached else sd

/-- R258: the soft close gives up. -/
def Side.softTimeout (sd : Side) (k : Nat) : Side :=
  if sd.alive && sd.clk.closing.testBit k then
    ((((sd.onClk (fun c => { c with closing := withBit c.closing k false })).setGateBit F.CK_GATE_REQ_LO F.CK_GATE_REQ_HI_A
      F.CK_GATE_REQ_HI_B k false).setGateBit F.CK_GATE_TO_LO F.CK_GATE_TO_HI_A F.CK_GATE_TO_HI_B k true)).set
      F.CK_XMON_STAT_GATE_TIMEOUT 1
  else sd

/-- R259: a write of 1 to a REQ bit with HARD 1 closes the gate. -/
def Side.hardClose (sd : Side) (k reached : Nat) : Side :=
  if gateExists k && sd.gateHard k then
    let sd := sd.setGateBit F.CK_GATE_REQ_LO F.CK_GATE_REQ_HI_A F.CK_GATE_REQ_HI_B k true
    if sd.gateOpen k then (sd.closeGate k reached).orphanAll k else sd
  else sd

/-- R261: a write of 0 to a REQ bit opens the gate, or ends a soft close that is under way. -/
def Side.openGate (sd : Side) (k : Nat) : Side :=
  if gateExists k then
    ((sd.setGateBit F.CK_GATE_REQ_LO F.CK_GATE_REQ_HI_A F.CK_GATE_REQ_HI_B k false).setGateBit F.CK_GATE_STAT_LO
      F.CK_GATE_STAT_HI_A F.CK_GATE_STAT_HI_B k false).onClk (fun c => { c with closing := withBit c.closing k false })
  else sd

/-- A write of a REQ bit (R258, R259, R261). -/
def Side.writeGateReq (sd : Side) (k : Nat) (v : Bool) (reached : Nat) : Side :=
  if !v then sd.openGate k else if sd.gateHard k then sd.hardClose k reached else sd.softRequest k

/-! ### CLKOBS -/

/-- R257: whether the source of a CLKOBS code runs, for the sources that have a monitor. -/
def Side.obsRuns (sd : Side) (sel : Nat) : Bool :=
  if sel = 0 then sd.flag F.CK_XMON_STAT_XIN_OK
  else if (2 ≤ sel ∧ sel ≤ 8) ∨ sel = 12 then sd.flag F.CK_SYSPLL_LOCK || sd.flag F.CK_SYSPLL_COAST
  else if 9 ≤ sel ∧ sel ≤ 11 then sd.bit F.CK_SERPLL_LOCK (sel - 9) || sd.flag F.CK_SERPLL_HOLD
  else true

/-- The CLKOBS mux takes the source of CK_OBS.SEL, unless that source does not run. It waits for the old clock's edge where
the old source does not run (R255 to R257). -/
def Side.obsSwitch (sd : Side) : Side :=
  let sel := sd.get F.CK_OBS_SEL
  if sel = sd.clk.obsSel then sd.set F.CK_MUX_STAT_OBS_SWITCHING 0
  else if !sd.obsRuns sel then sd.set F.CK_XMON_STAT_MUX_REFUSED 1
  else if !sd.obsRuns sd.clk.obsSel then sd.set F.CK_MUX_STAT_OBS_SWITCHING 1
  else (sd.set F.CK_MUX_STAT_OBS_SWITCHING 0).onClk (fun c => { c with obsSel := sel })

/-- R262: a change of CK_OBS.SEL. -/
def Side.writeObsSel (sd : Side) (sel : Nat) : Side :=
  if sd.get F.CK_OBS_SEL = sel % 32 then sd else (sd.set F.CK_OBS_SEL sel).obsSwitch

/-- R256: the forced switch of the CLKOBS mux, or of the island muxes, that stand between their inputs because the old clock shows no edge.
CLKOBS's new source must run (R257). -/
def Side.forcedSwitch (sd : Side) (obs : Bool) : Side :=
  if obs then
    if sd.alive && sd.flag F.CK_MUX_STAT_OBS_SWITCHING && sd.obsRuns (sd.get F.CK_OBS_SEL) then
      ((sd.set F.CK_XMON_STAT_CK_FORCED_SWITCH 1).set F.CK_MUX_STAT_OBS_SWITCHING 0).onClk
        (fun c => { c with obsSel := sd.get F.CK_OBS_SEL })
    else sd
  else if sd.starting 4 && sd.flag F.CK_MUX_STAT_SWITCHING && sd.flag F.CK_SYSPLL_LOCK && sd.bit F.CK_SERPLL_LOCK 0 then
    (sd.set F.CK_XMON_STAT_CK_FORCED_SWITCH 1).islandSwitch true
  else sd

/-- R262: at the divider's next rising output edge CLKOBS takes the divisor of CK_OBS.DIV. -/
def Side.obsDivide (sd : Side) : Side := if sd.alive then sd.onClk (fun c => { c with obsDiv := sd.get F.CK_OBS_DIV }) else sd

/-- R262: the level of the CLKOBS pin in the `cycle`-th input cycle since the divider's last rising edge, `input` being the level of the clock
that CK_OBS.SEL names: the clock itself for a divisor N of 1, else high for the first N/2, or (N + 1)/2, of N input cycles. Low for the
codes 0x18 to 0x1F, and while the mux stands between its inputs (R255). -/
def Side.clkobs (sd : Side) (cycle : Nat) (input : Bool) : Bool :=
  let n := sd.clk.obsDiv + 1
  if 24 ≤ sd.clk.obsSel || sd.flag F.CK_MUX_STAT_OBS_SWITCHING then false
  else if n = 1 then input
  else decide (cycle % n < (n + 1) / 2)

/-! ### The commands -/

/-- START_WAIT_EXPIRY (R250). -/
def execStartWaitExpiry (sd : SideId) (s : State) : Answer := s.go sd Side.startWaitOver

/-- XIN_CALIBRATION_DONE (R264), with the WOSC counts of the 16 windows. -/
def execXinCalibrationDone (sd : SideId) (counts : Vector Nat 16) (s : State) : Answer := s.go sd (fun x => x.calibrate counts)

/-- SYSPLL_LOCK (R251). -/
def execSyspllLock (sd : SideId) (s : State) : Answer := s.go sd Side.sysLock

/-- SERPLL_LOCK (R251). -/
def execSerpllLock (sd : SideId) (n : Fin 3) (s : State) : Answer := s.go sd (fun x => x.serLock n)

/-- STARTUP_RETRY (R252). -/
def execStartupRetry (sd : SideId) (cause : StartCause) (s : State) : Answer := s.go sd (fun x => x.retryStart cause)

/-- ISLAND_MUX_SWITCH (R255). `edge` says whether the old clock shows the edge at which the muxes stop it. -/
def execIslandMuxSwitch (m : MuxStep) (s : State) : Answer := s.go m.side (fun x => x.islandSwitch m.edge)

/-- MUX_FORCED_SWITCH (R256), of the CLKOBS mux or of the island muxes. -/
def execMuxForcedSwitch (sd : SideId) (obs : Bool) (s : State) : Answer := s.go sd (fun x => x.forcedSwitch obs)

/-- FROG_ENTRY (R469). -/
def execFrogEntry (sd : SideId) (s : State) : Answer := s.go sd Side.frogEntry

/-- XIN_NO_EDGE (R263). -/
def execXinNoEdge (sd : SideId) (s : State) : Answer := s.go sd Side.xinNoEdge

/-- XIN_WINDOW_END (R263), with the window's WOSC count. -/
def execXinWindowEnd (sd : SideId) (count : Nat) (s : State) : Answer := s.go sd (fun x => x.xinWindow count)

/-- XIN_GLITCH (R263): a phase of XIN that lasted `tenths` tenths of a nanosecond. One below 1.0 ns may pass undetected: a
free choice. One above 3.0 ns is no glitch. -/
def execXinGlitch (sd : SideId) (tenths : Nat) (s : State) : Answer :=
  if !(s.side sd).monitored ∨ 30 < tenths then .next s
  else if 10 ≤ tenths then s.go sd (fun x => x.detect 4)
  else
    let c := s.choice
    if c.1 then c.2.go sd (fun x => x.detect 4) else .next c.2

/-- SYSPLL_UNLOCK (R263). -/
def execSyspllUnlock (sd : SideId) (s : State) : Answer := s.go sd Side.sysUnlock

/-- CLKOBS_SELECT (R262): a write of CK_OBS.SEL. -/
def execClkobsSelect (sd : SideId) (w : Writer) (sel : Fin 32) (s : State) : Answer :=
  s.go sd (fun x => if s.mayWrite sd w then x.writeObsSel sel.val else x)

/-- CLKOBS_DIVIDER_CHANGE (R262). -/
def execClkobsDividerChange (sd : SideId) (s : State) : Answer := s.go sd Side.obsDivide

end Sys2Proof.Machine
end

