-- ==== Sys2Proof/Machine/Power.lean ====
section
/-!
DEFINITION. Supplies (R462 to R464), reset sources and release (R466 to R468), the watchdog (R499) and the life cycle
(R476 to R479).
-/
namespace Sys2Proof.Machine

open Sys2Proof

/-! ### Supplies -/

/-- The switch-over count of a rail pair. -/
def supplyCnt (pair : Fin 4) : Fld :=
  match pair with
  | 0 => F.PW_SUPPLY_CNT_VDDC
  | 1 => F.PW_SUPPLY_CNT_VDDS
  | 2 => F.PW_SUPPLY_CNT_VDDX
  | 3 => F.PW_SUPPLY_CNT_VDDA

/-- Table PW-2, R463: the main member has fallen below 93%. A Side that draws from it switches over; one that is on the
backup stays on it or goes back to it. -/
def Side.toBackup (sd : Side) (pair : Fin 4) : Side :=
  if sd.mode = .dark then sd
  else
    let sd' := sd.setBit F.PW_SUPPLY_MAIN_OK pair.val false
    if sd.bit F.PW_SUPPLY_ON_BACKUP pair.val then sd'
    else
      ((sd'.setBit F.PW_SUPPLY_ON_BACKUP pair.val true).setBit F.PW_SUPPLY_SWITCHED pair.val true).incSat (supplyCnt pair)

/-- Table PW-2: main has stayed at or above 95% for RETURN ms. -/
def Side.toMain (sd : Side) (pair : Fin 4) : Side :=
  if sd.mode ≠ .dark ∧ sd.bit F.PW_SUPPLY_ON_BACKUP pair.val then
    (sd.setBit F.PW_SUPPLY_ON_BACKUP pair.val false).setBit F.PW_SUPPLY_MAIN_OK pair.val true
  else sd

/-- Table PW-2: the backup member has fallen below 93% while the Side draws from main. -/
def Side.backupLow (sd : Side) (pair : Fin 4) : Side :=
  if sd.mode ≠ .dark ∧ !sd.bit F.PW_SUPPLY_ON_BACKUP pair.val then
    (sd.setBit F.PW_SUPPLY_BACKUP_OK pair.val false).setBit F.PW_SUPPLY_BACKUP_LOW pair.val true
  else sd

/-- R457: the repairs that marches allocated are lost with VDDC. -/
def Side.dropSoftRepairs (sd : Side) : Side :=
  { sd with regs := sd.regs.filter (fun p => !decide (0xC1000 ≤ p.1 / 32 ∧ p.1 / 32 < 0xC1A24 ∧ 3 ≤ p.1 % 32)) }

/-- R464: a supply loss on a pair, or of VDDIO. A life-cycle change under way is cut short (R479). -/
def Side.supplyLoss (sd : Side) (rail : Option (Fin 4)) : Side :=
  let sd :=
    match rail with
    | some p =>
      let f := if sd.bit F.PW_SUPPLY_ON_BACKUP p.val then F.PW_SUPPLY_BACKUP_OK else F.PW_SUPPLY_MAIN_OK
      let sd := sd.setBit f p.val false
      if p = 0 then sd.dropSoftRepairs else sd
    | none => sd.set F.PW_SUPPLY_VDDIO_OK 0
  { ({ sd with mode := .dark } : Side).assertReset 0 with fuses := { sd.fuses with change := none } }

/-- R464: every pair has a member, and VDDIO stands, at or above 95%: the Side goes from Dark to Reset. `main` and `backup`
have a bit per pair. -/
def Side.supplyReturn (sd : Side) (main backup : Nat) : Side :=
  if sd.mode = .dark ∧ (main ||| backup) % 16 = 15 then
    let sd := ((sd.set F.PW_SUPPLY_MAIN_OK main).set F.PW_SUPPLY_BACKUP_OK backup).set F.PW_SUPPLY_VDDIO_OK 1
    { sd.set F.PW_SUPPLY_ON_BACKUP (15 - main % 16) with mode := .reset }
  else sd

/-! ### Release -/

/-- R479: Halt with cause 1, which a Side also enters from its release. -/
def Side.haltMismatch (sd : Side) : Side :=
  if sd.mode = .dark ∨ sd.clk.asserted ≠ 0 then sd
  else if sd.mode = .reset then
    { (sd.set F.PW_HALT_CAUSE 1).set F.PW_HALT_VALID 1 with mode := .halt }
  else sd.halt 1

/-- R466: the release: PW_RST_CAUSE, the straps, and the start of the clock start-up. -/
def Side.leaveReset (sd : Side) (oscw : Nat) (mtest : Bool) : Side :=
  let since := sd.clk.since
  let causes := [F.PW_RST_CAUSE_POWER, F.PW_RST_CAUSE_PIN, F.PW_RST_CAUSE_HOST, F.PW_RST_CAUSE_SELF, F.PW_RST_CAUSE_PARTNER,
    F.PW_RST_CAUSE_LC_CHANGE, F.PW_RST_CAUSE_JTAG]
  let sd := causes.zipIdx.foldl (fun (x : Side) p => x.set p.1 (since.testBit p.2).toNat) sd
  ((sd.set F.CK_STRAP_OSCW oscw).set F.PW_STRAP_MTEST mtest.toNat).onClk
    (fun c => { c with asserted := 0, since := 0, stage := 1 })

/-- R466, R479: the last source of Side `sd` is released; the two Sides' life-cycle fuses are compared. -/
def State.releaseSide (s : State) (sd : SideId) (oscw : Nat) (mtest : Bool) : State :=
  let x := s.side sd
  if x.mode = .reset ∧ x.clk.stage = 0 then
    let s := s.setSide sd (x.leaveReset oscw mtest)
    if s.side0.fuses.lc ≠ s.side1.fuses.lc then
      { s with side0 := s.side0.haltMismatch, side1 := s.side1.haltMismatch }
    else s
  else s

/-! ### The watchdog -/

/-- R468: a write of PW_RESET. -/
def State.writeReset (s : State) (sd : SideId) (key : Nat) : State :=
  if (s.side sd).alive then
    if key = 0xA5C3 then s.resetSide sd 2 else s.onSide sd (fun x => x.set F.PW_RESET_KEY key)
  else s

/-- R499: the period in WOSC cycles. -/
def Side.wdogPeriod (sd : Side) : Nat := 4800 * sd.get F.CK_XMON_CNT_CAL

/-- R499: a write of PW_WDOG. A write of 0 to EN is discarded; KICK restarts the period. -/
def Side.writeWdog (sd : Side) (kick en : Bool) : Side :=
  let sd := sd.set F.PW_WDOG_KICK kick.toNat
  let sd := if en && !sd.flag F.PW_WDOG_EN then
      (sd.set F.PW_WDOG_EN 1).onClk (fun c => { c with wdog := sd.wdogPeriod })
    else sd
  if kick && sd.flag F.PW_WDOG_EN then sd.onClk (fun c => { c with wdog := sd.wdogPeriod }) else sd

/-- R499: a period without a KICK. -/
def Side.wdogExpiry (sd : Side) : Side := if sd.flag F.PW_WDOG_EN then sd.halt 5 else sd

/-! ### Life cycle -/

/-- The staged owner key hashes (PW_HASH_FW, PW_HASH_PAT), word 0 lowest. -/
def Side.stagedFw (sd : Side) : Nat := ((List.range 8).map (fun i => sd.get (F.PW_HASH_FW i) * 2 ^ (32 * i))).sum
def Side.stagedPat (sd : Side) : Nat := ((List.range 8).map (fun i => sd.get (F.PW_HASH_PAT i) * 2 ^ (32 * i))).sum

/-- R477, R478: whether the staged hashes rule out a change to Closed. -/
def State.hashesBad (s : State) : Bool :=
  let a := s.side0
  let b := s.side1
  let kept := fun (x : Side) =>
    (x.fuses.hashFw ≠ 0 && x.fuses.hashFw ≠ x.stagedFw) || (x.fuses.hashPat ≠ 0 && x.fuses.hashPat ≠ x.stagedPat)
  decide (a.stagedFw = 0 ∨ a.stagedPat = 0 ∨ b.stagedFw = 0 ∨ b.stagedPat = 0 ∨ a.stagedFw ≠ b.stagedFw ∨
    a.stagedPat ≠ b.stagedPat) || kept a || kept b

/-- R479: both Sides are in Halt with cause 1. -/
def State.mismatchHalt (s : State) : Bool :=
  decide (s.side0.mode = .halt ∧ s.side0.get F.PW_HALT_CAUSE = 1 ∧ s.side1.mode = .halt ∧ s.side1.get F.PW_HALT_CAUSE = 1 ∧
    s.side0.fuses.lc ≠ s.side1.fuses.lc)

/-- R477, R479: why a change to `target` is refused: 0 if it is accepted. -/
def State.lcCause (s : State) (target : Nat) : Nat :=
  let fit := fun (m : Mode) => decide (m = .castOn ∨ m = .ready ∨ m = .halt)
  if s.mismatchHalt then (if target = max s.side0.fuses.lc s.side1.fuses.lc then 0 else 1)
  else if target ≤ s.side0.fuses.lc ∨ target ≤ s.side1.fuses.lc then 1
  else if !fit s.side0.mode || !fit s.side1.mode then 2
  else if target = 2 && s.hashesBad then 3
  else 0

/-- PW_LC_STAT. -/
def Side.setLcStat (sd : Side) (result cause : Nat) : Side :=
  (sd.set F.PW_LC_STAT_RESULT result).set F.PW_LC_STAT_CAUSE cause

/-- R477: a change to `target` asked for in the windows that `told` names; one asked for while a change runs is discarded
(log entry 21). -/
def State.lcRequest (s : State) (told : List SideId) (target : Nat) : State :=
  if s.side0.fuses.change.isSome || s.side1.fuses.change.isSome then s
  else
    match s.lcCause target with
    | 0 =>
      let start := fun (x : Side) =>
        { x.setLcStat 1 0 with
          fuses := { x.fuses with change := some { target := target, recovery := s.mismatchHalt } } }
      { s with side0 := start s.side0, side1 := start s.side1 }
    | c => told.foldl (fun s sd => s.onSide sd (fun x => x.setLcStat 3 c)) s

/-- R477: a write of PW_LC_CMD in the window of Side `sd`. -/
def State.writeLcCmd (s : State) (sd : SideId) (target key : Nat) : State :=
  let x := s.side sd
  if x.alive ∧ (x.fuses.lc ≤ 1 ∨ s.mismatchHalt) then
    let s := s.onSide sd (fun x => (x.set F.PW_LC_CMD_TARGET target).set F.PW_LC_CMD_KEY key)
    if key = 0x7C1E then s.lcRequest [sd] target else s
  else s

/-- R478, R479: the fuses of Side `x` after its change, `y` being the other Side before it. -/
def Side.burn (x y : Side) : Side :=
  match x.fuses.change with
  | none => x
  | some c =>
    let f :=
      if c.recovery && decide (y.fuses.lc ≤ x.fuses.lc) then x.fuses
      else if c.target = 3 then { x.fuses with lc := 3, hashFw := 0, hashPat := 0 }
      else if c.target = 2 then
        let fw := if c.recovery then y.fuses.hashFw else if x.fuses.hashFw = 0 then x.stagedFw else x.fuses.hashFw
        let pat := if c.recovery then y.fuses.hashPat else if x.fuses.hashPat = 0 then x.stagedPat else x.fuses.hashPat
        { x.fuses with lc := 2, hashFw := fw, hashPat := pat }
      else { x.fuses with lc := c.target }
    { x.setLcStat 2 0 with fuses := { f with change := none } }

/-- R478: the change ends; each Side it acted on resets with LC_CHANGE. -/
def State.lcDone (s : State) : State :=
  let c0 := s.side0.fuses.change.isSome
  let c1 := s.side1.fuses.change.isSome
  let s := { s with side0 := s.side0.burn s.side1, side1 := s.side1.burn s.side0 }
  let s := if c0 then s.resetSide .s0 5 else s
  if c1 then s.resetSide .s1 5 else s

/-- The words of PW_LC are formed from the fuses: STATE, PARTNER, MISMATCH, KEYS_SET. -/
def State.lcWord (s : State) (sd : SideId) : Nat :=
  let a := (s.side sd).fuses
  let b := (s.side sd.other).fuses
  a.lc + 4 * b.lc + 16 * (decide (a.lc ≠ b.lc)).toNat + 32 * (decide (a.hashFw ≠ 0 ∨ a.hashPat ≠ 0)).toNat

/-! ### The commands -/

/-- SUPPLY_SWITCH_TO_BACKUP (R462). -/
def execSupplySwitchToBackup (sd : SideId) (pair : Fin 4) (s : State) : Answer := s.go sd (fun x => x.toBackup pair)

/-- SUPPLY_RETURN_TO_MAIN (R462). -/
def execSupplyReturnToMain (sd : SideId) (pair : Fin 4) (s : State) : Answer := s.go sd (fun x => x.toMain pair)

/-- SUPPLY_BACKUP_LOW (R462). -/
def execSupplyBackupLow (sd : SideId) (pair : Fin 4) (s : State) : Answer := s.go sd (fun x => x.backupLow pair)

/-- SUPPLY_LOSS (R464), of a rail pair or of VDDIO. -/
def execSupplyLoss (sd : SideId) (rail : Option (Fin 4)) (s : State) : Answer :=
  let t := s.onSide sd (fun x => x.supplyLoss rail)
  s.answer { t with host := t.host.dropFlash (flashCode sd) }

/-- SUPPLY_RETURN (R464), with the members at or above 95%. -/
def execSupplyReturn (sd : SideId) (main backup : Fin 16) (s : State) : Answer :=
  s.go sd (fun x => x.supplyReturn main.val backup.val)

/-- SIDE_RESET_PIN (R466): SRSTn_N low for `ns` nanoseconds. From 10 ns to 100 ns the filter may or may not pass it. -/
def execSideResetPin (sd : SideId) (ns : Nat) (s : State) : Answer :=
  if ns < 10 then .next s
  else if 100 ≤ ns then s.answer (s.resetSide sd 1)
  else
    let c := s.choice
    s.answer (if c.1 then c.2.resetSide sd 1 else c.2)

/-- PW_RESET_WRITE (R468). -/
def execPwResetWrite (sd : SideId) (key : BitVec 16) (s : State) : Answer :=
  s.answer (s.writeReset sd key.toNat)

/-- SIDE_RESET_RELEASE (R466), with the straps as sampled. -/
def execSideResetRelease (sd : SideId) (oscw : Fin 4) (mtest : Bool) (s : State) : Answer :=
  s.answer (s.releaseSide sd oscw.val mtest)

/-- JTAG_SIDE_RESET (R466), in Maker and Open only. -/
def execJtagSideReset (sd : SideId) (s : State) : Answer :=
  s.answer (if (s.side sd).fuses.lc ≤ 1 then s.resetSide sd 6 else s)

/-- JTAG_LC_RETIRE (R477). -/
def execJtagLcRetire (s : State) : Answer := s.answer (s.lcRequest [.s0, .s1] 3)

/-- WATCHDOG_ENABLE (R499). -/
def execWatchdogEnable (sd : SideId) (w : Writer) (s : State) : Answer :=
  s.go sd (fun x => if s.mayWrite sd w then x.writeWdog false true else x)

/-- WATCHDOG_KICK (R499). -/
def execWatchdogKick (sd : SideId) (w : Writer) (s : State) : Answer :=
  s.go sd (fun x => if s.mayWrite sd w then x.writeWdog true false else x)

/-- WATCHDOG_EXPIRY (R499). -/
def execWatchdogExpiry (sd : SideId) (s : State) : Answer := s.go sd Side.wdogExpiry

/-- FIRMWARE_FATAL_FAULT (R474). -/
def execFirmwareFatalFault (sd : SideId) (s : State) : Answer :=
  s.go sd (fun x => if 4 ≤ x.mode.code then x.halt 6 else x)

/-- LIFE_CYCLE_CHANGE_REQUEST (R477, R479). -/
def execLifeCycleChangeRequest (sd : SideId) (target : Fin 4) (key : BitVec 16) (s : State) : Answer :=
  s.answer (s.writeLcCmd sd target.val key.toNat)

/-- LIFE_CYCLE_CHANGE_DONE (R478). -/
def execLifeCycleChangeDone (s : State) : Answer := s.answer s.lcDone

end Sys2Proof.Machine
end

