-- ==== Sys2Proof/Machine/Bus.lean ====
section
/-!
DEFINITION. Register accesses (R9 to R14, R31 to R34): the words of the registers as they read, the rules under which a write is
carried out, and what a write of each register does. The registers that act by a write have the same meaning here as in the
commands that name them.
-/
namespace Sys2Proof.Machine

open Sys2Proof

/-! ### Collector registers (Tables HP-5 to HP-7) -/

/-- Bit `k` as a number. -/
def bitVal (k : Nat) (b : Bool) : Nat := if b then 2 ^ k else 0

/-- A word of 32 flags. -/
def flagWord (f : Nat → Bool) : Nat := ((List.range 32).map (fun j => bitVal j (f j))).sum

/-- HP_COL_STAT. -/
def Collector.statWord (c : Collector) : Nat :=
  c.req.toNat + 16 * c.rp + 256 * c.stack.length + bitVal 16 c.stackErr + bitVal 17 c.eoiMismatch +
    bitVal 18 (c.srcs.any (fun p => p.2.storm))

/-- A word of a Collector's registers but CLAIM and EOI. Stack entry 0 is the oldest (log entry 45). -/
def Collector.word (c : Collector) (host : Bool) (off : Nat) : Nat :=
  let i := off / 4
  if off = 8 then c.statWord
  else if 0x40 ≤ off ∧ off < 0x80 then
    match c.stack.reverse[i - 16]? with
    | some e => e.1 + 256 * e.2 + 2 ^ 31
    | none => 0
  else if 0x100 ≤ off ∧ off < 0x120 then flagWord (fun j => (c.src host (32 * (i - 0x40) + j)).pending)
  else if 0x120 ≤ off ∧ off < 0x140 then flagWord (fun j => (c.src host (32 * (i - 0x48) + j)).insvc)
  else if 0x404 ≤ off ∧ off < (if host then 0x800 else 0x600) then (c.src host (i - 0x100)).word
  else 0

/-- A write of all of HP_COL_SRCk (Table HP-7, R399, R400). -/
def ColSrc.write (x : ColSrc) (v : Nat) : ColSrc :=
  let x := { x with prio := v % 16, maxrate := v / 256 % 256 }.setSense (v / 16 % 8)
  let x := if v.testBit 7 then { x with coal := 0 } else x
  if v.testBit 27 then x.clearStorm else x

/-! ### How registers read -/

/-- A register of the host region, at its BAR0 offset. -/
def State.hostWord (s : State) (off : Nat) : Nat :=
  let h := s.host
  let w := Regs.word h.regs (0x1000000 + off)
  if off = 8 then s.side0.mode.code + 16 * s.side1.mode.code
  else if off = 0x20000 ∨ off = 0x20004 then w
  else if off / 0x10000 = 2 then
    h.col.word true (off - 0x20000) +
      (if 0x20404 ≤ off ∧ off < 0x20800 then 128 * h.get (F.HP_COL_SRC_CLR_COAL ((off - 0x20400) / 4)) else 0)
  else if off = 0x40004 then w + 256 * min h.relay.length 255
  else if 0x40100 ≤ off ∧ off < 0x40200 then
    let d := (off - 0x40100) / 4
    let pri := h.flag (F.HP_RLY_ROUTE_PRI_EN d) &&
      s.routeUsable (sideOf (h.get (F.HP_RLY_ROUTE_PRI_SIDE d))) (h.get (F.HP_RLY_ROUTE_PRI_LINK d))
    w + bitVal 8 ((s.routeOf d).isSome && !pri) + bitVal 9 ((s.routeOf d).isNone && decide (h.routeHeld d ≠ 0))
  else w

/-- ST (Table SK-5) with CBANK `bank`. -/
def StitchRegs.stWord (r : StitchRegs) (bank : Nat) : Nat :=
  r.ovf.toNat + 16 * r.sat.toNat + 256 * r.z.toNat + 4096 * r.n.toNat + 65536 * r.depth + bitVal 19 r.loopErr + 2 ^ 20 * bank

/-- The snapshot of a core (R97, Tables SK-13 and SK-14); while the core is halted, its live registers, with the row of the last pulse as
row tag: the spec ties the tag to EOR alone (DESIGN CHOICE, log entry 132). Loop stack entry 0 is the oldest (log entry 45). -/
def Side.snapWord (sd : Side) (k : Fin 32) (off : Nat) : Nat :=
  let c := sd.cores[k]
  let r := if c.halted then c.r else c.snap
  let row := if c.halted then sd.pulse.row else c.snapRow
  let i := (off - 0x100) / 4
  if 0x200 ≤ off then
    let l : Fin 4 := ⟨(off - 0x200) / 0x40 % 4, by omega⟩
    let o := off % 0x40
    if o < 0x20 then (r.v[(⟨o / 4 % 8, by omega⟩ : Fin 8)][l]).toNat * 256
    else
      let a := (r.a[(⟨(o - 0x20) / 8 % 4, by omega⟩ : Fin 4)][l]).toInt
      if o % 8 = 0 then ofSigned 32 a else ofSigned 32 (a / 2 ^ 32)
  else if i < 8 then (r.p.toList.getD i 0).toNat
  else if i < 16 then ofSigned 32 ((r.m.toList.getD (i - 8) 0).toInt)
  else if i < 24 then (r.l.toList.getD (i - 16) 0).toNat
  else if off = 0x160 then r.lc.toNat
  else if off = 0x164 then r.stWord (if c.halted then sd.get (F.SK_CBANK_ACTIVE k.val) else c.snapBank)
  else if 0x170 ≤ off ∧ off < 0x190 then
    match r.stack.reverse[(off - 0x170) / 8]? with
    | some e => if off % 8 = 0 then e.start.toNat + 65536 * e.stop.toNat else e.count.toNat
    | none => 0
  else if off = 0x1F0 then row % 2 ^ 32
  else if off = 0x1F4 then row / 2 ^ 32 % 2 ^ 32
  else if off = 0x1F8 then c.halted.toNat
  else 0

/-- A register of core `k`'s window (Table SK-8). -/
def Side.coreWord (sd : Side) (k : Fin 32) (off : Nat) : Nat :=
  let c := sd.cores[k]
  let w := Regs.word sd.regs (0x100000 + 0x10000 * k.val + off)
  if off = 4 then
    w + c.inRow.toNat + 2 * c.halted.toNat + 4 * (!c.stallOn.isEmpty).toNat + 8 * c.farWait.toNat + 16 * c.refill.toNat
  else if off = 0x10 then c.lastPc.toNat
  else if off = 0x38 then w + 2 * c.refill.toNat
  else if 0x100 ≤ off ∧ off < 0x300 then sd.snapWord k off
  else w

/-- The words of a Take queue entry (Table TK-12). -/
def Take.words (t : Take) : List Nat :=
  let row := t.row.getD 0
  [t.num, row % 2 ^ 32, row / 2 ^ 32 % 2 ^ 32, t.mask % 2 ^ 32,
    t.mask / 2 ^ 32 % 256 + 256 * t.desc + bitVal 12 t.floated + bitVal 13 t.cue.isSome + 65536 * t.cue.getD 0 + 2 ^ 24 * t.state]

/-- A register of the Take and Cue block. -/
def Side.takeWord (sd : Side) (off : Nat) : Nat :=
  let w := Regs.word sd.regs (0x70000 + off)
  if off = 0 then
    w + (sd.takes.queue.toList.filter Option.isSome).length + bitVal 4 (sd.takes.loader.any (fun j => j.started))
  else if 0x100 ≤ off ∧ off < 0x200 then
    match sd.takes.queue.toList.getD ((off - 0x100) / 0x20) none with
    | some t => t.words.getD (off % 0x20 / 4) 0
    | none => 0
  else w

/-- A register of the Side window at its offset. -/
def State.sideWord (s : State) (sd : SideId) (off : Nat) : Nat :=
  let x := s.side sd
  let w := Regs.word x.regs off
  if h : 0x100000 ≤ off ∧ off < 0x300000 then x.coreWord ⟨(off - 0x100000) / 0x10000, by omega⟩ (off % 0x10000)
  else if off / 0x10000 = 7 then x.takeWord (off % 0x10000)
  else if off / 0x10000 = 0xD then x.col.word false (off % 0x10000)
  else
    match off with
    | 0 => w + x.mode.code
    | 0x30 => s.lcWord sd
    | 0x30928 => x.gpioPads
    | 0x60008 => w + x.linkHeard.toNat + 2 * x.seamHeard.toNat + 4 * x.inStep.toNat + 64 * s.host.held.toNat
    | 0xA0000 => w + 65536 * x.fab.out.length
    | _ => w

/-! ### How a word is stored -/

/-- The bits that byte enables name. -/
def byteMask (be : Nat) : Nat := ((List.range 4).map (fun i => if be.testBit i then 255 * 256 ^ i else 0)).sum

/-- R12: whether a register holds a WT field. -/
def hasWt (off : Nat) : Bool := (fieldsAt off).any (fun r => decide (r.acc = .wt))

/-- The value that a field stores for a value written, where its table bounds it. -/
def limitField (off lo v : Nat) : Nat :=
  match off, lo with
  | 0x1C, 0 => max v 1
  | 0x2000C, 16 => max v 1
  | 0x20000, 8 => min (max v 1) 100
  | 0x20000, 16 => max v 1
  | 0x60000, 8 => min (max v 4) 64
  | 0x60040, 8 => min (max v 1) 8
  | _, 0 => if 0xB0100 ≤ off ∧ off < 0xB0500 ∧ off % 0x40 = 0x38 then min (max v 1) 4096 else v
  | _, _ => v

/-- R12, Table GN-5: a write of a word by its byte enables: RW fields take their enabled bits, a 1 clears a W1C bit, a WT field keeps
the last value written. -/
def Regs.store (m : Regs) (off be v : Nat) : Regs :=
  let mask := byteMask be
  let old := Regs.word m off
  let new := mergeMask old v mask
  let cut := fun (r : FieldRow) (n : Nat) => n / 2 ^ r.lo % 2 ^ r.len
  (fieldsAt off).foldl (fun m r =>
    match r.acc with
    | .rw => Regs.set m (r.at off) (limitField off r.lo (cut r new))
    | .wt => Regs.set m (r.at off) (cut r v)
    | .w1c => Regs.set m (r.at off) (cut r (old ^^^ (old &&& (v &&& mask))))
    | .ro | .ra => m) m

/-- A plain store into the Side window. -/
def Side.storeWord (sd : Side) (off be v : Nat) : Side := { sd with regs := Regs.store sd.regs off be v }

/-- A word as a write by byte enables leaves it. -/
def Side.merged (sd : Side) (off be v : Nat) : Nat := mergeMask (Regs.word sd.regs off) v (byteMask be)

/-! ### Writes of the Side window -/

/-- SK_CTRL (Table SK-9). The fields act in the order RUN, CLR_FLAGS, CLR_HWM, HALT, STEP: STEP with HALT = 0 resumes the core and steps
nothing, as it is then not halted; the spec gives no order (DESIGN CHOICE, log entry 132). -/
def Side.writeCoreCtrl (sd : Side) (k : Fin 32) (v : Nat) : Side :=
  let sd := sd.writeRun k (v.testBit 0)
  let sd := if v.testBit 4 then sd.writeClrFlags k else sd
  let sd := if v.testBit 3 then sd.set (F.SK_CYC_HWM k) 0 else sd
  let sd := (sd.set (F.SK_CTRL_CLR_HWM k) (v / 8)).set (F.SK_CTRL_CLR_FLAGS k) (v / 16)
  let sd := sd.writeHalt k (v.testBit 1)
  let sd := if sd.debugOn then sd.set (F.SK_CTRL_STEP k) (v / 4) else sd
  if v.testBit 2 then sd.writeStep k else sd

/-- A write in core `k`'s window (R96). -/
def Side.writeCore (sd : Side) (k : Fin 32) (off be v : Nat) : Side :=
  if off % 0x10000 = 0 then sd.writeCoreCtrl k v
  else if sd.flag (F.SK_CTRL_RUN k) && decide (off % 0x10000 = 8 ∨ off % 0x10000 = 0xC ∨ (0x40 ≤ off % 0x10000 ∧ off % 0x10000 < 0x80)) then sd
  else sd.storeWord off be v

/-- A write in the Audio port block. -/
def Side.writePorts (sd : Side) (off be v : Nat) (env : BusEnv) : Side :=
  if off = 0x30900 then sd.writePdm (sd.merged off be v)
  else if h : 0x30100 ≤ off ∧ off < 0x30900 ∧ off % 0x40 = 0xC then
    let k : Fin 32 := ⟨(off - 0x30100) / 0x40, by omega⟩
    let t := env.cycles * mediaUnits sd.rate
    let sd := if v.testBit 0 then sd.startHalf k t else sd.stopHalf k
    let sd := sd.set (F.AP_CTRL_APPLY k) (v / 2)
    if v.testBit 1 then sd.applyHalf k t else sd
  else sd.storeWord off be v

/-- TM_CTRL: a change of OPEN opens or closes the loop (R295). -/
def Side.writeTmCtrl (sd : Side) (be v : Nat) : Side :=
  let x := (sd.storeWord 0x20000 be v).set F.TM_CTRL_OPEN (sd.get F.TM_CTRL_OPEN)
  if !be.testBit 0 then x else if v.testBit 0 then x.openLoop else x.closeLoop

/-- A write in the Tension and time block; `peer` is the partner's rate. -/
def Side.writeTime (sd : Side) (w : Writer) (peer off be v : Nat) (env : BusEnv) : Side :=
  match off with
  | 0x20000 => sd.writeTmCtrl be v
  | 0x20020 => sd.writeFwHi v
  | 0x2002C => sd.writePpt (sd.merged off be v)
  | 0x20030 =>
    if v.testBit 0 then sd.snapshot env.cycles else sd.storeWord off be v
  | 0x20048 => if be.testBit 0 then sd.askTmStep (v % 4) else sd
  | 0x20008 => [F.TM_STICKY_LOCK_S, F.TM_STICKY_LOST_S, F.TM_STICKY_SWITCHED_S, F.TM_STICKY_FREERUN_S, F.TM_STICKY_REF_SPLIT_S].foldl
      Side.showSticky (sd.storeWord off be v)
  | 0x20010 => (sd.storeWord off be v).checkQuals peer
  | 0x2006C => sd.push peer (v % 8) env.freq env.last
  | 0x20078 => sd.armFrameSyncs v
  | 0x20080 => if v.testBit 0 then (sd.storeWord off be v).popCapture w else sd.storeWord off be v
  | _ =>
    if 0x20100 ≤ off ∧ off < 0x20200 then (sd.storeWord off be v).checkQuals peer
    else if 0x20400 ≤ off ∧ off < 0x20800 ∧ 1 ≤ off % 0x20 / 4 ∧ off % 0x20 / 4 ≤ 3 ∧ sd.flag (F.TM_TRIG_EN ((off - 0x20400) / 0x20)) then sd
    else if 0x20400 ≤ off ∧ off < 0x20800 ∧ off % 0x20 = 0 then (sd.storeWord off be v).noteArmed (sd.flag (F.TM_TRIG_EN ((off - 0x20400) / 0x20))) ((off - 0x20400) / 0x20)
    else sd.storeWord off be v

/-- CK_SERPLL: a change of a RATE code relocks the loop (R254), and its Ethernet port goes down. -/
def Side.writeSerpll (sd : Side) (v : Nat) : Side :=
  let one := fun (x : Side) (n : Nat) (p : Fin 2) (r : Nat) =>
    if x.get (if n = 1 then F.CK_SERPLL_RATE1 else F.CK_SERPLL_RATE2) = r % 4 then x else (x.writeSerRate n r).ethDown p
  one (one sd 1 0 (v / 16)) 2 1 (v / 64)

/-- CK_GATE_REQ: each enabled bit (R258, R259, R261). -/
def Side.writeGates (sd : Side) (base be v reached : Nat) : Side :=
  (List.range 32).foldl (fun (x : Side) j => if be.testBit (j / 8) then x.writeGateReq (base + j) (v.testBit j) reached else x) sd

/-- A write in the clock block. -/
def Side.writeClocks (sd : Side) (off be v : Nat) (env : BusEnv) : Side :=
  match off with
  | 0x10018 => if be.testBit 0 then sd.writeSerpll v else sd
  | 0x10020 =>
    let sel := sd.get F.CK_OBS_SEL
    ((sd.storeWord off be v).set F.CK_OBS_SEL sel).writeObsSel (sd.merged off be v % 32)
  | 0x10030 => sd.writeGates 0 be v env.reached
  | 0x10034 => sd.writeGates 32 be v env.reached
  | _ => sd.storeWord off be v

/-- A write in the DMA block (R433, R438). -/
def Side.writeDma (sd : Side) (off be v : Nat) : Side :=
  if off = 0xB0020 then sd.softRequestLine (v % 16)
  else if 0xB0100 ≤ off ∧ off < 0xB0500 ∧ off % 0x40 = 0 then (sd.storeWord off be v).checkConflict
  else if 0xB0100 ≤ off ∧ off < 0xB0500 ∧ off % 0x40 = 0x3C then
    sd.consume ((off - 0xB0100) / 0x40) (sd.merged off be v % 65536)
  else sd.storeWord off be v

/-- A write in the memory block (R444, R454). -/
def Side.writeMem (sd : Side) (off be v : Nat) : Side :=
  if off = 0xC0004 then
    let sd := sd.storeWord off be v
    if v.testBit 16 then sd.swatchGo else sd
  else if 0xC0100 ≤ off ∧ off < 0xC0440 ∧ off % 16 = 0 then
    if be.testBit 0 then sd.writeBankState ((off - 0xC0100) / 16) (v % 4) else sd
  else sd.storeWord off be v

/-- What a write that is carried out does in the Side. -/
def Side.writeReg (sd : Side) (w : Writer) (peer off be v : Nat) (env : BusEnv) : Side :=
  if h : 0x100000 ≤ off ∧ off < 0x300000 then sd.writeCore ⟨(off - 0x100000) / 0x10000, by omega⟩ off be v
  else
    match off / 0x10000 with
    | 0 => if off = 0x24 then sd.writeWdog (v.testBit 0) (v.testBit 1) else sd.storeWord off be v
    | 1 => sd.writeClocks off be v env
    | 2 => sd.writeTime w peer off be v env
    | 3 => sd.writePorts off be v env
    | 8 => if off = 0x80000 && be.testBit 0 then sd.writeCrossRun (v.testBit 0) else sd.storeWord off be v
    | 6 => if off = 0x60004 && v.testBit 0 then sd.refreshLive else sd.storeWord off be v
    | 0xA =>
      let sd := sd.storeWord off be v
      if off = 0xA0000 && be.testBit 0 && v.testBit 0 then sd.set F.FB_STAT_MULTI 0 else sd
    | 0xB => sd.writeDma off be v
    | 0xC => sd.writeMem off be v
    | _ => sd.storeWord off be v

/-- The life-cycle rule of the Side blocks: host writes are discarded in Closed and Retired, but for PW_RESET (R468), PW_LC_CMD
under R479 and REC_CONS of a lent channel (R438). -/
def State.lcAllows (s : State) (sd : SideId) (w : Writer) (off : Nat) : Bool :=
  let x := s.side sd
  decide (w = .firmware) || decide (x.fuses.lc ≤ 1) || decide (off = 0xC) || (decide (off = 0x34) && s.mismatchHalt) ||
    (decide (0xB0100 ≤ off ∧ off < 0xB0500 ∧ off % 0x40 = 0x3C) && x.lent ((off - 0xB0100) / 0x40))

/-- What stands in for the surroundings of a write that needs none. -/
def noEnv : BusEnv := { cycles := 0, reached := 0, freq := 0, last := false }

/-- R258: the fabric holds an access back. -/
def Side.holdBack (sd : Side) (h : HeldAccess) : Side := sd.onClk (fun c => { c with held := c.held ++ [h] })

/-- A register of the Side window is written: `f` is what a write that is carried out does, and `h` the write as the fabric holds it back
while the island's soft close runs (R258). The number is the response inside the Side (Table FB-3): ERR_GATED from a gated island (R259),
whose outcome for the firmware is open. -/
def State.windowDo (s : State) (sd : SideId) (w : Writer) (off : Nat) (h : HeldAccess) (f : State → State) : State × Nat :=
  let x := s.side sd
  if !x.alive || !s.lcAllows sd w off then (s, 0)
  else if (blockGate off).any (fun k => !x.gateOpen k) then
    let s := s.onSide sd (fun x => x.set F.FB_STAT_ORPHAN 1)
    if w = .host then (s, 2)
    else
      let c := s.choice
      (if c.1 then f c.2 else c.2, 2)
  else if (blockGate off).any (fun k => x.clk.closing.testBit k) then (s.onSide sd (fun x => x.holdBack h), 0)
  else (f s, 0)

/-- A write of a register of the Side window, with what it may set free left out. -/
def State.windowPut (s : State) (sd : SideId) (w : Writer) (off be v : Nat) (env : BusEnv) : State × Nat :=
  s.windowDo sd w off (.reg w off be v env) (fun s =>
    if decide (be % 16 ≠ 15) && hasWt off then s
    else if off = 0xC then s.writeReset sd (v % 65536)
    else if off = 0x34 then s.writeLcCmd sd (v % 4) (v / 65536)
    else s.onSide sd (fun x => x.writeReg w (s.side sd.other).rate off be v env))

/-! ### The host's accesses -/

/-- R34: an access of Side `sd`'s window or aperture has failed; `addr` is recorded for the first failure. -/
def HostRegion.accessError (h : HostRegion) (sd : SideId) (addr : Nat) (timeout write : Bool) : HostRegion :=
  let first := !h.flag F.HP_ACC_ERR_SIDE0 && !h.flag F.HP_ACC_ERR_SIDE1
  let h := if first then
      ((h.set F.HP_ACC_ADDR_ADDR addr).set F.HP_ACC_ERR_FIRST_TO timeout.toNat).set F.HP_ACC_ERR_FIRST_WR write.toNat
    else h
  h.set (if sd = .s0 then F.HP_ACC_ERR_SIDE0 else F.HP_ACC_ERR_SIDE1) 1

/-- The BAR0 offset of a Side window (Table AR-5). -/
def windowBase (sd : SideId) : Nat := 0x400000 * (1 + sd.num)

/-- What the host sees of a write of its own that received an error response. -/
def State.seen (r : State × Nat) (sd : SideId) (w : Writer) (off : Nat) : State :=
  if w = .host && decide (2 ≤ r.2) then { r.1 with host := r.1.host.accessError sd (windowBase sd + off) false true } else r.1

/-- Bytes of the memory space written by master `m`, with the error response recorded (R431). -/
def State.spacePut (s : State) (sd : SideId) (m a : Nat) (data : List Byte) : State :=
  let c := s.choice
  let r := (s.side sd).masterWrite m a data (data.map (fun _ => true)) [] false c.1
  c.2.setSide sd (r.1.fabError m (fabTarget a) r.2 true a)

/-- R258: whether the fabric still holds an access back. -/
def Side.stillHeld (sd : Side) (h : HeldAccess) : Bool :=
  match h with
  | .reg _ off _ _ _ => (blockGate off).any (fun k => sd.gateOpen k && sd.clk.closing.testBit k)
  | .space _ a _ => sd.closingAt a && !sd.gatedAt a

/-- R258: a held access reaches the island, or the orphan responder of an island that is gated by then. -/
def State.putHeld (s : State) (sd : SideId) (h : HeldAccess) : State :=
  match h with
  | .reg w off be v env => State.seen (s.windowPut sd w off be v env) sd w off
  | .space m a data => s.spacePut sd m a data

/-- R258: the accesses that no soft close holds back any longer go on, in order. -/
def State.letGo (s : State) (sd : SideId) : State :=
  let x := s.side sd
  let now := x.clk.held.filter (fun h => !x.stillHeld h)
  let s := s.onSide sd (fun x => x.onClk (fun c => { c with held := c.held.filter x.stillHeld }))
  now.foldl (fun s h => s.putHeld sd h) s

/-- A write of a register of the Side window. One of CK_GATE_REQ may end a soft close, and what it held back goes on. -/
def State.windowWrite (s : State) (sd : SideId) (w : Writer) (off be v : Nat) (env : BusEnv) : State × Nat :=
  let r := s.windowPut sd w off be v env
  if off = 0x10030 ∨ off = 0x10034 then (r.1.letGo sd, r.2) else r

/-- A write of one register that a command of its own names: `v` is the word it writes. The host's reaches it only while its port is
open. -/
def State.writeAs (s : State) (sd : SideId) (w : Writer) (off v : Nat) (env : BusEnv) (f : Side → Side) : State :=
  if w = .host && !s.host.open then s
  else State.seen (s.windowDo sd w off (.reg w off 15 v env) (fun s => s.onSide sd f)) sd w off

/-- The Side whose window a BAR0 offset lies in, and the offset in it. -/
def sideAt (a : Nat) : Option (SideId × Nat) :=
  if 0x400000 ≤ a ∧ a < 0x800000 then some (.s0, a - 0x400000)
  else if 0x800000 ≤ a ∧ a < 0xC00000 then some (.s1, a - 0x800000)
  else none

/-- A host write of a register of the Collector block. -/
def HostRegion.writeCollector (h : HostRegion) (off be v : Nat) : HostRegion :=
  if off = 4 then (if be % 16 = 15 then h.endOfInterrupt (v % 256) else h)
  else if off = 8 then
    if be.testBit 2 then
      { h with col := { h.col with stackErr := h.col.stackErr && !v.testBit 16, eoiMismatch := h.col.eoiMismatch && !v.testBit 17 } }
    else h
  else if 0x404 ≤ off ∧ off < 0x800 ∧ be % 16 = 15 then
    let k := (off - 0x400) / 4
    ({ h.set (F.HP_COL_SRC_CLR_COAL k) (v / 128) with col := h.col.put true k ((h.col.src true k).write v) } : HostRegion).updateReq false
  else h

/-- A write of a register of the host region by requester `u`: the host, or for the boot flash master and the outbound doorbell a
Side's firmware. -/
def State.hostRegWrite (s : State) (u : FlashUser) (off be v : Nat) : State :=
  let store := fun (h : HostRegion) => { h with regs := Regs.store h.regs (0x1000000 + off) be v }
  let on := fun f => s.onHost f
  let full := decide (be % 16 = 15)
  if off / 0x10000 = 5 then
    on (fun h =>
      if off = 0x50000 then (if be.testBit 0 then h.writeOwner (flashUser u) (v % 4) else h)
      else if off = 0x50010 then (if full && v.testBit 0 then h.flashGo (flashUser u) else if full then store h else h)
      else store h)
  else
    match u with
    | .side sd => if off = 0x30014 + 0x20 * sd.num && full then s.outboundDoorbell sd (v % 128) else s
    | .host =>
      match off with
      | 0x10014 => if full && v.testBit 0 then s.seamClear else if full then on store else s
      | 0x30008 => if full then on (fun h => h.inboundDoorbell 0 (v % 128)) else s
      | 0x30028 => if full then on (fun h => h.inboundDoorbell 1 (v % 128)) else s
      | 0x30010 => if be.testBit 0 then on (fun h => h.writeCons 0 (v % 128)) else s
      | 0x30030 => if be.testBit 0 then on (fun h => h.writeCons 1 (v % 128)) else s
      | 0x30014 | 0x30034 => s
      | 0x30040 => if full then on (fun h => h.twinDoorbell (v % 128)) else s
      | _ => if off / 0x10000 = 2 then on (fun h => h.writeCollector (off - 0x20000) be v) else on store

/-- A write of the BAR0 map by the host (R31, R13). -/
def State.hostWrite0 (s : State) (a be v : Nat) (env : BusEnv) : State :=
  if !s.host.open || be % 16 = 0 then s
  else if a < 0x100000 then s.hostRegWrite .host a be v
  else
    match sideAt a with
    | some (sd, off) => State.seen (s.windowWrite sd .host off be v env) sd .host off
    | none => s

/-- A write of the BAR0 map's registers by Side `sd`'s firmware. -/
def State.firmwareWrite0 (s : State) (sd : SideId) (a be v : Nat) (env : BusEnv) : State :=
  if !(s.side sd).alive || be % 16 = 0 then s
  else if a < 0x100000 then (if s.host.held then s else s.hostRegWrite (.side sd) a be v)
  else
    match sideAt a with
    | some (x, off) => if x = sd then (s.windowWrite sd .firmware off be v env).1 else s
    | none => s

/-- Whether a read of an island finds it gated: its gate `g` is closed, or a soft close holds the read back until it ends, and ends with the
gate closed. How it ends is a free choice (R258; log entry 141). -/
def State.closeEnds (s : State) (sd : SideId) (g : Option Nat) : Bool × State :=
  let x := s.side sd
  if g.any (fun k => !x.gateOpen k) then (true, s)
  else if g.any (fun k => x.clk.closing.testBit k) then s.choice
  else (false, s)

/-- A host read of the BAR0 map: the word, and HP_CLAIM's read action (R396). -/
def State.hostRead0 (s : State) (a : Nat) : State × Nat :=
  if a < 0x100000 then
    if a = 0x20000 then
      let h := s.host.claim
      ({ s with host := h }, leVal h.lastRead)
    else (s, s.hostWord a)
  else
    match sideAt a with
    | some (sd, off) =>
      let x := s.side sd
      if !x.alive then (s, 0)
      else
        let c := s.closeEnds sd (blockGate off)
        if c.1 then
          let s := c.2.onSide sd (fun x => x.set F.FB_STAT_ORPHAN 1)
          ({ s with host := s.host.accessError sd a false false }, 0xFFFFFFFF)
        else (c.2, c.2.sideWord sd off)
    | none => (s, 0)

/-- What a read returned to the host. -/
def State.reads (s : State) (data : List Byte) : State := s.onHost (fun h => { h with lastRead := data, lastStatus := 0 })

/-! ### The inspection aperture (R35, R36, R386) -/

/-- One word of Side `sd`'s memory space as the host bridge reads it, with the response. Registers read without acting (R14). -/
def State.bridgeWord (s : State) (sd : SideId) (m a : Nat) : State × Nat × Nat :=
  let r := reachResp (fabTarget a) m false
  if r ≠ 0 then (s, 0, r)
  else if (s.side sd).bankAnswers a then
    let r := (s.side sd).masterRead m a 1
    (s.setSide sd r.1, leVal r.2.1, r.2.2)
  else
    let c := s.closeEnds sd (addrGate a)
    if c.1 then (c.2.onSide sd (fun x => x.set F.FB_STAT_ORPHAN 1), 0, 2)
    else if fabTarget a = 26 then (c.2, c.2.sideWord sd (a - 0x0B000000), 0)
    else
      let r := (c.2.side sd).masterRead m a 1
      (c.2.setSide sd r.1, leVal r.2.1, r.2.2)

/-- A word of an aperture: an error response completes under R34. HP_ACC_ADDR, a BAR0 offset, is then left open (log entry 46). -/
def State.apertureWord (s : State) (sd : SideId) (off : Nat) : State × Nat :=
  let base := s.host.get (if sd = .s0 then F.HP_MB_APER_BASE 0 else F.HP_MB_APER_BASE 1)
  if !(s.side sd).alive then (s, 0)
  else
    let a := base * 0x1000000 + off
    let r := s.bridgeWord sd 3 a
    if r.2.2 = 0 then (r.1, r.2.1)
    else
      let s := r.1.onSide sd (fun x => x.fabError 3 (fabTarget a) r.2.2 false a)
      let f := s.freeWord
      ({ f.2 with host := f.2.host.accessError sd (f.1.toNat % 2 ^ 32) false false }, 0xFFFFFFFF)

/-- `n` words of an aperture. -/
def State.apertureWords (s : State) (sd : SideId) (off : Nat) : Nat → State × List Byte
  | 0 => (s, [])
  | n + 1 =>
    let r := s.apertureWord sd off
    let q := r.1.apertureWords sd (off + 4) n
    (q.1, leBytes 4 r.2 ++ q.2)

/-! ### The commands -/

/-- REGISTER_WRITE (R12): a write of the word `word` of the BAR0 map with byte enables `be`, by the host or by a Side's firmware. -/
def execRegisterWrite (u : FlashUser) (word : Fin 4194304) (be : Fin 16) (v : BitVec 32) (env : BusEnv) (s : State) : Answer :=
  match u with
  | .host => s.answer (s.hostWrite0 (4 * word.val) be.val v.toNat env)
  | .side sd => s.answer (s.firmwareWrite0 sd (4 * word.val) be.val v.toNat env)

/-- SIDE_ACCESS_TIMEOUT (R34): a host access of offset `off` of the window, or of the aperture, finds no response within 2 µs. With `e.answered`,
a read of the window by either host port that finds one in time: the word, or an error response, which R34 completes in the same way. -/
def execSideAccessTimeout (sd : SideId) (off : Fin 4194304) (write : Bool) (e : AccessEnd) (s : State) : Answer :=
  if !s.host.open || !(s.side sd).alive then .next s
  else if e.answered then
    if write || e.aperture then .next s
    else
      let r := s.hostRead0 (windowBase sd + off.val / 4 * 4)
      s.answer (r.1.reads (leBytes 4 r.2))
  else
    let f := s.freeWord
    let s := if e.aperture then f.2 else s
    let a := if e.aperture then f.1.toNat % 2 ^ 32 else windowBase sd + off.val
    let s := if e.aperture && write then s else { s with host := s.host.accessError sd a true write }
    s.answer (if write then s else s.reads (leBytes 4 0xFFFFFFFF))

/-- APERTURE_READ (R36): `n` words from word `word` of the aperture. -/
def execApertureRead (sd : SideId) (word : Fin 4194304) (n : Fin 65) (s : State) : Answer :=
  if !s.host.open then .next s
  else
    let r := s.apertureWords sd (4 * word.val) n.val
    s.answer (r.1.reads r.2)

/-- Whether the quad-SPI target is the host port. -/
def HostRegion.spiOn (h : HostRegion) : Bool := !h.held && h.flag F.HP_STRAP_HOSTSEL

/-- QSPI_READ0 (R378): one word of the BAR0 map; a misaligned address reads zero (R10). -/
def execQspiRead0 (a : BitVec 32) (s : State) : Answer :=
  if !s.host.spiOn then .next s
  else if a.toNat % 4 ≠ 0 ∨ 0x1000000 ≤ a.toNat then s.answer (s.reads (leBytes 4 0))
  else
    let r := s.hostRead0 a.toNat
    s.answer (r.1.reads (leBytes 4 r.2))

/-- READ2 of one word outside the rings: an aperture, or zero (Table AR-8, R13). -/
def State.read2 (s : State) (a : Nat) : State × List Byte :=
  if 0x2000000 ≤ a ∧ a < 0x3000000 then s.apertureWords .s0 (a - 0x2000000) 1
  else if 0x3000000 ≤ a ∧ a < 0x4000000 then s.apertureWords .s1 (a - 0x3000000) 1
  else (s, leBytes 4 0)

/-- QSPI_READ2 (R378): the BAR2 map, for as long as the host clocks within the mailbox rings: `n` words. A misaligned address reads zero in every
data byte (R10). -/
def execQspiRead2 (a : BitVec 32) (n : Nat) (s : State) : Answer :=
  if !s.host.spiOn then .next s
  else if a.toNat % 4 ≠ 0 then s.answer (s.reads (List.replicate (4 * n) 0))
  else if a.toNat < 0x100000 then s.answer (s.reads (s.host.bytes a.toNat (min (4 * n) (0x100000 - a.toNat))))
  else
    let r := s.read2 a.toNat
    s.answer (r.1.reads r.2)

/-- R379: a write transaction is taken into the buffer; one that begins while WBUSY = 1 is to be discarded. -/
def State.spiTake (s : State) (bar2 : Bool) (a : Nat) (data : List Byte) (late : Bool) : Answer :=
  if !s.host.spiOn then .next s
  else s.answer (s.onHost (fun h => { h with spi := some { bar2 := bar2, addr := a, data := data, late := late } }))

/-- QSPI_WRITE0 and QSPI_WRITE2 (R379): the data of a write transaction; `late` says that it began while an earlier write was being
carried out. -/
def execQspiWrite0 (a : BitVec 32) (data : List Byte) (late : Bool) (s : State) : Answer := s.spiTake false a.toNat data late
def execQspiWrite2 (a : BitVec 32) (data : List Byte) (late : Bool) (s : State) : Answer := s.spiTake true a.toNat data late

/-- QSPI_STATUS (R377): WBUSY as it stands, WERR and REQ. -/
def execQspiStatus (busy : Bool) (s : State) : Answer :=
  if !s.host.spiOn then .next s
  else s.answer (s.reads (leBytes 1 (busy.toNat + 2 * s.host.get F.HP_ACC_ERR_SPI_WERR + 4 * s.host.col.req.toNat)))

/-- A word written into the BAR2 map: an inbound ring (R381) or the Twin post window (R206); other writes are discarded. -/
def State.write2 (s : State) (a : Nat) (data : List Byte) : State :=
  if a < 0x40000 then s.onHost (fun h => h.slotWrite 0 (a / 4096) (a % 4096) data)
  else if 0x80000 ≤ a ∧ a < 0xC0000 then s.onHost (fun h => h.slotWrite 1 ((a - 0x80000) / 4096) (a % 4096) data)
  else if 0x100000 ≤ a ∧ a < 0x140000 then s.onHost (fun h => h.twinWrite ((a - 0x100000) / 4096) (a % 4096) data)
  else s

/-- R379: the words of a write transaction, in ascending address order. -/
def State.spiWords (s : State) (bar2 : Bool) (a : Nat) (env : BusEnv) : Nat → List Byte → State
  | 0, _ => s
  | n + 1, data =>
    let d := data.take 4
    let s := if bar2 then s.write2 a d else s.hostWrite0 a 15 (leVal d) env
    s.spiWords bar2 (a + 4) env n (data.drop 4)

/-- QSPI_TRANSACTION_END (R379): HSPI_CS_N rises, and a write that was taken is carried out word by word, or discarded whole. -/
def execQspiTransactionEnd (env : BusEnv) (s : State) : Answer :=
  match s.host.spi with
  | none => .next s
  | some w =>
    if !s.host.spiOn then .next s
    else
      let s := s.onHost (fun h => { h with spi := none })
      if w.late || decide (4096 < w.data.length) then s.answer (s.onHost (fun h => h.set F.HP_ACC_ERR_SPI_WERR 1))
      else if w.addr % 4 ≠ 0 then .next s
      else s.answer (s.spiWords w.bar2 w.addr env (w.data.length / 4) w.data)

/-- TDM_HALF_START (R325): a write of 1 to EN of half `h` (2 × port + half), `cycles` media-clock cycles after the boundary. -/
def execTdmHalfStart (sd : SideId) (w : Writer) (h : Fin 32) (cycles : Nat) (s : State) : Answer :=
  s.answer (s.writeAs sd w (F.AP_CTRL_EN h.val).off 1 { noEnv with cycles := cycles } (fun x => x.startHalf h (cycles * mediaUnits x.rate : Nat)))

/-- TDM_HALF_STOP (R325): a write of 0 to EN. -/
def execTdmHalfStop (sd : SideId) (w : Writer) (h : Fin 32) (s : State) : Answer :=
  s.answer (s.writeAs sd w (F.AP_CTRL_EN h.val).off 0 noEnv (fun x => x.stopHalf h))

/-- TDM_APPLY (R326): a write of 1 to APPLY, `t` units of the counter after the boundary. -/
def execTdmApply (sd : SideId) (w : Writer) (h : Fin 32) (t : Nat) (s : State) : Answer :=
  s.answer (s.writeAs sd w (F.AP_CTRL_EN h.val).off ((s.side sd).get (F.AP_CTRL_EN h.val) + 2) { noEnv with cycles := t / mediaUnits (s.side sd).rate }
    (fun x => (x.set (F.AP_CTRL_APPLY h) 1).applyHalf h t))

/-- CROSS_RUN (R148): a write of XA_CTRL.RUN. -/
def execCrossRun (sd : SideId) (w : Writer) (run : Bool) (s : State) : Answer :=
  s.answer (s.writeAs sd w F.XA_CTRL_RUN.off run.toNat noEnv (fun x => x.writeCrossRun run))

/-- PATCHBAY_RUN (R160): a write of PB_CTRL.RUN. -/
def execPatchbayRun (sd : SideId) (w : Writer) (run : Bool) (s : State) : Answer :=
  s.answer (s.writeAs sd w F.PB_CTRL_RUN.off run.toNat noEnv (fun x => x.set F.PB_CTRL_RUN run.toNat))

end Sys2Proof.Machine
end

