-- ==== Sys2Proof/Machine/Fabric.lean ====
section
/-!
DEFINITION. The Side fabric (R423 to R431): requests, the order and bounds of their grants, their responses, and a master's reset.
-/
namespace Sys2Proof.Machine

open Sys2Proof

/-! ### Requests -/

/-- The number of IDs of a master (Table FB-1). -/
def masterIds (m : Nat) : Nat := [4, 16, 16, 16, 16, 8, 8, 4, 4, 4, 4, 4].getD m 0

/-- The target of a request; 31 where no target decodes its address. -/
def fabTargetOf (q : FabReq) : Nat :=
  match q.dest with
  | .space a => fabTarget a.toNat
  | .host _ => 27
  | .partner _ => 28

/-- The address that a request names. -/
def fabAddr (q : FabReq) : Nat :=
  match q.dest with
  | .space a => a.toNat
  | .host a => a.toNat
  | .partner a => a.toNat

/-- The bytes that a request moves. -/
def fabLen (q : FabReq) : Nat := if q.narrow then 4 else 32 * (q.beats.val + 1)

/-- R424: a burst starts at a multiple of 32 and crosses no 4 KiB boundary; one aligned word is a form of the peripheral bridge. -/
def fabFormed (q : FabReq) : Bool :=
  decide (q.id.val < masterIds q.master.val) &&
    (if q.narrow then decide (fabTargetOf q = 26 ∧ q.beats.val = 0)
     else decide (fabAddr q % 32 = 0 ∧ fabAddr q % 4096 + fabLen q ≤ 4096))

/-- Whether two requests touch a 32-byte line of one destination, one of them writing it (R428). -/
def fabSameLine (p q : FabReq) : Bool :=
  (p.write || q.write) && decide (fabTargetOf p = fabTargetOf q) &&
    decide (fabAddr p / 32 * 32 < fabAddr q + fabLen q ∧ fabAddr q / 32 * 32 < fabAddr p + fabLen p)

/-! ### Order and bounds (R427, R428, R258) -/

/-- A target of the reserved slots. -/
def fabReserved (t : Nat) : Bool := decide (t = 27 ∨ t = 28)

/-- The outstanding transactions of a master in a direction. -/
def Side.fabCount (sd : Side) (m : Nat) (write : Bool) : Nat :=
  (sd.fab.out.filter (fun t => t.master = m ∧ t.write = write)).length

/-- R427: a master at its own bound, or the matrix at its bound. -/
def Side.atBound (sd : Side) (q : FabReq) : Bool :=
  decide (16 ≤ sd.fabCount q.master.val q.write) || decide (192 ≤ sd.fab.out.length) ||
    (!fabReserved (fabTargetOf q) && decide (176 ≤ (sd.fab.out.filter (fun t => !fabReserved t.target)).length))

/-- R428: the same master and ID have a transaction outstanding at a different target. -/
def Side.heldBack (sd : Side) (q : FabReq) : Bool :=
  sd.fab.out.any (fun t => decide (t.master = q.master.val ∧ t.id = q.id.val ∧ t.target ≠ fabTargetOf q))

/-- Whether a request waits behind an earlier one of its master: the same ID, or the same line (R428). -/
def fabBehind (p q : FabReq) : Bool := decide (p.master = q.master) && (decide (p.id = q.id) || fabSameLine p q)

/-- R258: a request to an island whose soft close is under way is held back. -/
def Side.fabClosing (sd : Side) (q : FabReq) : Bool :=
  match q.dest with
  | .space a => sd.closingAt a.toNat
  | _ => false

/-- Whether a request can be granted, given the earlier ones that wait. -/
def Side.grantable (sd : Side) (earlier : List FabReq) (q : FabReq) : Bool :=
  !sd.atBound q && !sd.heldBack q && !sd.fabClosing q && !earlier.any (fun p => fabBehind p q)

/-! ### Carrying out a request -/

/-- R423: the response to a request that its master may not make of its target. The bridge takes only mirror writes from master 4,
and the two write targets take no reads. -/
def fabReach (q : FabReq) : Nat :=
  let t := fabTargetOf q
  if t = 26 ∧ q.master.val = 4 then 3
  else if fabReserved t && !q.write && decide (reachResp t q.master.val true = 0) then 4
  else reachResp t q.master.val q.write

/-- The places of `collide` that lie in beat `b`. -/
def beatCollide (b : Nat) (l : List Nat) : List Nat := (l.filter (fun i => i / 4 = b)).map (fun i => i % 4)

/-- The beats of a read from `a`: the state after it, the bytes and the responses. -/
def Side.fabRead (sd : Side) (m a : Nat) : Nat → Side × List Byte × List Nat
  | 0 => (sd, [], [])
  | n + 1 =>
    let x := sd.masterRead m a 8
    let r := x.1.fabRead m (a + 32) n
    (r.1, x.2.1 ++ r.2.1, x.2.2 :: r.2.2)

/-- The beats of a write from `a`, `b` of them done. -/
def Side.fabWrite (sd : Side) (m : Nat) (collide : List Nat) (late : Bool) : Nat → Nat → Nat → List Byte → List Bool → Side × List Nat
  | 0, _, _, _, _ => (sd, [])
  | n + 1, b, a, data, st =>
    let x := sd.masterWrite m a (data.take 32) (st.take 32) (beatCollide b collide) false late
    let r := x.1.fabWrite m collide late n (b + 1) (a + 32) (data.drop 32) (st.drop 32)
    (r.1, x.2 :: r.2)

/-- A list cut or filled up to a length. -/
def fitTo {α : Type} (n : Nat) (d : α) (l : List α) : List α := (List.range n).map (fun i => l.getD i d)

/-- The byte enables of a narrow write. -/
def strobeMask (st : List Bool) : Nat := ((List.range 4).map (fun i => bitVal i (st.getD i false))).sum

/-- What a request does at its target: the state, the first failing beat with its response, and the bytes read. -/
def State.fabDo (s : State) (sd : SideId) (q : FabReq) (env : BusEnv) : State × Option (Nat × Nat) × List Byte :=
  let x := s.side sd
  let m := q.master.val
  let r := fabReach q
  let a := fabAddr q
  let bad := fun (r : Nat) => if r = 0 then none else some (0, r)
  let zero := if q.write then [] else List.replicate (fabLen q) 0
  if r ≠ 0 then (s, bad r, zero)
  else
    match q.dest with
    | .host a => ({ s with host := { s.host with memWrite := some (a.toNat, fitTo (fabLen q) 0 q.data) } }, none, [])
    | .partner a => (s.onSide sd (fun x => { x with fab := { x.fab with toPartner := some (a.toNat, fitTo (fabLen q) 0 q.data) } }), none, [])
    | .space _ =>
      if fabTargetOf q = 26 then
        if !q.narrow || a % 4 ≠ 0 then (s, bad 4, zero)
        else if q.write then
          let w := s.windowWrite sd (if m = 3 then .host else .firmware) (a - 0x0B000000) (strobeMask q.strobes) (leVal (fitTo 4 0 q.data)) env
          (w.1, bad w.2, [])
        else if x.gatedAt a then (s.onSide sd (fun x => x.set F.FB_STAT_ORPHAN 1), bad 2, zero)
        else (s, none, leBytes 4 (s.sideWord sd (a - 0x0B000000)))
      else if q.write then
        let c := s.choice
        let n := q.beats.val + 1
        let w := x.fabWrite m q.collide c.1 n 0 a (fitTo (32 * n) 0 q.data) (fitTo (32 * n) false q.strobes)
        (c.2.setSide sd w.1, firstBad w.2, [])
      else
        let w := x.fabRead m a (q.beats.val + 1)
        (s.setSide sd w.1, firstBad w.2.2, w.2.1)

/-! ### Grants -/

/-- Changes the fabric. -/
def Side.onFab (sd : Side) (f : Fabric → Fabric) : Side := { sd with fab := f sd.fab }

/-- FB_M: the outstanding counts and their peaks. -/
def Side.fabCounts (sd : Side) : Side :=
  (List.range 12).foldl (fun (x : Side) m =>
    let r := x.fabCount m false
    let w := x.fabCount m true
    let x := (x.set (F.FB_M_RD_OUT m) r).set (F.FB_M_WR_OUT m) w
    (x.set (F.FB_M_RD_PEAK m) (max r (x.get (F.FB_M_RD_PEAK m)))).set (F.FB_M_WR_PEAK m) (max w (x.get (F.FB_M_WR_PEAK m)))) sd

/-- A granted request as it waits for its response. -/
def fabTx (q : FabReq) (r : Option (Nat × Nat)) (data : List Byte) : FabTx :=
  { master := q.master.val, id := q.id.val, write := q.write, target := fabTargetOf q, addr := fabAddr q
    beat := (r.map Prod.fst).getD 0, resp := (r.map Prod.snd).getD 0, data := data }

/-- A request is granted: it is carried out and outstanding. -/
def State.grant (s : State) (sd : SideId) (q : FabReq) (env : BusEnv) : State :=
  let r := s.fabDo sd q env
  r.1.onSide sd (fun x =>
    (x.onFab (fun f => { f with out := f.out ++ [fabTx q r.2.1 r.2.2], turn := (q.master.val + 1) % 12 })).fabCounts)

/-- The waiting requests that can be granted, with their places. -/
def Side.grantables (sd : Side) : List (FabReq × Nat) :=
  sd.fab.wait.zipIdx.filter (fun p => sd.grantable (sd.fab.wait.take p.2) p.1)

/-- R426, R427: of the requests that can be granted, the first in turn from the master whose turn it is. -/
def Side.nextGrant (sd : Side) : Option (FabReq × Nat) :=
  (List.range 12).findSome? (fun i => sd.grantables.find? (fun p => p.1.master.val = (sd.fab.turn + i) % 12))

/-- Grants what waits and can be granted. -/
def State.fabServe (s : State) (sd : SideId) (env : BusEnv) : Nat → State
  | 0 => s
  | n + 1 =>
    if !(s.side sd).alive then s
    else
      match (s.side sd).nextGrant with
      | none => s
      | some p =>
        ((s.onSide sd (fun x => x.onFab (fun f => { f with wait := f.wait.eraseIdx p.2 }))).grant sd p.1 env).fabServe sd env n

/-- A word of memory has suffered an upset (R447): a single-bit error, or with `dbl` a double-bit error. -/
def Side.strike (sd : Side) (a : Nat) (dbl : Bool) : Side :=
  if (bankOf a).isSome then sd.setUpset a (if dbl || sd.upset a ≠ 0 then 2 else 1) else sd

/-- Whether the host bridge's writes to host memory can be issued (R421), and debug access is open (Table PW-6). -/
def State.fabOpen (s : State) (sd : SideId) (q : FabReq) : Bool :=
  (fabTargetOf q ≠ 27 || s.host.masters) && (q.master.val ≠ 11 || (s.side sd).debugOn)

/-- R426: a master presents a request. -/
def State.fabPresent (s : State) (sd : SideId) (q : FabReq) (env : BusEnv) : State :=
  let s := s.fabServe sd env (s.side sd).fab.wait.length
  let s := s.onSide sd (fun x =>
    let x := if x.heldBack q then x.set (F.FB_M_HELD q.master.val) (x.get (F.FB_M_HELD q.master.val) + 1) else x
    x.onFab (fun f => { f with wait := f.wait ++ [q] }))
  s.fabServe sd env 1

/-! ### Responses -/

/-- R436: an error response reaches the DMA engine while a job runs. -/
def Side.fabToDma (sd : Side) (t : FabTx) : Side :=
  match sd.dma.job with
  | some j =>
    if t.master = 2 && t.resp ≠ 0 && !sd.flag F.DMA_STAT_HALTED then
      (sd.dmaHalt j.ch (t.addr + 32 * t.beat) t.write t.beat t.resp).onJob (fun k => { k with retry := true })
    else sd
  | none => sd

/-- A response reaches its master (R431). -/
def Side.fabArrive (sd : Side) (t : FabTx) : Side :=
  let sd := sd.onFab (fun f =>
    { f with out := f.out.eraseIdx (f.out.idxOf t), lastResp := t :: f.lastResp.filter (fun u => u.master ≠ t.master) })
  ((sd.fabCounts).fabError t.master t.target t.resp t.write (t.addr + 32 * t.beat)).fabToDma t

/-- R427: the cycles for which masters have stalled at a bound. -/
def Side.fabStall (sd : Side) (n : Nat) : Side :=
  ((sd.fab.wait.filter sd.atBound).map (fun q => q.master.val)).eraseDups.foldl (fun (x : Side) m =>
    x.set (F.FB_M_STALL m) (x.get (F.FB_M_STALL m) + n)) sd

/-- The oldest transaction of a master and an ID. -/
def Side.oldestTx (sd : Side) (m id : Nat) : Option FabTx := sd.fab.out.find? (fun t => t.master = m ∧ t.id = id)

/-! ### A master's reset (R430) -/

/-- R430: a master's transactions are closed and their late responses discarded. -/
def Side.closeMaster (sd : Side) (m : Nat) (burst : Bool) : Side :=
  let sd := if burst || decide (sd.fabCount m false ≠ 0) then sd.set F.FB_STAT_RST_CLOSE 1 else sd
  (sd.onFab (fun f => { f with out := f.out.filter (fun t => t.master ≠ m), wait := f.wait.filter (fun q => q.master.val ≠ m) })).fabCounts

/-- A write burst of which only the first `n` beats were accepted: the strobes of the others are off. -/
def fabCut (q : FabReq) (n : Nat) : FabReq :=
  { q with strobes := (fitTo (fabLen q) false q.strobes).zipIdx.map (fun p => p.1 && decide (p.2 / 32 < n)) }

/-! ### The commands -/

/-- FABRIC_REQUEST (R423 to R429): a master presents a request; `upset` is a word that an upset has struck before it (R447). -/
def execFabricRequest (sd : SideId) (q : FabReq) (upset : Option (BitVec 32 × Bool)) (env : BusEnv) (s : State) : Answer :=
  if !(s.side sd).alive then .next s
  else
    let s' := match upset with
      | some u => s.onSide sd (fun x => x.strike u.1.toNat u.2)
      | none => s
    if fabFormed q && s.fabOpen sd q then s.answer (s'.fabPresent sd q env) else s.answer s'

/-- FABRIC_RESPONSE (R425, R428, R431): the response to the oldest transaction of a master and an ID reaches it; `stalled` is for how
many cycles the masters at a bound have stalled since the last one. -/
def execFabricResponse (sd : SideId) (m : Fin 12) (id : Fin 16) (stalled : Nat) (env : BusEnv) (s : State) : Answer :=
  if !(s.side sd).alive then .next s
  else
    let s' := s.fabServe sd env (s.side sd).fab.wait.length
    let s' := s'.onSide sd (fun x =>
      let x := x.fabStall stalled
      match x.oldestTx m.val id.val with
      | some t => x.fabArrive t
      | none => x)
    s.answer (s'.fabServe sd env (s'.side sd).fab.wait.length)

/-- MASTER_RESET (R430): a master is reset; `burst` is a write burst in progress, with the beats the target has accepted. -/
def execMasterReset (sd : SideId) (m : Fin 12) (burst : Option (FabReq × Fin 17)) (env : BusEnv) (s : State) : Answer :=
  if !(s.side sd).alive then .next s
  else
    match burst with
    | some b =>
      let q := { fabCut b.1 b.2.val with master := m }
      if fabFormed q && q.write && s.fabOpen sd q && (s.side sd).grantable [] q then
        s.answer ((s.fabDo sd q env).1.onSide sd (fun x => x.closeMaster m.val true))
      else s.go sd (fun x => x.closeMaster m.val false)
    | none => s.go sd (fun x => x.closeMaster m.val false)

/-! ### Gates (R258, R259, R261) -/

/-- R258: once a gate has settled, what the fabric held back for it goes on: writes, the DMA engine's transfer and waiting requests. -/
def State.gateSettled (s : State) (sd : SideId) : State :=
  let s := (s.letGo sd).dmaRun sd
  s.fabServe sd noEnv (s.side sd).fab.wait.length

/-- GATE_SOFT_CLOSE_REQUEST (R258). -/
def execGateSoftCloseRequest (sd : SideId) (w : Writer) (gate : Fin 41) (s : State) : Answer :=
  s.go sd (fun x => if s.mayWrite sd w then x.softRequest gate.val else x)

/-- GATE_SOFT_CLOSE (R258). -/
def execGateSoftClose (sd : SideId) (gate : Fin 41) (reached : Nat) (s : State) : Answer :=
  s.answer ((s.onSide sd (fun x => x.softClose gate.val reached)).gateSettled sd)

/-- GATE_SOFT_CLOSE_TIMEOUT (R258). -/
def execGateSoftCloseTimeout (sd : SideId) (gate : Fin 41) (s : State) : Answer :=
  s.answer ((s.onSide sd (fun x => x.softTimeout gate.val)).gateSettled sd)

/-- GATE_HARD_CLOSE (R259). -/
def execGateHardClose (sd : SideId) (w : Writer) (gate : Fin 41) (reached : Nat) (s : State) : Answer :=
  s.answer ((s.onSide sd (fun x => if s.mayWrite sd w then x.hardClose gate.val reached else x)).gateSettled sd)

/-- GATE_OPEN (R261). -/
def execGateOpen (sd : SideId) (w : Writer) (gate : Fin 41) (s : State) : Answer :=
  s.answer ((s.onSide sd (fun x => if s.mayWrite sd w then x.openGate gate.val else x)).gateSettled sd)

end Sys2Proof.Machine
end

