-- ==== Sys2Proof/Machine/Rejoin.lean ====
section
/-!
DEFINITION. Rejoin: the mirror set and its signatures (R239, R240), mirror writes (R242), the passes, the final boundary and the wait
(R240 to R244), and what Twin operation does at a row boundary.
-/
namespace Sys2Proof.Machine

open Sys2Proof

/-! ### The mirror set (Table TW-9) -/

/-- Whether an address of the memory space is in the mirror set by what the Side holds, by physical address. -/
def Side.mirrored (sd : Side) (a : Nat) : Bool :=
  if a < 0x06000000 then
    let o := sd.bankOwnerOf (a / 0x800000)
    sd.flag F.TW_MIR_LM && decide (1 ≤ o ∧ o ≤ 8)
  else if a < 0x07000000 then sd.coreMask.testBit ((a - 0x06000000) / 0x80000) && decide (0x20000 ≤ a % 0x80000)
  else if 0x08000000 ≤ a ∧ a < 0x08C00000 then true
  else if 0x09000000 ≤ a ∧ a < 0x09800000 then sd.flag (F.TK_CUE_STATE ((a - 0x09000000) / 0x10000))
  else decide (0x0A000000 ≤ a ∧ a < 0x0A100000)

/-- The register words whose fields are all part of the mirror set: SK_CBANK and the regions of a core, the Cross descriptors, instances,
masks and roles, the Take history and the Cue slots, the meter groups (R242). -/
def mirrorWord (off : Nat) : Bool :=
  if 0x100000 ≤ off ∧ off < 0x300000 then decide (0x38 ≤ off % 0x10000 ∧ off % 0x10000 < 0x80)
  else decide (0x80100 ≤ off ∧ off < 0x83000) || decide (0x70200 ≤ off ∧ off < 0x72000) || decide (0x90100 ≤ off ∧ off < 0x90200)

/-- Single fields of the mirror set besides: PB_STAT.ACTIVE, the number of the next Take, the next history entry and MARGIN. -/
def mirrorFields : List Fld := [F.PB_STAT_ACTIVE, F.TK_NEXT_NUM, F.TK_STAT_HNEXT, F.TK_BCAST_MARGIN]

/-- The words of the settings that cross in the Dorden state area: the loop's word, the candidates and the trigger slots, the halves but
for their enables, PDM, word clock and GPIO, and the bridges. -/
def mirrorSettings (off : Nat) : Bool :=
  decide (off = F.TM_FW_LO.off ∨ off = F.TM_FW_HI_FW_HI.off ∨ off = F.TM_PPT.off) || decide (0x20100 ≤ off ∧ off < 0x20200) ||
    decide (0x20400 ≤ off ∧ off < 0x20800) || decide (0x30100 ≤ off ∧ off < 0x30900 ∧ off % 0x40 ≠ 0x0C) ||
    decide (0x30900 ≤ off ∧ off < 0x32000)

/-- The settings that apply now, which are read only: a half's CFG_CUR, MASK_CUR and TIMING_CUR. -/
def mirrorNow (off : Nat) : Bool := decide (0x30100 ≤ off ∧ off < 0x30900 ∧ 0x10 ≤ off % 0x40 ∧ off % 0x40 ≤ 0x18)

/-- The page of control state in which a field crosses; none for a field outside the mirror set. -/
def fieldPage (off : Nat) (r : FieldRow) : Option Nat :=
  if mirrorWord off || mirrorFields.any (fun f => decide (f.off = off ∧ f.lo = r.lo)) then some (0xB000 + off / 0x10000 * 16)
  else if (mirrorSettings off && decide (r.acc = .rw)) || mirrorNow off then some 0xB000
  else none

/-- The fields of `regs` that cross in a page, by their keys. -/
def pageKeys (regs : Regs) (p : Nat) : List Nat :=
  (regs.map Prod.fst).filter (fun k => (fieldsAt (k / 32)).any (fun r => decide (r.lo = k % 32) && decide (fieldPage (k / 32) r = some p)))

/-- A core's registers, loop stack and refill as numbers. -/
def Core.area (c : Core) : List Nat :=
  (c.r.v.toList.flatMap (fun x => x.toList.map BitVec.toNat)) ++ (c.r.a.toList.flatMap (fun x => x.toList.map BitVec.toNat)) ++
    c.r.p.toList.map BitVec.toNat ++ c.r.m.toList.map BitVec.toNat ++ c.r.l.toList.map BitVec.toNat ++
    [c.r.lc.toNat, c.r.ovf.toNat, c.r.sat.toNat, c.r.z.toNat, c.r.n.toNat, c.r.loopErr.toNat, c.r.stack.length] ++
    (c.r.inner.toList.flatMap (fun l => [l.1.toNat, l.2.toNat])) ++
    c.r.stack.flatMap (fun l => [l.start.toNat, l.stop.toNat, l.count.toNat])

/-- The Take queue and what the Cue logic holds besides its registers, as numbers. -/
def TakeUnit.area (t : TakeUnit) : List Nat :=
  t.queue.toList.flatMap (fun o =>
    match o with
    | none => [0]
    | some t => [1, t.num, t.row.getD 0, t.mask, t.desc, t.state]) ++
  t.kept.flatMap (fun k => [k.1, k.2]) ++ t.heard.flatMap (fun k => [k.1, k.2]) ++ t.arms.flatMap (fun k => [k.1, k.2])

/-- The words of the packet memory's flow settings and their shadow that a Side lists, with the bits that are settings. -/
def flowWords (mem : List Host.Cell) : List (Nat × Nat) :=
  ((mem.filter (fun c => decide (0x09F80000 ≤ c.1 ∧ c.1 < 0x09F88000) || decide (0x09F90000 ≤ c.1 ∧ c.1 < 0x09F98000))).map
    (fun c => c.1 / 4 * 4)).eraseDups.map (fun a =>
      let i := (a - 0x09F80000) % 0x8000 / 128
      let w := a % 128 / 4
      (a, if 0x09F90000 ≤ a then takeMask i w else startMask i w ||| takeMask i w ||| (if w = 0 then 1 else 0)))

/-- The packet buffers. -/
def isBuffer (a : Nat) : Bool := decide (0x09C00000 ≤ a ∧ a < 0x09C60000)

/-- The Dorden state area besides its registers, as numbers: held writes, MACs and channel status, flow and skein settings, packet buffers
and the loop's word. -/
def Side.dordenArea (sd : Side) : List Nat :=
  sd.fw.held.flatMap (fun w => [w.addr, w.value, w.take]) ++ sd.net.macs.flatMap (fun m => [m.1, m.2]) ++
    sd.net.chStatus.flatMap (fun c => c.1 :: c.2.map BitVec.toNat) ++
    (flowWords sd.mem).flatMap (fun w => [w.1, (sd.rtWord w.1).toNat &&& w.2]) ++
    (sd.shemas.skeins.filter (fun e => e.1 % 4 = 0)).flatMap (fun e => [e.1, e.2]) ++
    (sd.mem.filter (fun c => isBuffer c.1)).flatMap (fun c => [c.1, c.2.toNat]) ++
    [sd.tm.word, ofSigned 64 sd.tm.ppt, sd.tm.v]

/-- What a page of control state holds on a Side, as numbers. -/
def Side.areaOf (sd : Side) (p : Nat) : List Nat :=
  let rows := (pageKeys sd.regs p).flatMap (fun k => [k, Sparse.get resetOf sd.regs k])
  if p = 0xB000 then sd.dordenArea ++ rows
  else if p = 0xB070 then sd.takes.area ++ rows
  else if p = 0xB080 then sd.cross.starts.flatMap (fun e => [e.1, e.2]) ++ rows
  else if p = 0xB090 then sd.gauge.meters.flatMap (fun e => e.1 :: e.2.ms :: e.2.timer :: e.2.run :: e.2.hist.map Int.toNat) ++ rows
  else if h : 0xB100 ≤ p ∧ p < 0xB300 then (sd.cores[(p - 0xB100) / 16]).area ++ rows
  else rows

/-- The pages of control state of the mirror set. -/
def Side.areaPages (sd : Side) : List Nat :=
  0xB000 :: 0xB070 :: 0xB080 :: 0xB090 ::
    (List.range 32).filterMap (fun k => if sd.coreMask.testBit k then some (0xB100 + 16 * k) else none)

/-- Adjacent equal numbers of a list, once each. -/
def squeeze (l : List Nat) : List Nat := l.foldr (fun a acc => if acc.head? = some a then acc else a :: acc) []

/-- The pages of memory of the mirror set that a Side lists a byte or an error mark of; the others are pages of zero words. -/
def Side.memPages (sd : Side) : List Nat :=
  squeeze (((sd.mem.filter (fun c => sd.mirrored c.1)).map (fun c => c.1 / 4096))) ++
    squeeze ((sd.upsets.filter (fun u => sd.mirrored (8 * u.1))).map (fun u => 8 * u.1 / 4096))

/-! ### Signatures (R240) -/

/-- R240: the signature of 4 KiB page `p`. -/
def Side.pageSig (sd : Side) (p : Nat) : Nat :=
  (List.range 512).foldl (fun x i =>
    let a := 4096 * p + 8 * i
    x ^^^ crc32 (leBytes 8 a ++ sd.bytes a 8)) 0

/-- The signature of a page of zeros. -/
def zeroSig (p : Nat) : Nat :=
  if p < 0xB000 then (List.range 512).foldl (fun x i => x ^^^ crc32 (leBytes 8 (4096 * p + 8 * i) ++ List.replicate 8 0)) 0 else 0

/-- R240: the signatures captured at a boundary. -/
def Side.captureSigs (sd : Side) : Sparse Nat :=
  let m := sd.memPages.foldl (fun m p => Sparse.set zeroSig m p (sd.pageSig p)) []
  sd.areaPages.foldl (fun m p => Sparse.set zeroSig m p (Config.areaSig p (sd.areaOf p))) m

/-- R240: the pages that differ between two captures. -/
def pagesDiffer (a b : Sparse Nat) : List Nat :=
  (a.filter (fun p => p.2 ≠ Sparse.get zeroSig b p.1)).map Prod.fst ++
    (b.filter (fun p => !(a.any (fun q => q.1 = p.1)) && p.2 ≠ zeroSig p.1)).map Prod.fst

/-! ### Mirror writes (R242) -/

/-- The address at which the fabric reaches a physical address of the mirror set: a C bank or a selection table lies in one of two views,
by its role; all else has an address of its own. -/
def Side.mirrorView (sd : Side) (a : Nat) : Nat :=
  if 0x06000000 ≤ a ∧ a < 0x07000000 ∧ 0x60000 ≤ a % 0x80000 then
    let k := (a - 0x06000000) / 0x80000
    let b := (a % 0x80000 - 0x60000) / 0x10000
    coreBase k + (if b = sd.get (F.SK_CBANK_ACTIVE k) then 0x70000 else 0x60000) + a % 0x10000
  else if 0x0A000000 ≤ a ∧ a < 0x0A020000 then
    0x0A000000 + (if (a - 0x0A000000) / 0x10000 = sd.active then 0 else 0x10000) + a % 0x10000
  else a

/-- A page of memory: the Lead `sd.other`'s Twin Link master reads it, and the Side `sd`'s writes it. -/
def State.mirrorMem (s : State) (sd : SideId) (p : Nat) : State :=
  let y := s.side sd.other
  let r := y.masterRead 4 (y.mirrorView (4096 * p)) 1024
  let s := s.setSide sd.other (r.1.fabError 4 (fabTarget (4096 * p)) r.2.2 false (4096 * p))
  let c := s.choice
  let x := s.side sd
  let w := x.masterWrite 4 (x.mirrorView (4096 * p)) r.2.1 (List.replicate 4096 true) [] true c.1
  c.2.setSide sd (w.1.fabError 4 (fabTarget (4096 * p)) w.2 true (4096 * p))

/-- R242: the register fields of a page take the Lead `y`'s values. -/
def Side.mirrorRegs (sd y : Side) (p : Nat) : Side :=
  { sd with
    regs := (pageKeys sd.regs p ++ pageKeys y.regs p).foldl (fun (m : Regs) k => Sparse.set resetOf m k (Sparse.get resetOf y.regs k)) sd.regs }

/-- The flow settings, their shadow and the packet buffers of the Lead `y`. -/
def Side.mirrorFlows (sd y : Side) : Side :=
  let sd := (flowWords sd.mem ++ flowWords y.mem).foldl (fun (x : Side) w =>
    x.putWord w.1 (BitVec.ofNat 32 (mergeMask (x.rtWord w.1).toNat (y.rtWord w.1).toNat w.2))) sd
  ((sd.mem ++ y.mem).filter (fun c => isBuffer c.1)).foldl (fun (x : Side) c => x.putBytes c.1 [y.byte c.1]) sd

/-- The Dorden state area of the Lead `y`. -/
def Side.mirrorDorden (sd y : Side) : Side :=
  let skeins := ((sd.shemas.skeins ++ y.shemas.skeins).filter (fun e => e.1 % 4 = 0)).foldl (fun (m : Sparse Nat) e =>
    Sparse.set (fun _ => 0) m e.1 (Sparse.get (fun _ => 0) y.shemas.skeins e.1)) sd.shemas.skeins
  let sd := sd.mirrorFlows y
  { sd with
    fw := { sd.fw with held := y.fw.held }
    net := { sd.net with macs := y.net.macs, chStatus := y.net.chStatus }
    shemas := { sd.shemas with skeins := skeins }
    tm := { sd.tm with word := y.tm.word, ppt := y.tm.ppt, v := y.tm.v } }

/-- A page of control state, as the Lead `y` holds it. -/
def Side.mirrorArea (sd y : Side) (p : Nat) : Side :=
  let sd := sd.mirrorRegs y p
  if p = 0xB000 then sd.mirrorDorden y
  else if p = 0xB070 then
    { sd with takes := { sd.takes with
        queue := y.takes.queue, kept := y.takes.kept, slips := y.takes.slips, loader := y.takes.loader, heard := y.takes.heard
        arms := y.takes.arms } }
  else if p = 0xB080 then { sd with cross := { sd.cross with starts := y.cross.starts, latch := y.cross.latch } }
  else if p = 0xB090 then { sd with gauge := { sd.gauge with meters := y.gauge.meters } }
  else if h : 0xB100 ≤ p ∧ p < 0xB300 then
    let k : Fin 32 := ⟨(p - 0xB100) / 16, by omega⟩
    (sd.setRegs k (y.cores[k]).r).setCore k
      { (sd.setRegs k (y.cores[k]).r).cores[k] with refill := (y.cores[k]).refill, refillWritten := (y.cores[k]).refillWritten }
  else sd

/-- R242: a page of the mirror set as the Lead holds it crosses to the Rework Side `sd`. -/
def State.mirrorPage (s : State) (sd : SideId) (p : Nat) : State :=
  if p < 0xB000 then s.mirrorMem sd p else s.onSide sd (fun x => x.mirrorArea (s.side sd.other) p)

/-- Pages, one after the other. -/
def State.mirrorPages (s : State) (sd : SideId) (l : List Nat) : State := l.foldl (fun s p => s.mirrorPage sd p) s

/-! ### Passes (R240, R241) -/

/-- Whether the Side runs a pass: pass 1 or a further one, which has not ended. -/
def Side.passRuns (sd : Side) : Bool :=
  sd.rejoining && decide (sd.get F.TW_MIR_STATE = 1 ∨ sd.get F.TW_MIR_STATE = 2) && !sd.twin.passEnd

/-- Whether page `p` is one that the pass sends: every page of the mirror set in pass 1, those that differ in a further one. -/
def inPass (x y : Side) (p : Nat) : Bool :=
  if x.get F.TW_MIR_STATE = 1 then
    if p < 0xB000 then x.mirrored (4096 * p) || y.mirrored (4096 * p) else x.areaPages.contains p || y.areaPages.contains p
  else x.twin.differ.contains p

/-- The pages of the pass that a Side lists anything of. -/
def passPages (x y : Side) : List Nat :=
  if x.get F.TW_MIR_STATE = 1 then (x.memPages ++ y.memPages ++ x.areaPages ++ y.areaPages).eraseDups else x.twin.differ

/-- A mirror write of page `p` on Side `sd` (R242), taken only from the partner's link. -/
def State.mirrorWrite (s : State) (sd : SideId) (p : Nat) : State :=
  let x := s.side sd
  if x.passRuns && s.linkUp && inPass x (s.side sd.other) p then
    (s.mirrorPage sd p).onSide sd (fun x => x.onTwin (fun t => { t with sent := p :: t.sent }))
  else s

/-- R240: the pass ends with the last of its pages; the signatures of a boundary after it are compared. -/
def State.passComplete (s : State) (sd : SideId) : State :=
  let x := s.side sd
  if x.passRuns && s.linkUp then
    let s := s.mirrorPages sd ((passPages x (s.side sd.other)).filter (fun p => !x.twin.sent.contains p))
    (s.onSide sd.other (fun y => y.onTwin (fun t => { t with capRow := none }))).onSide sd (fun x =>
      x.onTwin (fun t => { t with capRow := none, sent := [], passEnd := true }))
  else s

/-- R241: a pass counts, and after 64 of them without a final pass that succeeded Rejoin fails. -/
def Side.passMade (sd : Side) : Side :=
  let sd := sd.set F.TW_MIR_PASS (min (sd.get F.TW_MIR_PASS + 1) 64)
  if 64 ≤ sd.get F.TW_MIR_PASS ∧ sd.get F.TW_MIR_STATE ≤ 3 then sd.rejoinFail 1 else sd

/-- R240, R241, R243: the comparison of the captures of row `n` on the Rework Side, with the partner's: after a pass, and in each row of the
wait. -/
def Side.compareCaptures (sd : Side) (other : Sparse Nat) (n : Nat) : Side :=
  let st := sd.get F.TW_MIR_STATE
  if sd.rejoining && ((decide (st = 1 ∨ st = 2) && sd.twin.passEnd) || decide (st = 4)) then
    let l := pagesDiffer sd.twin.captured other
    let sd := (sd.set F.TW_MIR_DIFF l.length).onTwin (fun t => { t with differ := l, passEnd := false })
    if st = 4 then sd
    else if l.length ≤ sd.get F.TW_MIR_FINAL_MAX then
      (sd.passMade.set F.TW_MIR_STATE 3).onTwin (fun t => { t with finalRow := some (n + 1) })
    else sd.passMade.set F.TW_MIR_STATE 2
  else sd

/-- R243: how long the Side waits. -/
def Side.rejoinWait (sd : Side) : Nat :=
  if sd.flag F.TW_MIR_LM then 0 else Config.longestDelay ((sd.fw.pattern.map Pattern.header).getD [])

/-- R241, R243: the final pass at boundary F = `n`, and the final-style passes of the wait, on the Rework Side `sd`: the differing pages
cross at once, before either Side's units take the pulse of the row. `missed` says that a page missed its interval. -/
def State.finalPass (s : State) (sd : SideId) (n : Nat) (missed : Bool) : State :=
  let x := s.side sd
  let st := x.get F.TW_MIR_STATE
  if x.rejoining && x.twin.failDue.isNone && (decide (st = 3 ∧ x.twin.finalRow = some n) || decide (st = 4 ∧ x.twin.differ ≠ [])) then
    let s := if missed then s else s.mirrorPages sd x.twin.differ
    s.onSide sd (fun x =>
      let x := x.passMade
      if st = 4 then x.onTwin (fun t => { t with differ := [] })
      else if missed then x.set F.TW_MIR_STATE 2
      else ((x.set F.TW_MIR_STATE 4).set F.TW_MIR_WAIT x.rejoinWait).onTwin (fun t => { t with differ := [] }))
  else s

/-- R243: a row of the wait has passed at boundary `n`. -/
def Side.waitRow (sd : Side) (n : Nat) : Side :=
  if sd.mode = .rework ∧ sd.get F.TW_MIR_STATE = 4 ∧ sd.twin.finalRow ≠ some n then sd.set F.TW_MIR_WAIT (sd.get F.TW_MIR_WAIT - 1) else sd

/-- R244: the end of the wait starts the checking phase. -/
def Side.waitEnd (sd : Side) : Side :=
  if sd.mode = .rework ∧ sd.get F.TW_MIR_STATE = 4 ∧ sd.get F.TW_MIR_WAIT = 0 then
    ((sd.set F.TW_MIR_STATE 5).set F.TW_MATCH 0).onTwin (fun t => { t with differ := [], peers := [] })
  else sd

/-- R222, R241, R244: a Rejoin that has failed ends at the boundary. -/
def Side.rejoinEnd (sd : Side) : Side :=
  match sd.twin.failDue with
  | none => sd
  | some c =>
    let x := sd.onTwin (fun t => { t with failDue := none })
    if sd.rejoining then
      (((x.set F.TW_MIR_STATE 7).set F.TW_MIR_FAIL_CAUSE c).set F.TW_STAT_REJOIN_FAIL 1).raise 0x0010 0
        (leBytes 1 c ++ leBytes 1 (sd.get F.TW_MIR_PASS))
    else x

/-! ### The boundary -/

/-- The row of the last change of state (TW_ROLE_ROW). -/
def Side.noteRole (sd : Side) (n : Nat) : Side :=
  if sd.roleCode = sd.twin.role then sd
  else (sd.set64 F.TW_ROLE_ROW_LO F.TW_ROLE_ROW_HI n).onTwin (fun t => { t with role := sd.roleCode })

/-- The Side that rejoins, if either does. -/
def State.rejoinSide (s : State) : Option SideId :=
  if s.side0.rejoining then some .s0 else if s.side1.rejoining then some .s1 else none

/-- R240: Side `sd` captures its signatures at the boundary of row `n`, and once both Sides have those of one row they are compared. -/
def State.captureRow (s : State) (sd : SideId) (n : Nat) : State :=
  match s.rejoinSide with
  | none => s
  | some r =>
    let s := s.onSide sd (fun x => x.onTwin (fun t => { t with captured := x.captureSigs, capRow := some n }))
    if (s.side sd.other).twin.capRow = some n then s.onSide r (fun x => x.compareCaptures (s.side r.other).twin.captured n) else s

/-- What Twin operation does to Side `sd` at the boundary of row `n`: roles, then the heartbeats, which show the new mode
(R214, R215). -/
def State.twinBoundary (s : State) (sd : SideId) (n : Nat) (missed : Bool) : State :=
  let s := match s.rejoinSide with
    | some r => s.finalPass r n missed
    | none => s
  let y := s.side sd.other
  let fit := s.cableJudged sd n
  let epoch := s.host.get F.HP_SEAM_TOKEN_EPOCH
  let s := s.onSide sd (fun x =>
    let was := x.mode
    let x := (((x.compareDue.rejoinEnd).bindOffAhead n).takeover sd n epoch).depose sd
    let x := x.applyPlans sd (y.codeBefore n) n
    let x := ((x.cableCheck fit n).handover sd was n).linkState
    let x := ((x.waitRow n).rejoinDone sd n).giveRows n
    x.noteRole n)
  let s := s.captureRow sd n
  let s := s.onSide sd (fun x => if x.beating then x.onTwin (fun t => { t with hbOut := some (x.makeHeartbeat n) }) else x)
  if (s.side sd).beating then s.seamBeat sd else s

/-! ### The commands -/

/-- MIRROR_WRITE (R242): a page of the pass under way on the Rework Side `sd`. -/
def execMirrorWrite (sd : SideId) (page : BitVec 20) (s : State) : Answer := s.answer (s.mirrorWrite sd page.toNat)

/-- REJOIN_PASS_COMPLETE (R240), on the Rework Side `sd`. -/
def execRejoinPassComplete (sd : SideId) (s : State) : Answer := s.answer (s.passComplete sd)

/-- REJOIN_WAIT_END (R243). -/
def execRejoinWaitEnd (sd : SideId) (s : State) : Answer := s.go sd Side.waitEnd

end Sys2Proof.Machine
end

