-- ==== Sys2Proof/Machine/Loader.lean ====
section
/-!
DEFINITION. The Cue loader (R192 to R194) and the shadow writes that firmware holds for earlier Takes (R174, R411).
-/
namespace Sys2Proof.Machine

open Sys2Proof

/-! ### Writes by the loaders and the firmware -/

/-- Writes a 32-bit register of the Side window as firmware or a loader does. -/
def State.putRegister (s : State) (sd : SideId) (m a v : Nat) : State :=
  let r := s.windowWrite sd .firmware (a - 0x0B000000) 15 v noEnv
  r.1.onSide sd (fun x => x.fabError m 26 r.2 true a)

/-- Writes bytes of the memory space as master `m`, held back while the soft close of their island runs (R258). -/
def State.putSpace (s : State) (sd : SideId) (m a : Nat) (data : List Byte) : State :=
  if (s.side sd).stillHeld (.space m a data) then s.onSide sd (fun x => x.holdBack (.space m a data)) else s.spacePut sd m a data

/-- Writes consecutive words as master `m`: registers word by word, memory as one write. -/
def State.putWords (s : State) (sd : SideId) (m a : Nat) (ws : List Nat) : State :=
  if fabTarget a = 26 then ws.zipIdx.foldl (fun s p => s.putRegister sd m (a + 4 * p.2) p.1) s
  else s.putSpace sd m a (ws.flatMap (leBytes 4))

/-- The master that carries a record's words: the Cross loader for the gain views, the Cue loader for the rest. R189 has records address
the flow shadow registers too, which Table FB-2 does not name for either loader (log entry 47). -/
def loaderMaster (a : Nat) : Nat :=
  match fabTarget a with
  | 20 => 10
  | 24 => 1
  | _ => 9

/-! ### The Cue loader -/

/-- The Cue the loader has taken up, or takes up next. -/
def Side.loaderHead (sd : Side) : Option LoaderJob := sd.takes.loader.head?

/-- Replaces the loader's queue. -/
def Side.setLoader (sd : Side) (l : List LoaderJob) : Side := { sd with takes := { sd.takes with loader := l } }

/-- R192: the SUMS, LEN and CURVE of slot `n` go into descriptor `d`. -/
def Side.loadDesc (sd : Side) (n d : Nat) : Side :=
  let sd := (sd.set (F.XA_DESC_LEN d) (sd.get (F.TK_CUE_LEN n))).set (F.XA_DESC_CURVE d) (sd.get (F.TK_CUE_CURVE n))
  (List.range 32).foldl (fun (x : Side) w => x.set (F.XA_MASK (32 * d + w)) (leVal (sd.bytes (cueBase n + 4 * w) 4))) sd

/-- CUE_LOADER_START: the loader takes up the Cue at the head of its queue. -/
def Side.loaderStart (sd : Side) : Side :=
  match sd.takes.loader with
  | [] => sd
  | j :: rest =>
    if !sd.clocked || j.started then sd
    else
      let x := sd.setLoader ({ j with started := true, records := sd.slotRecords j.slot } :: rest)
      match sd.entryOf j.num with
      | some q => if names (sd.cueMask j.slot) 32 then x.loadDesc j.slot (8 + q.val) else x
      | none => x

/-- R192: a record is deferred while an earlier Take names its unit. -/
def Side.deferred (sd : Side) (num : Nat) (a : Nat) : Bool :=
  let row := (sd.takeList.find? (fun t => t.num = num)).bind Take.row
  match unitOf a with
  | some u => sd.takeList.any (fun t => names t.mask u && dueBefore t num row)
  | none => false

/-- The records to carry out now, in order, and those deferred. -/
def Side.splitRecords (sd : Side) (num : Nat) (l : List (Nat × List Nat)) : List (Nat × List Nat) × List (Nat × List Nat) :=
  (l.filter (fun r => !sd.deferred num r.1), l.filter (fun r => sd.deferred num r.1))

/-- R194, R199: the loader has ended the writes of a Cue whose Take had slipped for want of them. -/
def Side.loadedLate (sd : Side) (num : Nat) : Side :=
  match sd.entryOf num with
  | some q =>
    match sd.takes.queue[q] with
    | some t =>
      if t.waits && sd.takesTakes then
        let row := sd.placeRow t.mask (sd.row + 3)
        (sd.giveRow q t row t.planned false).slipCue t.cue t.planned row
      else sd
    | none => sd
  | none => sd

/-- CUE_LOADER_DONE: the records that nothing defers are carried out; the Cue's writes end with its last record. -/
def State.loaderDone (s : State) (sd : SideId) : State :=
  let x := s.side sd
  match x.takes.loader with
  | [] => s
  | j :: rest =>
    if !x.clocked || !j.started then s
    else
      let p := x.splitRecords j.num j.records
      let s := p.1.foldl (fun s r => s.putWords sd (loaderMaster r.1) r.1 r.2) s
      s.onSide sd (fun x =>
        if p.2.isEmpty then (x.setLoader rest).loadedLate j.num else x.setLoader ({ j with records := p.2 } :: rest))

/-! ### Held shadow writes -/

/-- R174: whether a held write waits for a Take whose boundary has not passed. -/
def Side.holds (sd : Side) (w : HeldWrite) : Bool := sd.takeList.any (fun t => w.after.contains t.num && decide (t.state ≠ 4))

/-- A half's AP_CFG word as firmware writes it: MASTER and BRIDGE as they stand (R327). -/
def Side.cfgWord (sd : Side) (a v : Nat) : Nat :=
  if (a - 0x0B030100) % 0x40 = 0 then mergeMask v (Regs.word sd.regs (a - 0x0B000000)) startBits else v

/-- A shadow write by firmware. -/
def State.shadowPut (s : State) (sd : SideId) (w : HeldWrite) : State :=
  if fabTarget w.addr = 26 then s.putRegister sd 1 w.addr ((s.side sd).cfgWord w.addr w.value)
  else s.putSpace sd 1 w.addr (leBytes 4 w.value)

/-- R174: firmware carries out the held writes that no Take holds any longer, in order. -/
def State.releaseHeld (s : State) (sd : SideId) : State :=
  let x := s.side sd
  let now := x.fw.held.filter (fun w => !x.holds w)
  let s := s.onSide sd (fun x => { x with fw := { x.fw with held := x.fw.held.filter x.holds } })
  now.foldl (fun s w => s.shadowPut sd w) s

/-- R174, R411: a shadow write by firmware, at once or held for the Takes that come before it. -/
def State.shadowWrite (s : State) (sd : SideId) (w : HeldWrite) : State :=
  if (s.side sd).holds w then s.onSide sd (fun x => { x with fw := { x.fw with held := x.fw.held ++ [w] } }) else s.shadowPut sd w

/-! ### The commands -/

/-- CUE_LOADER_START (R193). -/
def execCueLoaderStart (sd : SideId) (s : State) : Answer := s.go sd Side.loaderStart

/-- CUE_LOADER_DONE (R192). -/
def execCueLoaderDone (sd : SideId) (s : State) : Answer := s.answer (s.loaderDone sd)

end Sys2Proof.Machine
end

