-- ==== Sys2Proof/Machine/Rows.lean ====
section
/-!
DEFINITION. Row boundaries (R15, R40, R41, R180, R223, R229, R276 to R278, R299, R472, R473) and the islands' receipt of the row pulse
(R24 to R27).
-/
namespace Sys2Proof.Machine

open Sys2Proof

/-! ### The boundary -/

/-- Table TM-2: LOSS and QUAL in ms of candidates 0 to 7. -/
def candTimes : List (Nat × Nat) := [(1000, 2000), (1000, 2000), (2, 100), (2, 100), (2, 100), (1, 10), (1500, 3000), (2000, 0)]

/-- R281: firmware loads LOSS and QUAL when the Tension loop first runs after Cast-on (log entry 55). -/
def Side.loadCandTimes (sd : Side) : Side :=
  candTimes.zipIdx.foldl (fun (x : Side) p => (x.set (F.TM_CAND_LOSS p.2) p.1.1).set (F.TM_CAND_QUAL_MS p.2) p.1.2) sd

/-- TM_CAND.AGE: the milliseconds that have passed since each candidate's last measurement (Table TM-13), as a row shows them. -/
def Side.growAges (sd : Side) (units : Nat) : Side :=
  let sd := sd.onTm (fun t => { t with ages := t.ages.map (fun a => (a.1, a.2 + units)) })
  sd.tm.ages.foldl (fun (x : Side) a => x.set (F.TM_CAND_AGE a.1) (min (a.2 / (secUnits / 1000)) 65535)) sd

/-- R276 to R278: the row number and the counter at the next boundary: N media-clock cycles after the last one. -/
def Side.nextRow (sd : Side) : Side :=
  if !sd.tm.started then (sd.loadCandTimes.onTm (fun t => { t with started := true, resume := none })).boundaryAt 0 0
  else
    let at' := sd.rowEnd
    let row := if sd.tm.resume.isSome then at' / rowUnits sd.rate else (sd.row + 1) % 2 ^ 64
    (((sd.advance at').growAges (at' - sd.rowStart)).onTm (fun t => { t with resume := none, armed := [] })).boundaryAt row (wrapCounter at')

/-- Steps and alignment at the boundary, and the triggers that a forward step has passed (R299 to R304, R308). `valid` is the
partner's TIME_VALID. -/
def Side.stepAt (sd : Side) (valid : Bool) : Side :=
  let x := sd.timeBoundary sd.row valid
  if sd.counter < x.counter then x.firePassed sd.counter else x

/-- R472: a Side in Cast-on enters Ready. -/
def Side.readyEntry (sd : Side) (me : SideId) : Side :=
  if sd.mode = .castOn then { (sd.enterMode me .ready) with fw := { (sd.enterMode me .ready).fw with readyDue := false } } else sd

/-- R473: what Bind-off cancels at row `n`. A Take without a row would take one after it. -/
def Side.bindOffCancels (sd : Side) (n : Nat) : Side :=
  if sd.producing && sd.twin.plans.any (fun p => p.1 = n && p.2 = .bindOff) then
    (sd.cancelWhere (fun t => t.row.all (fun r => decide (n ≤ r)))).disarmAll
  else sd

/-- R310: the captures of the Takes that commit at the Side's row. -/
def Side.captureTakes (sd : Side) : Side :=
  if sd.flag F.TM_CAP_CTRL_TAKES then
    (sd.takeList.filter (fun t => t.state = 4 && t.row = some sd.row)).foldl (fun (x : Side) t =>
      x.capture { kind := 3, index := 0, data := 0, num := t.num, time := sd.rowStart, row := sd.row }) sd
  else sd

/-- The scheduler, the row triggers and the pulse at the Side's row (R180, R191, R40). -/
def Side.schedule (sd : Side) (heldClear : Bool) : Side :=
  let x := ((sd.takeBoundary sd.row).captureTakes).rowTriggers
  { x with pulse := { row := x.row, heldClear := heldClear, mask := x.commitMask x.row } }

/-- The boundary of a Side whose pulse runs. `missed` says that a page of a final mirror pass missed its interval (R241). -/
def State.pulseBoundary (s : State) (sd : SideId) (missed : Bool) : State :=
  let n := (s.side sd).row
  let s := (s.onSide sd (fun x => x.bindOffCancels n)).twinBoundary sd n missed
  let rate := (s.side sd.other).rate
  let c := s.choice
  (c.2.onSide sd (fun x => (x.checkQuals rate).schedule c.1)).releaseHeld sd

/-- The next row boundary of a Side. -/
def State.rowBoundary (s : State) (sd : SideId) (missed : Bool) : State :=
  let x := s.side sd
  let valid := (s.side sd.other).flag F.TM_STAT_TIME_VALID
  if !x.clocked then s
  else if x.mode = .castOn && !x.fw.readyDue then
    if x.tm.started then s.onSide sd (fun x => x.nextRow.stepAt valid) else s
  else (s.onSide sd (fun x => (x.nextRow.stepAt valid).readyEntry sd)).pulseBoundary sd missed

/-! ### Receipt of the pulse -/

/-- An island's acknowledgement of its swap (R181). -/
def Side.ackIf (r : Side × Bool) (u : Nat) : Side := if r.2 then r.1.ackOwed u else r.1

/-- R25, R85: a Stitch core's receipt. A core that the mask names swaps its C banks and acknowledges. -/
def Side.coreReceipt (sd : Side) (k : Fin 32) : Side :=
  let take := names sd.pulse.mask k.val && sd.gateOpen k.val
  Side.ackIf (sd.corePulse k sd.pulse.row take, take) k.val

/-- The units of an island whose outputs are source points. -/
def islandSources : Island → List Nat
  | .core k => [k.val]
  | .cross => [32]
  | .gauge => []
  | .port => [35]
  | .network => [37]
  | .shemas => [39]

/-- An island has taken the pulse: what waited for its publication goes on (R28). -/
def State.tookPulse (s : State) (sd : SideId) (i : Island) : State :=
  s.onSide sd (fun x => (x.tookPulse (islandSources i) x.pulse.row).gaugeTry)

/-- R228: whether the Side knows its partner to be a Follow in step: its own count of matches says so, the link path is heard, and the last
heartbeat showed a Follow. -/
def Side.followInStep (sd : Side) : Bool := sd.linkHeard && decide (sd.get F.TW_STAT_PARTNER_MODE = 8) && sd.inStep

/-- An island takes up the pulse (R24). It is dropped for a Side whose pulse does not run; each island drops it while it is gated, when
its gate cell announces IDLE (R260). -/
def State.takeUp (s : State) (sd : SideId) (i : Island) (e : PulseEnv) : State :=
  let x := s.side sd
  let row := x.pulse.row
  if !x.pulsing then s
  else
    State.tookPulse (match i with
    | .core k => s.onSide sd (fun x => x.coreReceipt k)
    | .cross => s.onSide sd (fun x => Side.ackIf (x.crossPulse row (names x.pulse.mask 32) (x.noticeDesc row) e.reached e.lost) 32)
    | .gauge => s.onSide sd (fun x => Side.ackIf (x.gaugePulse row (names x.pulse.mask 33) e.unfinished e.lost) 33)
    | .port => s.onSide sd (fun x => x.portPulse row (names x.pulse.mask 34) e)
    | .network =>
      s.onSide sd (fun x => Side.ackIf (x.netPulse row (names x.pulse.mask 35) e.unfinished x.followInStep) 35)
    | .shemas =>
      (s.sendCasts sd).onSide sd (fun x => x.shemasPulse (s.host.get F.HP_ID_DEVID) sd.num s.host.relay.length row e.unfinished e.starts)) sd i

/-! ### The blend stream (R234, R237) -/

/-- Whether an island transmits what Emit placed. -/
def islandTransmits : Island → Bool
  | .port => true
  | .network => true
  | .shemas => true
  | _ => false

/-- ROW_PULSE_RECEIPT: a transmitting island of a Lead that blends takes the pulse up once the stream row has come (R28, R234). -/
def State.receipt (s : State) (sd : SideId) (i : Island) (e : PulseEnv) : State :=
  if (s.side sd).awaitsRow && islandTransmits i then
    s.onSide sd (fun x => x.onTwin (fun t => { t with blendWait := t.blendWait ++ [(i, e)] }))
  else s.takeUp sd i e

/-- The islands that waited for a stream row take the pulse up. -/
def State.blendGo (s : State) (sd : SideId) : State :=
  let l := (s.side sd).twin.blendWait
  l.foldl (fun s w => s.takeUp sd w.1 w.2) (s.onSide sd (fun x => x.onTwin (fun t => { t with blendWait := [] })))

/-- R205, R234: the partner's stream row reaches the Lead `sd`; one whose CRC fails is counted and discarded. -/
def State.blendReceive (s : State) (sd : SideId) (crcOk : Bool) : State :=
  let x := s.side sd
  let y := s.side sd.other
  if s.linkUp && x.awaitsRow && (y.streamRow x.handRow ((x.row + 2 ^ 64 - 1) % 2 ^ 64)).isSome then
    if crcOk then (s.setSide sd (x.blendRow y)).blendGo sd else s.setSide sd (x.incSat F.TW_LINK_ERR)
  else s

/-- R237: the stream row that the Lead `sd` waits for does not come. The Rework Side's Blend cable ends with it (log entry 26). -/
def State.blendLost (s : State) (sd : SideId) : State :=
  if (s.side sd).awaitsRow then
    ((s.onSide sd Side.blendMissing).onSide sd.other (fun y =>
      if y.mode = .rework ∧ y.blending then y.set F.TW_HAND_STATE 5 else y)).blendGo sd
  else s

/-! ### The commands -/

/-- BLEND_STREAM_RECEIVE (R234), at the Lead `sd`. `crcOk` says that the row's CRC is good. -/
def execBlendStreamReceive (r : StreamRow) (s : State) : Answer := s.answer (s.blendReceive r.side r.crcOk)

/-- BLEND_STREAM_MISSING (R237), at the Lead `sd`. -/
def execBlendStreamMissing (sd : SideId) (s : State) : Answer := s.answer (s.blendLost sd)

/-- ROW_BOUNDARY (R40). A stream row that has not come by then does not come (R237). -/
def execRowBoundary (sd : SideId) (missed : Bool) (s : State) : Answer := s.answer ((s.blendLost sd).rowBoundary sd missed)

/-- ROW_PULSE_RECEIPT (R24). -/
def execRowPulseReceipt (sd : SideId) (island : Island) (e : PulseEnv) (s : State) : Answer := s.answer (s.receipt sd island e)

end Sys2Proof.Machine
end

