-- ==== Sys2Proof/Machine/Ibelle.lean ====
section
/-!
DEFINITION. Ibelle: how firmware takes a message from its inbound ring, checks it and replies (R402 to R409, R413, R414), and the
SYS and EVT classes (R408, R412, R416 to R419).
-/
namespace Sys2Proof.Machine

open Sys2Proof

/-! ### Status codes (Table IB-3) -/

abbrev stBadVersion : Nat := 0x01
abbrev stBadLen : Nat := 0x02
abbrev stBadCrc : Nat := 0x03
abbrev stBadSelect : Nat := 0x04
abbrev stBadClass : Nat := 0x05
abbrev stBadOpcode : Nat := 0x06
abbrev stBadSession : Nat := 0x07
abbrev stLocked : Nat := 0x08
abbrev stBadMode : Nat := 0x09
abbrev stTwinOnly : Nat := 0x0A
abbrev stTwinRule : Nat := 0x0B
abbrev stBadHandle : Nat := 0x0C
abbrev stBadValue : Nat := 0x0D
abbrev stBadRoute : Nat := 0x0E
abbrev stBadTake : Nat := 0x0F
abbrev stBadTarget : Nat := 0x10
abbrev stBusy : Nat := 0x11
abbrev stTooLate : Nat := 0x12
abbrev stQueueFull : Nat := 0x13
abbrev stRowBusy : Nat := 0x14
abbrev stLoadRefused : Nat := 0x15
abbrev stStepRefused : Nat := 0x16
abbrev stNoBuffer : Nat := 0x17
abbrev stNoBandwidth : Nat := 0x18
abbrev stNotLent : Nat := 0x19

/-- What carrying a message out comes to: the state it leads to with the reply's payload and the Side whose reset follows the
reply, a refusal with its status code and detail, or a refusal that leaves a trace of its own in the state (R301). -/
inductive Carried where
  | done (s : State) (payload : List Byte) (reset : Option SideId)
  | refused (code detail : Nat)
  | failed (s : State) (code detail : Nat)

/-- Carried out, with a reply without or with a payload. -/
def State.ok (s : State) : Carried := .done s [] none
def State.says (s : State) (payload : List Byte) : Carried := .done s payload none

/-- Carried out on one Side. -/
def State.okSide (s : State) (sd : SideId) (f : Side → Side) : Carried := (s.onSide sd f).ok

/-- Refused unless a condition holds. -/
def Carried.need (p : Bool) (code : Nat) (r : Carried) : Carried := if p then r else .refused code 0

/-- An unsigned field of a message's payload. -/
def Msg.u (m : Msg) (off n : Nat) : Nat := leVal ((m.payload.drop off).take n)

/-! ### Checks (Table IB-2) -/

/-- The number of opcodes of each class, which run from 1 (Table IB-5); 0 for no class. -/
def opcodes (cls : Nat) : Nat := [0, 7, 5, 3, 3, 2, 9, 3, 7, 7, 8, 6, 4, 8, 3, 4, 3, 3].getD cls 0

/-- The opcodes marked H (Table IB-5). -/
def hostOpcode (cls op : Nat) : Bool :=
  decide ((cls = 1 ∧ op ≤ 2) ∨ (cls = 0x0C ∧ (op = 3 ∨ op = 4)) ∨ (cls = 0x10 ∧ op = 2))

/-- Checks 3 to 6, in order; `own` is the ring's Side and `tag` the route tag (0, 1, or 2 for the relay). -/
def Msg.formCheck (m : Msg) (own tag : Nat) : Option Nat :=
  if 4064 < m.len then some stBadLen
  else if m.crc ≠ (if m.len = 0 then 0 else crc32 m.payload) then some stBadCrc
  else if !decide ((m.sel = own ∧ m.sel < 2 ∧ tag ≠ 1) ∨ (m.sel = 2 ∧ tag ≠ 0) ∨ m.sel = 3) then some stBadSelect
  else if opcodes m.cls = 0 then some stBadClass
  else if m.op = 0 ∨ opcodes m.cls < m.op then some stBadOpcode
  else if m.sel = 3 ∧ !hostOpcode m.cls m.op then some stBadSelect
  else if m.sel ≠ 3 ∧ m.cls = 0x0C ∧ 3 ≤ m.op then some stBadSelect
  else none

/-- R408: check 7. -/
def Side.sessionCheck (sd : Side) (m : Msg) : Option Nat :=
  let free := decide ((m.cls = 1 ∧ m.op ≤ 2) ∨ m.cls = 0x10)
  if sd.fuses.lc = 3 then (if free then none else some stLocked)
  else if sd.fuses.lc = 2 then
    if free || decide (m.cls = 1 ∧ m.op = 3) || sd.fw.session == some m.session then none else some stBadSession
  else none

/-- Whether firmware runs; before it, boot code serves SYS, PAT, MEM and READ (R471). -/
def Side.fwRuns (sd : Side) : Bool := decide (4 ≤ sd.get F.PW_BOOT_STAGE)

/-- Table AR-9: the classes a Side takes in its mode. -/
def Side.takesClass (sd : Side) (cls : Nat) : Bool :=
  let four := decide (cls = 1 ∨ cls = 2 ∨ cls = 0x0E ∨ cls = 0x10)
  if sd.mode = .castOn then four
  else if sd.mode = .coast ∨ sd.mode = .halt then decide (cls = 0x10)
  else if sd.pulsing then sd.fwRuns || four
  else false

/-- R413: the opcodes whose own rule requires a mode (R42, R473, Tables PW-4 and TW-5). -/
def Side.takesOpcode (sd : Side) (cls op : Nat) : Bool :=
  match cls, op with
  | 1, 5 => decide (sd.mode = .ready)
  | 1, 6 => sd.producing
  | 2, 1 => decide (sd.mode = .castOn ∨ sd.mode = .ready ∨ sd.mode = .rework)
  | 2, 2 | 2, 3 => decide (sd.mode = .castOn ∨ sd.mode = .rework)
  | 0x0D, 1 => decide (sd.mode = .ready)
  | 0x0D, 2 => decide (sd.mode = .lead ∨ sd.mode = .follow)
  | 0x0D, 3 => decide (sd.mode = .lead ∨ sd.mode = .rework)
  | 0x0D, 4 => decide (sd.mode = .follow)
  | 0x0D, 5 => decide (sd.mode = .rework)
  | 0x0D, 6 => sd.inTwin
  | 0x0D, 7 => decide (sd.mode = .solo ∨ sd.mode = .ready)
  | _, _ => true

/-- R208: what a Side in Lead or Follow refuses when it is posted to that Side alone. -/
def Side.twinOnly (sd : Side) (m : Msg) : Bool :=
  decide (sd.mode = .lead ∨ sd.mode = .follow) && decide (m.sel < 2) &&
    !decide (m.cls = 0x10 ∨ m.cls = 0x11 ∨ m.cls = 0x0D ∨ m.cls = 0x0F ∨ (m.cls = 1 ∧ m.op ≤ 2))

/-- The payload length of a message other than CUE ADD (Table IB-5); a list's COUNT stands in the payload. -/
def Msg.plainLen (m : Msg) (n : Nat) : Bool :=
  match m.cls, m.op with
  | 2, 2 => decide (4 ≤ n)
  | 3, 1 => decide (8 ≤ n ∧ n = 8 + 12 * m.u 4 4)
  | 4, 1 => decide (8 ≤ n ∧ n = 8 + 8 * m.u 4 4)
  | 4, 2 => decide (12 ≤ n ∧ n = 12 + 4 * m.u 8 2)
  | 0x0B, 6 => decide (20 ≤ n)
  | c, o =>
    decide (n = (([[], [0, 0, 16, 0, 8, 8, 4], [12, 0, 0, 0, 4], [0, 8, 8], [0, 0, 132], [20, 4], [212, 0, 4, 12, 4, 4, 4, 4, 4],
      [20, 4, 12], [12, 12, 4, 8, 4, 8, 8], [0, 8, 24, 8, 12, 8, 0], [16, 8, 4, 4, 4, 4, 16, 8], [20, 56, 24, 4, 28, 0],
      [8, 8, 8, 4], [12, 8, 12, 8, 0, 8, 8, 8], [4, 4, 4], [28, 4, 4, 20], [8, 8, 8], [4, 4, 4]] : List (List Nat)).getD c []).getD
        (o - 1) 0)

/-- The opcodes whose payload opens with TB, which CUE ADD carries without it (R411). -/
def opensTb (cls op : Nat) : Bool :=
  decide ((cls = 3 ∧ op = 1) ∨ (cls = 4 ∧ (op = 1 ∨ op = 2)) ∨ (cls = 0x0A ∧ op = 1) ∨ (cls = 0x0B ∧ op = 3))

/-- The message a CUE ADD carries, with TB as 0. -/
def Msg.carried (m : Msg) : Msg :=
  { m with cls := m.u 2 2 / 256, op := m.u 2 2 % 256, payload := List.replicate 4 0 ++ m.payload.drop 4 }

/-- Check 9. A CUE ADD has the length of what it carries. -/
def Msg.lenOk (m : Msg) : Bool :=
  if m.cls = 6 ∧ m.op = 2 then decide (4 ≤ m.len) && (!opensTb m.carried.cls m.carried.op || m.carried.plainLen m.len)
  else m.plainLen m.len

/-- Checks 7 to 9: the refusal's code and detail. -/
def Side.ruleCheck (sd : Side) (m : Msg) : Option (Nat × Nat) :=
  match sd.sessionCheck m with
  | some c => some (c, 0)
  | none =>
    if !sd.takesClass m.cls || !sd.takesOpcode m.cls m.op then some (stBadMode, sd.mode.code)
    else if sd.twinOnly m then some (stTwinOnly, 0)
    else if !m.lenOk then some (stBadLen, 0)
    else none

/-! ### Taking a message -/

/-- The pieces of a reply's payload, one for each slot (R406). -/
def slots : Nat → List Byte → List (List Byte)
  | 0, p => [p]
  | n + 1, p => if p.length ≤ 4064 then [p] else p.take 4064 :: slots n (p.drop 4064)

/-- The reply to a message (R404, R406, R409): its slots, CONT in all but the last. -/
def Msg.replies (m : Msg) (code detail : Nat) (payload : List Byte) (via : Option Nat) (reset : Option SideId) : List OutMsg :=
  let ps := slots 32 payload
  ps.zipIdx.map (fun p =>
    { event := false, via := via, reset := reset
      msg := { version := 2, cls := m.cls, op := m.op, seq := m.seq, devid := 0, sel := 0
               flags := if p.2 + 1 = ps.length then 1 else 5, len := p.1.length, session := m.session
               status := code + 256 * detail, crc := 0, payload := p.1 } })

/-- Firmware makes a reply. -/
def Side.reply (sd : Side) (l : List OutMsg) : Side := { sd with fw := { sd.fw with outQ := sd.fw.outQ ++ l } }

/-- The message at the front of a Side's inbound ring: its bytes and its route tag. -/
def State.ringFront (s : State) (sd : SideId) : Option (List Byte × Nat) :=
  let n := sd.num
  if s.host.held || decide (s.host.ringCount n false = 0) then none
  else
    let c := s.host.get (consFld n false) % 64
    some (s.host.bytes (ringBase n false + 4096 * c) 4096, s.host.tag n c)

/-- R413, R414, R474: whether a Side's code takes messages at all. -/
def Side.serves (sd : Side) : Bool := decide (4 ≤ sd.mode.code) && !sd.fw.stopped && decide (sd.fw.replies < 64)

/-- A message is taken: CONS advances and LAST_SEQ is its SEQ (R381, R405). -/
def State.taken (s : State) (sd : SideId) (m : Msg) : State :=
  (s.onHost (fun h => h.consume sd.num)).onSide sd (fun x => { x with fw := { x.fw with lastSeq := m.seq } })

/-- A handler of one opcode. -/
abbrev Handler : Type := SideId → Msg → State → Carried

/-- Carries out a message taken, and replies. -/
def State.carry (s : State) (sd : SideId) (m : Msg) (via : Option Nat) (r : Carried) : State :=
  match r with
  | .done t p reset => t.onSide sd (fun x => x.reply (m.replies 0 0 p via reset))
  | .refused code detail => s.onSide sd (fun x => x.reply (m.replies code detail [] via none))
  | .failed t code detail => t.onSide sd (fun x => x.reply (m.replies code detail [] via none))

/-- R404, R405: firmware of Side `sd` takes the message at the front of its ring, when it is one of class `cls` and opcode `op` or
one that fails checks 1 to 6, which no opcode stands behind. -/
def State.ibelle (s : State) (sd : SideId) (cls op : Nat) (f : Handler) : State :=
  match s.ringFront sd with
  | none => s
  | some (b, tag) =>
    if !(s.side sd).serves then s
    else
      let m := msgOf b
      let t := s.taken sd m
      let via := if tag % 4 = 2 then some (tag / 4) else none
      if m.version ≠ 2 then t.carry sd m via (.refused stBadVersion 0)
      else if m.devid % 64 ≠ s.host.get F.HP_ID_DEVID then
        if s.host.routeFull (m.devid % 64) then s
        else t.onHost (fun h => h.relayOut (m.devid % 64) m.sel (b.take (32 + min m.len 4064)))
      else
        match m.formCheck sd.num (tag % 4) with
        | some c => t.carry sd m via (.refused c 0)
        | none =>
          if m.cls ≠ cls ∨ m.op ≠ op then s
          else
            match (s.side sd).ruleCheck m with
            | some e => t.carry sd m via (.refused e.1 e.2)
            | none => t.carry sd m via (f sd m t)

/-! ### SYS -/

/-- The loaded Pattern's PATTERN_ID; a value the spec leaves open while none is loaded (log entry 1). -/
def State.patternId (s : State) (sd : SideId) : Nat × State :=
  match (s.side sd).fw.pattern with
  | some p => (leVal ((p.header.drop 8).take 8), s)
  | none => (s.freeWord.1.toNat, s.freeWord.2)

/-- SYS INFO. -/
def sysInfo : Handler := fun sd _ s =>
  let p := s.patternId sd
  let x := s.side sd
  p.2.says (leBytes 1 2 ++ leBytes 1 x.mode.code ++ leBytes 1 (x.get F.PW_MODE_ARR) ++ leBytes 1 x.fuses.lc ++ leBytes 4 x.fw.build ++
    leBytes 8 p.1 ++ leBytes 4 x.fw.lastSeq ++ leBytes 4 x.fw.evtSeq ++ leBytes 8 x.row)

/-- SYS SESSION_OPEN (R408): the tag, and a signature with the identity key of the secure bank. -/
def sessionOpen : Handler := fun sd m s =>
  let nonce := m.payload.take 16
  let tag := (sha256 (nonce ++ leBytes 1 (s.host.get F.HP_ID_DEVID))).take 8
  let digest := sha256 (nonce ++ tag ++ leBytes 4 (Regs.word s.host.regs F.HP_ID_DEVID.off) ++ leBytes 1 sd.num)
  let key := leVal ((s.side sd).bytes (secureBase + 64) 32)
  let sig := fitTo 64 (0 : Byte) (Config.ecdsaSign key digest s.fresh)
  (({ s with fresh := s.fresh + 1 } : State).onSide sd (fun x => { x with fw := { x.fw with session := some (leVal tag) } })).says (tag ++ sig)

/-- SYS SESSION_CLOSE. -/
def sessionClose : Handler := fun sd _ s => s.okSide sd (fun x => { x with fw := { x.fw with session := none } })

/-- A change of mode for a row, at least 4 rows on (Table IB-5, R222, R473). -/
def planFor (c : RoleChange) : Handler := fun sd m s =>
  if m.u 0 8 < (s.side sd).row + 4 then .refused stTooLate 0
  else s.okSide sd (fun x => x.onTwin (fun t => { t with plans := t.plans ++ [(m.u 0 8, c)] }))

/-- SYS RESET_SIDE (Table PW-3). -/
def resetSideOp : Handler := fun _ m s => if 1 < m.u 0 1 then .refused stBadValue 0 else .done s [] (some (sideOf (m.u 0 1)))

/-- The class and opcode rows of SYS. -/
def execSysNop (sd : SideId) (s : State) : Answer := s.answer (s.ibelle sd 1 1 (fun _ _ s => s.ok))

/-- SYS_INFO. -/
def execSysInfo (sd : SideId) (s : State) : Answer := s.answer (s.ibelle sd 1 2 sysInfo)

/-- SYS_SESSION_OPEN (R408). -/
def execSysSessionOpen (sd : SideId) (s : State) : Answer := s.answer (s.ibelle sd 1 3 sessionOpen)

/-- SYS_SESSION_CLOSE (R408). -/
def execSysSessionClose (sd : SideId) (s : State) : Answer := s.answer (s.ibelle sd 1 4 sessionClose)

/-- SYS RUN (R469), with R445's banks. -/
def sysRun : Handler := fun sd m s => if !(s.side sd).unitBanksOn then .refused stBusy 0 else planFor .run sd m s

/-- SYS_RUN (R469). -/
def execSysRun (sd : SideId) (s : State) : Answer := s.answer (s.ibelle sd 1 5 sysRun)

/-- SYS_BIND_OFF (R473). -/
def execSysBindOff (sd : SideId) (s : State) : Answer := s.answer (s.ibelle sd 1 6 (planFor .bindOff))

/-- SYS_RESET_SIDE (R466). -/
def execSysResetSide (sd : SideId) (s : State) : Answer := s.answer (s.ibelle sd 1 7 resetSideOp)

/-! ### EVT -/

/-- R418: the flags of the record behind an event code and unit that EVT ACK clears; none for a code without a record, or a unit
that the code does not have. -/
def recordFlags (code unit : Nat) : Option (List Fld) :=
  match code with
  | 0x0002 => if unit ≤ 40 then some [(ovrFlds unit).1, (ovrFlds unit).2.1] else none
  | 0x0003 => if unit < 32 then some [F.SK_OVF_PC_VALID unit, F.SK_OVF_PC_MULTI unit] else none
  | 0x0004 => some [F.XA_SAT_FIRST_VALID, F.XA_SAT_FIRST_MULTI]
  | 0x0005 => some [F.TK_STAT_FAIL, F.TK_STAT_MULTI]
  | 0x0008 => some [F.TW_STAT_DIVERGE, F.TW_STAT_DIV_MULTI]
  | 0x0013 => some [F.CK_XLOSS_VALID, F.CK_XLOSS_MULTI]
  | 0x0019 => if unit ≤ 51 then some [F.MM_BANK_VALID unit, F.MM_BANK_DOUBLE unit, F.MM_BANK_MULTI unit] else none
  | _ => none

/-- EVT ACK (R418). -/
def evtAck : Handler := fun sd m s =>
  match recordFlags (m.u 0 2) (m.u 2 2) with
  | some l => s.okSide sd (fun x => if x.flag (l.headD F.PW_MODE_PREV) then l.foldl (fun (x : Side) f => x.set f 0) x else x)
  | none => .refused stBadValue 0

/-- EVT ATTN (R419). -/
def evtAttn : Handler := fun sd m s =>
  let code := m.u 0 2
  let line := m.u 2 1
  if code = 0 ∨ 0x001C < code ∨ (31 < line ∧ line ≠ 0xFF) then .refused stBadValue 0
  else s.okSide sd (fun x => { x with fw := { x.fw with lines := Sparse.set (fun _ => 0xFF) x.fw.lines code line } })

/-- EVT LOST (R417). -/
def evtLost : Handler := fun sd m s =>
  let fw := (s.side sd).fw
  let t := if m.u 0 1 % 2 = 1 then s.onSide sd (fun x => { x with fw := { x.fw with lost := 0, evtLost := false } }) else s
  t.says (leBytes 4 fw.lost ++ leBytes 1 fw.evtLost.toNat ++ leBytes 3 0)

/-- EVT_ACK (R418). -/
def execEvtAck (sd : SideId) (s : State) : Answer := s.answer (s.ibelle sd 0x11 1 evtAck)

/-- EVT_ATTN (R419). -/
def execEvtAttn (sd : SideId) (s : State) : Answer := s.answer (s.ibelle sd 0x11 2 evtAttn)

/-- EVT_LOST (R417). -/
def execEvtLost (sd : SideId) (s : State) : Answer := s.answer (s.ibelle sd 0x11 3 evtLost)

end Sys2Proof.Machine
end

