-- ==== Sys2Proof/Machine/Objects.lean ====
section
/-!
DEFINITION. Ibelle objects (R410, Table IB-4): the OBJ, XP and READ classes, and writes bound to Takes (R411, R174).
-/
namespace Sys2Proof.Machine

open Sys2Proof

/-! ### Handles -/

/-- The fields of an object handle (R410). -/
def hClass (h : Nat) : Nat := h / 2 ^ 48 % 512
def hIndex (h : Nat) : Nat := h / 2 ^ 24 % 2 ^ 24
def hAttr (h : Nat) : Nat := h % 2 ^ 24

/-- R407, R410: whether a handle is for this device and Side; with SEL 2 bit [57] is ignored. -/
def handleHere (devid me sel h : Nat) : Bool := decide (h / 2 ^ 58 = devid) && (decide (sel = 2) || decide (h / 2 ^ 57 % 2 = me))

/-- The object map of the loaded Pattern; nothing without one. -/
def Side.objects (sd : Side) : List Byte := (sd.fw.pattern.map Pattern.objects).getD []

/-- What the object map says of a parameter. -/
def Side.param (sd : Side) (cls idx p : Nat) : Option (Nat × Nat × Nat × Nat × Nat × Nat) :=
  if sd.fw.pattern.isSome then Config.objectParam sd.objects cls idx p else none

/-- Strips, buses and effect engines, whose parameters the object map gives. -/
def mapped (cls : Nat) : Bool := decide (cls = 0x001 ∨ cls = 0x002 ∨ cls = 0x00E)

/-- Whether the Pattern's Cross map uses feed `f` (a used destination fills it) and sum `c` (it is delivered). -/
def Side.feedUsed (sd : Side) (f : Nat) : Bool :=
  sd.usedDests.any (fun d => decide ((sd.destDesc d).1 % 16 = 2 ∧ (sd.destDesc d).2 % 1024 = f))
def Side.sumUsed (sd : Side) (c : Nat) : Bool := sd.cross.deliver.any (fun e => e.1 = c)

/-- Whether an index names an object in use (R410, Table IB-4). -/
def Side.objectUsed (sd : Side) (cls i : Nat) : Bool :=
  if mapped cls then sd.fw.pattern.isSome && (Config.objectIndices sd.objects cls).contains i
  else
    match cls with
    | 0x003 => decide (i < 2 ^ 20) && sd.feedUsed (i / 1024) && sd.sumUsed (i % 1024)
    | 0x004 => sd.usedDests.contains i
    | 0x005 => sd.gauge.used.contains i
    | 0x006 => decide (i < 34)
    | 0x007 => decide (i < 256)
    | 0x008 => decide (i < 128)
    | 0x009 => decide (i < 128)
    | 0x00A => decide (i < 8)
    | 0x00B => decide (i < 32) && sd.coreMask.testBit i
    | 0x00C => decide (i < 52)
    | 0x00D => decide (i < 16)
    | 0x00F => decide (i < 16)
    | 0x010 => decide (i < 0x100000)
    | _ => false

/-- Whether an attribute is one of its class (Table IB-4). -/
def Side.attrOk (sd : Side) (cls i a : Nat) : Bool :=
  if mapped cls then decide (a / 2 ^ 17 = 0) && (sd.param cls i (a % 65536)).isSome
  else
    match cls with
    | 0x003 | 0x004 | 0x00B => decide (a < 3)
    | 0x005 | 0x007 => decide (a < 2)
    | 0x009 => decide (a / 65536 < 3 ∧ (a / 65536 = 2 ∨ a % 65536 = 0))
    | _ => decide (a = 0)

/-- R410: whether a handle is good on this Side. -/
def State.handleOk (s : State) (sd : SideId) (sel h : Nat) : Bool :=
  handleHere (s.host.get F.HP_ID_DEVID) sd.num sel h && (s.side sd).objectUsed (hClass h) (hIndex h) &&
    (s.side sd).attrOk (hClass h) (hIndex h) (hAttr h)

/-! ### Writes bound to Takes (R411) -/

/-- The queued Takes that a write into unit `u`'s shadow waits for, by TB; none where TB names no Take that takes it. -/
def Side.boundAfter (sd : Side) (tb u : Nat) : Option (List Nat) :=
  if tb = 0 then some ((sd.takeList.filter (fun t => names t.mask u && decide (t.state ≠ 4))).map Take.num)
  else
    match sd.takeList.find? (fun t => t.num = tb) with
    | some t =>
      if names t.mask u && decide (t.state = 1) then
        some ((sd.takeList.filter (fun x => names x.mask u && dueBefore x tb t.row)).map Take.num)
      else none
    | none => none

/-- What a write of a word waits for. -/
def Side.writeAfter (sd : Side) (tb a : Nat) : Option (List Nat) :=
  match unitOf a with
  | some u => sd.boundAfter tb u
  | none => some []

/-- The shadow writes of a message (address, word), each at once or held; the message is refused whole if TB cannot be kept. -/
def State.bindWrites (s : State) (sd : SideId) (tb : Nat) (ws : List (Nat × Nat)) : Carried :=
  let x := s.side sd
  if ws.any (fun w => (x.writeAfter tb w.1).isNone) then .refused stBadTake 0
  else (ws.foldl (fun s w => s.shadowWrite sd { after := (x.writeAfter tb w.1).getD [], take := tb, addr := w.1, value := w.2 }) s).ok

/-- What a message's writes come to: the words they put (address, word), or a refusal's code and detail. -/
inductive Compiled where
  | words (l : List (Nat × Nat))
  | refused (code detail : Nat)
  deriving DecidableEq, Repr

/-- The words of a list of items, each compiled with its position; the first refusal stands for the whole. -/
def compileItems {α : Type} (f : Nat → α → Compiled) : Nat → List α → Compiled
  | _, [] => .words []
  | i, a :: as =>
    match f i a with
    | .refused c d => .refused c d
    | .words l =>
      match compileItems f (i + 1) as with
      | .refused c d => .refused c d
      | .words l' => .words (l ++ l')

/-- R409: an item's position as a detail. -/
def itemNo (i : Nat) : Nat := min i 255

/-- Writes bound to the Take that TB names. -/
def State.bound (s : State) (sd : SideId) (m : Msg) (c : Compiled) : Carried :=
  match c with
  | .refused code d => .refused code d
  | .words l => s.bindWrites sd (m.u 0 4) l

/-- The lane word of a core's C shadow view (Table MM-2). -/
def shadowLane (k w l : Nat) : Nat := coreBase k + 0x60000 + 16 * w + 4 * l

/-- The words of a view of the gains and of the Patchbay's tables (Tables XA-3 and PB-12). -/
def gainViewAddr (v i : Nat) : Nat := 0x07000000 + 0x400000 * v + 4 * i
def patchAddr (t d : Nat) : Nat := 0x0A000000 + 0x10000 * t + 4 * d

/-- R155, R363: whether firmware takes selection `v` for destination `d`. -/
def Side.selectionOk (sd : Side) (d v : Nat) : Bool :=
  let w := sd.destDesc d
  let src := v % 16384
  let fwd := decide (w.1 % 16 = 5) && (List.range 128).any (fun i =>
    decide (sd.skeinF i 0 7 1 = 1 ∧ sd.skeinF i 0 1 1 = 0 ∧ sd.skeinF i 0 24 2 = w.2 % 4 ∧ sd.skeinF i 0 26 4 = w.2 / 4 % 16))
  decide (w.1 % 16 ≠ 0) &&
    (v.testBit 15 ||
      (sd.sourceUsed src && (w.1 / 65536).testBit (sd.latency src / 2 ^ 24 % 16 - 1) && decide (sd.latency src / 2 ^ 24 % 16 ≠ 0) &&
        (!w.1.testBit 4 || sd.sourceWide src) && !fwd))

/-- One item of OBJ WRITE. -/
def State.objItem (s : State) (sd : SideId) (sel i : Nat) (it : Nat × Nat) : Compiled :=
  let x := s.side sd
  let h := it.1
  let n := itemNo i
  if !s.handleOk sd sel h then .refused stBadHandle n
  else if mapped (hClass h) then
    match x.param (hClass h) (hIndex h) (hAttr h % 65536) with
    | some p =>
      if !Config.valueFits p.2.2.1 p.2.2.2.2.1 p.2.2.2.2.2 it.2 then .refused stBadValue n
      else
        .words ((Config.coefPlaces x.objects (hClass h) (hIndex h) (hAttr h % 65536)).zipIdx.map (fun q =>
          (shadowLane (q.1.1 % 32) (q.1.2.1 % 4096) (q.1.2.2 % 4),
            Config.coefValue x.objects (hClass h) (hIndex h) (hAttr h % 65536) it.2 q.2 % 2 ^ 24)))
    | none => .refused stBadHandle n
  else if hClass h = 0x003 ∧ hAttr h = 2 then .words [(gainViewAddr 2 (hIndex h), it.2)]
  else if hClass h = 0x004 ∧ hAttr h = 1 then
    if x.selectionOk (hIndex h) it.2 then .words [(patchAddr 1 (hIndex h), it.2)] else .refused stBadRoute n
  else .refused stBadHandle n

/-- OBJ WRITE. -/
def State.objWords (s : State) (sd : SideId) (m : Msg) : Compiled :=
  let n := m.u 4 4
  if n = 0 ∨ 338 < n then .refused stBadValue 0
  else compileItems (s.objItem sd m.sel) 0 ((List.range n).map (fun i => (m.u (8 + 12 * i) 8, m.u (16 + 12 * i) 4)))

/-- XP STAGE. -/
def Side.stageWords (sd : Side) (m : Msg) : Compiled :=
  let n := m.u 4 4
  if n = 0 ∨ 507 < n then .refused stBadValue 0
  else
    compileItems (fun i (it : Nat × Nat) =>
      if it.1 < 2 ^ 20 ∧ it.1 % 1024 < sd.sums then .words [(gainViewAddr 2 it.1, it.2)] else .refused stBadValue (itemNo i)) 0
      ((List.range n).map (fun i => (m.u (8 + 8 * i) 4, m.u (12 + 8 * i) 4)))

/-- XP STAGE_ROW. -/
def Side.stageRowWords (sd : Side) (m : Msg) : Compiled :=
  let n := m.u 8 2
  if n = 0 ∨ 1013 < n ∨ 1024 ≤ m.u 4 2 ∨ sd.sums < m.u 6 2 + n then .refused stBadValue 0
  else .words ((List.range n).map (fun i => (gainViewAddr 2 (1024 * m.u 4 2 + m.u 6 2 + i), m.u (12 + 4 * i) 4)))

/-- A half's bits and slots fit its frame (R314), and FS_FORM is not 3 (Table AP-4). -/
def halfCfgOk (cfg frameBits : Nat) : Bool := decide (cfg / 8192 % 4 ≠ 3 ∧ slotCount cfg * widthBits cfg ≤ frameBits)

/-- PORT HALF_CFG (R314, R327): AP_CFG with MASTER and BRIDGE as they stand, and AP_MASK. -/
def Side.halfCfgWords (sd : Side) (m : Msg) : Compiled :=
  if 15 < m.u 4 1 ∨ 1 < m.u 5 1 then .refused stBadValue 0
  else
    let h := halfOf ⟨m.u 4 1 % 16, by omega⟩ (decide (m.u 5 1 = 1))
    let a := 0x0B030100 + 0x40 * h.val
    if halfCfgOk (m.u 8 4) (sd.timingShadow h % 4096) then .words [(a, sd.cfgWord a (m.u 8 4)), (a + 4, m.u 12 4)]
    else .refused stBadValue 0

/-- NET FLOW_TAKE (R348, R356): the fields marked Take. -/
def Side.flowTakeWords (sd : Side) (m : Msg) : Compiled :=
  let i := m.u 4 2
  if 255 < i ∨ 63 < m.u 8 1 ∨ 7 < m.u 9 1 ∨ 7 < m.u 10 1 ∨ (i < 128 ∧ sd.flowOMax i < m.u 12 2) then .refused stBadValue 0
  else
    .words [(flowShadow i, m.u 8 1 * 2 ^ 19), (flowShadow i + 4, m.u 12 2 * 2 ^ 16), (flowShadow i + 32, m.u 9 1 * 4096),
      (flowShadow i + 48, m.u 10 1 * 4096), (flowShadow i + 52, m.u 16 4), (flowShadow i + 56, m.u 20 4)]

/-- The writes of a message whose payload opens with TB (R411); none for another opcode. -/
def State.compile (s : State) (sd : SideId) (m : Msg) : Option Compiled :=
  match m.cls, m.op with
  | 3, 1 => some (s.objWords sd m)
  | 4, 1 => some ((s.side sd).stageWords m)
  | 4, 2 => some ((s.side sd).stageRowWords m)
  | 0x0A, 1 => some ((s.side sd).halfCfgWords m)
  | 0x0B, 3 => some ((s.side sd).flowTakeWords m)
  | _, _ => none

/-- The handler of those opcodes. -/
def boundOp : Handler := fun sd m s =>
  match s.compile sd m with
  | some c => s.bound sd m c
  | none => .refused stBadOpcode 0

/-! ### OBJ and XP -/

/-- OBJ DESCRIBE (Table IB-5). -/
def objDescribe : Handler := fun sd m s =>
  let h := m.u 0 8
  match s.handleOk sd m.sel h && mapped (hClass h), (s.side sd).param (hClass h) (hIndex h) (hAttr h % 65536) with
  | true, some p =>
    s.says (leBytes 1 p.1 ++ leBytes 1 p.2.1 ++ leBytes 2 p.2.2.1 ++ leBytes 2 p.2.2.2.1 ++ leBytes 2 0 ++ leBytes 4 p.2.2.2.2.1 ++
      leBytes 4 p.2.2.2.2.2)
  | _, _ => .refused stBadHandle 0

/-- OBJ CLEAR_HWM (R46). -/
def objClearHwm : Handler := fun sd m s =>
  let h := m.u 0 8
  if s.handleOk sd m.sel h && decide (hClass h = 0x00B) then s.okSide sd (fun x => x.set (F.SK_CYC_HWM (hIndex h)) 0)
  else .refused stBadHandle 0

/-- XP DESC (R173). -/
def xpDesc : Handler := fun sd m s =>
  let d := m.u 0 1
  let x := s.side sd
  if 7 < d ∨ 3 < m.u 1 1 then .refused stBadValue 0
  else if x.takeList.any (fun t => names t.mask 32 && decide (t.desc = d ∧ t.state < 3)) then .refused stBusy 0
  else
    s.okSide sd (fun x =>
      (List.range 32).foldl (fun (x : Side) w => x.set (F.XA_MASK (32 * d + w)) (m.u (4 + 4 * w) 4))
        ((x.set (F.XA_DESC_CURVE d) (m.u 1 1)).set (F.XA_DESC_LEN d) (m.u 2 2)))

/-- OBJ_WRITE (R411). -/
def execObjWrite (sd : SideId) (s : State) : Answer := s.answer (s.ibelle sd 3 1 boundOp)

/-- OBJ_DESCRIBE (R412). -/
def execObjDescribe (sd : SideId) (s : State) : Answer := s.answer (s.ibelle sd 3 2 objDescribe)

/-- OBJ_CLEAR_HWM (R46). -/
def execObjClearHwm (sd : SideId) (s : State) : Answer := s.answer (s.ibelle sd 3 3 objClearHwm)

/-- XP_STAGE (R135). -/
def execXpStage (sd : SideId) (s : State) : Answer := s.answer (s.ibelle sd 4 1 boundOp)

/-- XP_STAGE_ROW (R135). -/
def execXpStageRow (sd : SideId) (s : State) : Answer := s.answer (s.ibelle sd 4 2 boundOp)

/-- XP_DESC (R173). -/
def execXpDesc (sd : SideId) (s : State) : Answer := s.answer (s.ibelle sd 4 3 xpDesc)

/-! ### READ -/

/-- A word of the Side's memory space as the inspection aperture returns it (R36, R420). -/
def State.readWord (s : State) (sd : SideId) (a : Nat) : State × Nat :=
  let r := s.bridgeWord sd 3 a
  (r.1, if r.2.2 = 0 then r.2.1 else 0xFFFFFFFF)

/-- `n` words of the Side's memory space. -/
def State.readWords (s : State) (sd : SideId) (a : Nat) : Nat → State × List Byte
  | 0 => (s, [])
  | n + 1 =>
    let r := s.readWord sd a
    let q := r.1.readWords sd (a + 4) n
    (q.1, leBytes 4 r.2 ++ q.2)

/-- R420: the value a word of a shadow will take: the last held write of it, or the word that `now` gives. -/
def Side.pendingWord (sd : Side) (a now : Nat) : Nat :=
  match (sd.fw.held.filter (fun w => w.addr = a)).getLast? with
  | some w => w.value
  | none => now

/-- A word of a shadow copy as it will stand. -/
def State.readPending (s : State) (sd : SideId) (a : Nat) : State × Nat :=
  let r := s.readWord sd a
  (r.1, (s.side sd).pendingWord a r.2)

/-- The coefficient words of a parameter, active or pending. -/
def State.coefRead (s : State) (sd : SideId) (pending : Bool) : List (Nat × Nat × Nat) → State × List Nat
  | [] => (s, [])
  | p :: ps =>
    let a := shadowLane (p.1 % 32) (p.2.1 % 4096) (p.2.2 % 4)
    let r := if pending then s.readPending sd a else s.readWord sd (a + 0x10000)
    let q := r.1.coefRead sd pending ps
    (q.1, r.2 :: q.2)

/-- The word of GPIO `g` (Table IB-4). -/
def Side.gpioWord (sd : Side) (g : Nat) : Nat :=
  let b := fun f => (sd.bit f g).toNat
  let pair := fun f => sd.get f / 4 ^ g % 4
  b F.AP_GPIO_DIR + 2 * b F.AP_GPIO_OUT + 4 * (sd.gpioPads / 2 ^ g % 2) + 8 * pair F.AP_GPIO_SAFE + 32 * pair F.AP_GPIO_DG +
    128 * pair F.TM_CAP_GPIO

/-- One word as bytes. -/
def oneWord (r : State × Nat) : State × List Byte := (r.1, leBytes 4 r.2)

/-- The record of an object (Table IB-4). -/
def State.objectRecord (s : State) (sd : SideId) (cls i a : Nat) : State × List Byte :=
  let x := s.side sd
  let win := fun off n => s.readWords sd (0x0B000000 + off) n
  if mapped cls then
    let r := s.coefRead sd (a.testBit 16) (Config.coefPlaces x.objects cls i (a % 65536))
    (r.1, Config.paramRecord x.objects cls i (a % 65536) r.2)
  else
    match cls with
    | 0x003 =>
      if a = 2 then
        let r := s.readPending sd (gainViewAddr 2 i)
        oneWord (r.1, ofSigned 32 (toSigned 24 r.2))
      else oneWord (s.readWord sd (gainViewAddr a i))
    | 0x004 =>
      if a = 2 then s.readWords sd (0x0A030000 + 8 * i) 2
      else oneWord (if a = 1 then s.readPending sd (patchAddr 1 i) else s.readWord sd (patchAddr 0 i))
    | 0x005 => s.readWords sd (if a = 0 then meterRec i else meterParam i) 8
    | 0x006 => if i < 32 then win (0x30100 + 0x40 * i) 16 else if i = 32 then win 0x30900 3 else win 0x30910 1
    | 0x007 => s.readWords sd (if a = 0 then flowBase i else flowShadow i) 24
    | 0x008 => (s, (List.range 4).flatMap (fun w => leBytes 4 (x.shemas.word i w)))
    | 0x009 =>
      if a / 65536 = 0 then win (0x71000 + 0x20 * i) 8
      else if a / 65536 = 1 then s.readWords sd (cueBase i) 64
      else s.readWords sd (cueBase i + 0x100 + 4 * (a % 65536)) (min 1000 (x.get (F.TK_CUE_SIZE i) / 4 - a % 65536))
    | 0x00A => win (0x20100 + 0x20 * i) 8
    | 0x00B => if a = 0 then win (0x100000 + 0x10000 * i) 32 else win (0x100000 + 0x10000 * i + 0x100 * a) 64
    | 0x00C => win (0xC0100 + 0x10 * i) 4
    | 0x00D => win (0xB0100 + 0x40 * i) 16
    | 0x00F => (s, leBytes 4 (x.gpioWord i))
    | _ => win (4 * i) 1

/-- READ OBJECT (R420). -/
def readObject : Handler := fun sd m s =>
  let h := m.u 0 8
  if s.handleOk sd m.sel h then
    let r := s.objectRecord sd (hClass h) (hIndex h) (hAttr h)
    r.1.says (leBytes 8 (s.side sd).row ++ r.2)
  else .refused stBadHandle 0

/-- READ RANGE (R420): of the Side's memory space, or with SEL 3 of the host region. -/
def readRange : Handler := fun sd m s =>
  let a := m.u 0 4
  let n := m.u 4 4
  let top := if m.sel = 3 then 0x100000 else 2 ^ 32
  if n < 4 ∨ 65536 < n ∨ n % 4 ≠ 0 ∨ a % 4 ≠ 0 ∨ top < a + n then .refused stBadValue 0
  else
    let r := if m.sel = 3 then (s, (List.range (n / 4)).flatMap (fun i => leBytes 4 (s.hostWord (a + 4 * i))))
      else s.readWords sd a (n / 4)
    r.1.says (leBytes 8 (s.side sd).row ++ r.2)

/-- The indices of a class in use, ascending (Table IB-5, READ LIST). -/
def Side.usedIndices (sd : Side) (cls : Nat) : List Nat :=
  if mapped cls then (if sd.fw.pattern.isSome then Config.objectIndices sd.objects cls else [])
  else
    match cls with
    | 0x003 => (List.range 1024).flatMap (fun f => if sd.feedUsed f then ((List.range 1024).filter sd.sumUsed).map (fun c => 1024 * f + c) else [])
    | 0x004 => (List.range 16384).filter (sd.objectUsed 0x004)
    | 0x005 => (List.range 4096).filter (sd.objectUsed 0x005)
    | 0x010 => (List.range 0x100000).filter (fun i => !(fieldsAt (4 * i)).isEmpty)
    | c => (List.range 256).filter (sd.objectUsed c)

/-- READ LIST. -/
def readList : Handler := fun sd m s =>
  let cls := m.u 0 2
  if cls = 0 ∨ 0x010 < cls then .refused stBadValue 0
  else
    let l := ((s.side sd).usedIndices cls).filter (fun i => decide (m.u 4 4 ≤ i))
    let now := l.take 1014
    s.says (leBytes 4 now.length ++ leBytes 4 ((l.drop 1014).headD 0xFFFFFFFF) ++ now.flatMap (leBytes 4))

/-- READ_OBJECT (R420). -/
def execReadObject (sd : SideId) (s : State) : Answer := s.answer (s.ibelle sd 0x10 1 readObject)

/-- READ_RANGE (R420). -/
def execReadRange (sd : SideId) (s : State) : Answer := s.answer (s.ibelle sd 0x10 2 readRange)

/-- READ_LIST (R412). -/
def execReadList (sd : SideId) (s : State) : Answer := s.answer (s.ibelle sd 0x10 3 readList)

end Sys2Proof.Machine
end

