-- ==== Sys2Proof/Machine/CueOps.lean ====
section
/-!
DEFINITION. The TAKE and CUE classes (R172 to R178, R185 to R191, R196, R197, R497).
-/
namespace Sys2Proof.Machine

open Sys2Proof

/-! ### TAKE -/

/-- The refusal, or the number and the row, of a post. -/
def posted (r : Side × Posted) (s : State) (sd : SideId) : Carried :=
  match r.2 with
  | .accepted num row => (s.setSide sd r.1).says (leBytes 4 num ++ leBytes 8 (row.getD 0))
  | .badValue => .refused stBadValue 0
  | .queueFull => .refused stQueueFull 0
  | .rowBusy => .refused stRowBusy 0
  | .tooLate => .refused stTooLate 0

/-- TAKE POST (R172, R173, R175 to R177, R185, R187). -/
def takePost : Handler := fun sd m s =>
  let x := s.side sd
  let mask := m.u 8 8
  if !x.maskOk mask || (names mask 32 && decide (7 < m.u 16 1)) then .refused stBadValue 0
  else if m.u 0 8 = 0 then posted (x.postFloated mask (m.u 16 1) none) s sd
  else posted (x.postExplicit (m.u 0 8) mask (m.u 16 1) none) s sd

/-- TAKE CANCEL (R178, R196). -/
def takeCancel : Handler := fun sd m s =>
  match (s.side sd).cancelTake (m.u 0 4) with
  | (x, .done) => ((s.setSide sd x).releaseHeld sd).ok
  | (_, .tooLate) => .refused stTooLate 0
  | (_, .badValue) => .refused stBadValue 0

/-- TAKE_POST (R175). -/
def execTakePost (sd : SideId) (s : State) : Answer := s.answer (s.ibelle sd 5 1 takePost)

/-- TAKE_CANCEL (R178). -/
def execTakeCancel (sd : SideId) (s : State) : Answer := s.answer (s.ibelle sd 5 2 takeCancel)

/-! ### Cue slots -/

/-- A slot's state. -/
def Side.cueState (sd : Side) (n : Nat) : Nat := sd.get (F.TK_CUE_STATE n)

/-- An operation on a slot, which must exist. -/
def onSlot (f : Nat → Handler) : Handler := fun sd m s => if 127 < m.u 0 1 then .refused stBadValue 0 else f (m.u 0 1) sd m s

/-- R188, R497: an operation that changes a slot, which must be neither ARMED nor FIRING. -/
def changeSlot (f : Nat → Handler) : Handler :=
  onSlot (fun n sd m s => if (s.side sd).cueState n = 2 ∨ (s.side sd).cueState n = 3 then .refused stBusy 0 else f n sd m s)

/-- The record bytes of a slot without its end record. -/
def Side.cueSize (sd : Side) (n : Nat) : Nat :=
  sd.get (F.TK_CUE_SIZE n) - (if sd.cueState n = 1 ∨ sd.cueState n = 4 then 4 else 0)

/-- CUE BEGIN (R188, R172, R357). -/
def cueBegin : Nat → Handler := fun n sd m s =>
  let w0 := m.u 4 4
  let mask := m.u 8 4 + 2 ^ 32 * m.u 12 1
  let w6 := m.u 16 4
  let pkts := w6 / 2 ^ 18 % 8
  if 3 < w0 / 8 % 8 ∨ 4 < pkts then .refused stBadValue 0
  else if (List.range pkts).any (fun p => decide (255 < m.u (148 + 16 * p) 4 % 65536)) then .refused stBadTarget 0
  else if !(s.side sd).maskOk mask then .refused stBadValue 0
  else if !(s.side sd).banksOn [47] then .refused stBusy 0
  else
    s.okSide sd (fun x =>
      let x := ((x.zeroRange (cueBase n) 65536).putBytes (cueBase n) (fitTo 192 0 (m.payload.drop 20)))
      let x := [(F.TK_CUE_TRIG n, w0 / 8), (F.TK_CUE_AUTO_REARM n, w0 / 64), (F.TK_CUE_LATE_POLICY n, w0 / 128), (F.TK_CUE_GPIO n, w0 / 256),
        (F.TK_CUE_EDGE n, w0 / 4096), (F.TK_CUE_BCAST n, w0 / 2 ^ 14), (F.TK_CUE_BID n, w0 / 65536), (F.TK_CUE_MASK_LO n, mask),
        (F.TK_CUE_MASK_HI n, mask / 2 ^ 32), (F.TK_CUE_LEN n, w6), (F.TK_CUE_CURVE n, w6 / 65536), (F.TK_CUE_PKTS n, pkts)].foldl
        (fun (x : Side) p => x.set p.1 (p.2 % 2 ^ p.1.len)) x
      [F.TK_CUE_FIRES n, F.TK_CUE_LAST_NUM n, F.TK_CUE_SIZE n, F.TK_CUE_STATE n].foldl (fun (x : Side) f => x.set f 0) x)

/-- The runs of consecutive words in a list of writes, as records (Table TK-6). -/
def runsOf : List (Nat × Nat) → List (Nat × List Nat)
  | [] => []
  | (a, w) :: rest =>
    match runsOf rest with
    | (b, ws) :: more => if b = a + 4 ∧ ws.length < 4096 then (a, w :: ws) :: more else (a, [w]) :: (b, ws) :: more
    | [] => [(a, [w])]

/-- A record's bytes. -/
def recordBytes (r : Nat × List Nat) : List Byte :=
  leBytes 4 (2 ^ 28 + (r.2.length - 1) * 65536) ++ leBytes 4 r.1 ++ r.2.flatMap (leBytes 4)

/-- R189: whether every write of a record addresses a shadow copy of a unit in a mask. -/
def recordOk (mask : Nat) (r : Nat × List Nat) : Bool :=
  (List.range r.2.length).all (fun i => (unitOf (r.1 + 4 * i)).any (names mask))

/-- CUE ADD (R188, R189). -/
def cueAdd : Nat → Handler := fun n sd m s =>
  let x := s.side sd
  match s.compile sd m.carried with
  | none => .refused stBadValue 0
  | some (.refused c d) => .refused c d
  | some (.words l) =>
    let rs := runsOf l
    let bytes := rs.flatMap recordBytes
    let old := x.cueSize n
    if !rs.all (recordOk (x.cueMask n)) then .refused stBadTarget 0
    else if 65280 < old + bytes.length + 4 then .refused stBadValue 0
    else if !x.banksOn [47] then .refused stBusy 0
    else
      s.okSide sd (fun x => ((x.putBytes (cueBase n + 0x100 + old) bytes).set (F.TK_CUE_SIZE n) (old + bytes.length)).set
        (F.TK_CUE_STATE n) 0)

/-- CUE END (R189). -/
def cueEnd : Nat → Handler := fun n sd _ s =>
  let x := s.side sd
  let old := x.cueSize n
  let y := x.putBytes (cueBase n + 0x100 + old) (leBytes 4 0xF0000000)
  if !(y.slotRecords n).all (recordOk (x.cueMask n)) then .refused stBadTarget 0
  else if !x.banksOn [47] then .refused stBusy 0
  else (s.setSide sd ((y.set (F.TK_CUE_SIZE n) (old + 4)).set (F.TK_CUE_STATE n) 1)).says (leBytes 4 (old + 4))

/-- R190: whether another armed row Cue or a queued Take names the Cross array at a row. -/
def Side.crossTaken (sd : Side) (n e : Nat) : Bool :=
  sd.crossAt e || (List.range 128).any (fun k =>
    decide (k ≠ n ∧ sd.cueState k = 2 ∧ sd.get (F.TK_CUE_TRIG k) = 1 ∧ sd.cueRow k = e) && names (sd.cueMask k) 32)

/-- R190: slot `n` is armed for row `e`. -/
def Side.armRow (sd : Side) (n e : Nat) : Side :=
  let sd := sd.cueAt (some n) (some e)
  { sd with takes := { sd.takes with arms := Sparse.set (fun _ => 0) sd.takes.arms n e } }

/-- CUE ARM (R190, R172, R497). -/
def cueArm : Nat → Handler := fun n sd m s =>
  let x := s.side sd
  let e := m.u 4 8
  let row := decide (x.get (F.TK_CUE_TRIG n) = 1)
  if x.cueState n = 0 then .refused stBadValue 0
  else if !x.maskOk (x.cueMask n) then .refused stBadValue 0
  else if row && (!x.flag F.TM_STAT_TIME_VALID || decide (e < x.row + 4)) then .refused stTooLate 0
  else if row && names (x.cueMask n) 32 && x.crossTaken n e then .refused stRowBusy 0
  else
    s.okSide sd (fun x => (if row then x.armRow n e else x).set (F.TK_CUE_STATE n) 2)

/-- CUE DISARM (R497). -/
def cueDisarm : Nat → Handler := fun n sd _ s =>
  if (s.side sd).cueState n = 2 then s.okSide sd (fun x => x.set (F.TK_CUE_STATE n) 1)
  else .refused (if (s.side sd).cueState n = 3 then stBusy else stBadValue) 0

/-- CUE FIRE (R190, R191, R172, R497). While its Take waits for an entry it has no number yet: a value the spec leaves open. -/
def cueFire : Nat → Handler := fun n sd _ s =>
  let x := s.side sd
  if x.cueState n = 3 then .refused stBusy 0
  else if x.cueState n = 0 ∨ x.cueState n = 4 then .refused stBadValue 0
  else if !x.maskOk (x.cueMask n) then .refused stBadValue 0
  else
    let t := s.onSide sd (fun x => x.fireOwn n .floated)
    let y := t.side sd
    if y.takes.slips.any (fun r => r.slot = n) then t.freeWord.2.says (leBytes 4 t.freeWord.1.toNat)
    else t.says (leBytes 4 (y.get (F.TK_CUE_LAST_NUM n)))

/-- CUE ABORT (R196, R497). -/
def cueAbort : Nat → Handler := fun n sd _ s =>
  let x := s.side sd
  if x.cueState n ≠ 3 then .refused stBadValue 0
  else
    match x.takeList.find? (fun t => t.cue = some n) with
    | some t =>
      match x.cancelTake t.num with
      | (y, .done) => ((s.setSide sd y).releaseHeld sd).ok
      | (_, _) => .refused stTooLate 0
    | none =>
      s.okSide sd (fun x =>
        ({ x with takes := { x.takes with slips := x.takes.slips.filter (fun r => r.slot ≠ n) } } : Side).cueBack n 2)

/-- CUE CLEAR (R497). -/
def cueClear : Nat → Handler := fun n sd _ s => s.okSide sd (fun x => (x.set (F.TK_CUE_SIZE n) 0).set (F.TK_CUE_STATE n) 0)

/-- CUE MARGIN (R197). -/
def cueMargin : Handler := fun sd m s => s.okSide sd (fun x => x.set F.TK_BCAST_MARGIN (m.u 0 1))

/-- CUE_BEGIN (R188). -/
def execCueBegin (sd : SideId) (s : State) : Answer := s.answer (s.ibelle sd 6 1 (changeSlot cueBegin))

/-- CUE_ADD (R188). -/
def execCueAdd (sd : SideId) (s : State) : Answer := s.answer (s.ibelle sd 6 2 (changeSlot cueAdd))

/-- CUE_END (R189). -/
def execCueEnd (sd : SideId) (s : State) : Answer := s.answer (s.ibelle sd 6 3 (changeSlot cueEnd))

/-- CUE_ARM (R190). -/
def execCueArm (sd : SideId) (s : State) : Answer := s.answer (s.ibelle sd 6 4 (changeSlot cueArm))

/-- CUE_DISARM (R497). -/
def execCueDisarm (sd : SideId) (s : State) : Answer := s.answer (s.ibelle sd 6 5 (onSlot cueDisarm))

/-- CUE_FIRE (R191). -/
def execCueFire (sd : SideId) (s : State) : Answer := s.answer (s.ibelle sd 6 6 (onSlot cueFire))

/-- CUE_ABORT (R196). -/
def execCueAbort (sd : SideId) (s : State) : Answer := s.answer (s.ibelle sd 6 7 (onSlot cueAbort))

/-- CUE_CLEAR (R497). -/
def execCueClear (sd : SideId) (s : State) : Answer := s.answer (s.ibelle sd 6 8 (changeSlot cueClear))

/-- CUE_MARGIN (R197). -/
def execCueMargin (sd : SideId) (s : State) : Answer := s.answer (s.ibelle sd 6 9 cueMargin)

end Sys2Proof.Machine
end

