-- ==== Sys2Proof/Machine/Images.lean ====
section
/-!
DEFINITION. Images: their checks (R43 to R45, R58, R475), the loading of a Pattern (R23, R42, R59, R99, R150, R171, R278, R472), the PAT
class (R412), and the boot of a Side from its flash (R470 to R472).
-/
namespace Sys2Proof.Machine

open Sys2Proof

/-! ### Signatures (Table PW-7) -/

/-- A field of an image. -/
def imgU (b : List Byte) (off n : Nat) : Nat := leVal ((b.drop off).take n)

/-- A key hash as the fuses and PW_HASH hold it: eight words, word 0 first, each most significant byte first (log entry 49). -/
def keyHash (digest : List Byte) : Nat :=
  ((List.range 8).map (fun i => beVal ((digest.drop (4 * i)).take 4) * 2 ^ (32 * i))).sum

/-- Whether an image of `len` bytes carries a good entry of a role whose key hash satisfies `p`. -/
def signedBy (b : List Byte) (len role : Nat) (p : List Byte → Bool) : Bool :=
  let t := b.drop len
  let n := imgU t 4 1
  decide (imgU t 0 4 = 0x46595347 ∧ (n = 1 ∨ n = 2) ∧ len + 8 + 132 * n ≤ b.length) &&
    (List.range n).any (fun e =>
      let pub := (t.drop (12 + 132 * e)).take 64
      decide (imgU t (8 + 132 * e) 1 = role) && p (sha256 pub) &&
        Config.ecdsaGood pub (sha256 (b.take len)) ((t.drop (76 + 132 * e)).take 64))

/-- R475: whether a Pattern image's signature meets the Side's life cycle. -/
def Side.patternSigned (sd : Side) (b : List Byte) : Bool :=
  let good := signedBy b (imgU b 0x18 4) 1 (fun d => decide (keyHash d = sd.fuses.hashPat))
  if sd.fuses.lc = 3 then false
  else if sd.fuses.lc = 2 then good
  else decide (sd.fuses.hashPat = 0) || good

/-- R475: the result of a firmware image's checks (FW_RESULT of Table PW-11): 0 good, 2 malformed, 3 signature, 4 too large. -/
def Side.firmwareResult (sd : Side) (b : List Byte) : Nat :=
  let len := imgU b 0x18 4
  if imgU b 0 4 ≠ 0x46594657 ∨ imgU b 4 2 ≠ 2 ∨ b.length < len then 2
  else if sd.fuses.lc = 3 ∨ !signedBy b len 0 (fun d => decide (d = Config.knasalHash)) ∨
      (sd.fuses.lc = 2 ∧ !signedBy b len 1 (fun d => decide (keyHash d = sd.fuses.hashFw))) then 3
  else if Config.fwTooLarge b then 4
  else 0

/-! ### Pattern images (Tables PL-3 to PL-5) -/

/-- The sections of an image of `len` bytes from an offset: type and body of `n` of them, and whether all are good; they end before a header
that is malformed or a section that overruns the image. -/
def sectionsAt (b : List Byte) (len : Nat) : Nat → Nat → List (Nat × List Byte) × Bool
  | 0, _ => ([], true)
  | n + 1, off =>
    let ty := imgU b off 2
    let size := imgU b (off + 4) 4
    if len < off + 8 + size ∨ imgU b (off + 2) 2 ≠ 0 ∨ (ty < 0x8000 ∧ (ty = 0 ∨ 10 < ty)) then ([], false)
    else
      let r := sectionsAt b len n (off + 8 + size)
      ((ty, (b.drop (off + 8)).take size) :: r.1, r.2)

/-- The sections of a Pattern image, and whether all are good. One that is longer than what was brought overruns it. -/
def imageSections (b : List Byte) : List (Nat × List Byte) × Bool :=
  sectionsAt b (min b.length (imgU b 0x18 4)) (imgU b 0x1C 2) 64

/-- The bodies of the sections of a type. -/
def bodies (l : List (Nat × List Byte)) (ty : Nat) : List (List Byte) := (l.filter (fun s => s.1 = ty)).map Prod.snd

/-- The cycle budget B (Table PL-1). -/
def rowBudget (rate : Nat) : Nat := [24489, 22500, 12244, 11250, 6121, 5625].getD rate 0

/-- R6: whether the counts of a header lie within the capacities of the row rate. -/
def countsFit (b : List Byte) : Bool :=
  let k := if imgU b 6 1 ≤ 3 then 1 else 2
  decide (imgU b 0x24 2 ≤ 1024 / k ∧ imgU b 0x26 2 ≤ 256 / k ∧ imgU b 0x28 2 ≤ 1024 / k ∧ imgU b 0x2A 2 ≤ 4096 ∧
    imgU b 0x2C 1 ≤ 128 / k ∧ imgU b 0x2D 1 ≤ 32 / k)

/-- R45: whether the worst-case counts lie within the budget and MAX_W is the largest of them. Without a section of counts, whose lack is
check 8, MAX_W alone is judged. -/
def budgetFits (b : List Byte) (secs : List (Nat × List Byte)) : Bool :=
  let maxW := imgU b 0x1E 2
  let lim := rowBudget (imgU b 6 1)
  decide (maxW ≤ lim) &&
    match (bodies secs 4).head? with
    | some w =>
      let ws := (List.range 32).map (fun k => imgU w (2 * k) 2)
      decide (ws.foldl max 0 = maxW) && ws.all (fun x => decide (x ≤ lim))
    | none => true

/-- Table PL-9: the least age of an origin; of a code outside the table, that of its neighbours (log entry 144). -/
def leastAge (origin : Nat) : Nat := if origin ≤ 5 then 2 else if origin = 6 then 3 else if origin = 7 then 4 else 5

/-- R58: whether a latency section is whole and every age in it at least the least of its origin. The spec does not say what becomes of one
of another length: the model refuses it with the check's code (log entry 144). -/
def latencyFits (l : List Byte) : Bool :=
  decide (l.length = 8 + 65536) &&
    (List.range 16384).all (fun n =>
      let e := imgU l (8 + 4 * n) 4
      !e.testBit 31 || decide (leastAge (e / 2 ^ 24 % 16) ≤ e % 65536))

/-- R44: the first check of Table PL-5 that an image fails. An image shorter than its header fails check 1, and the latency section is the
first one of type 0x000A whatever LAT_OFFSET says: the spec says neither (log entry 144). -/
def Side.imageCheck (sd : Side) (b : List Byte) : Option Nat :=
  let secs := imageSections b
  let rate := imgU b 6 1
  let flags := imgU b 7 1
  if b.length < 64 ∨ imgU b 0 4 ≠ 0x46595054 ∨ imgU b 4 2 ≠ 2 then some 1
  else if !sd.patternSigned b then some 2
  else if 5 < rate then some 3
  else if !countsFit b then some 4
  else if !budgetFits b secs.1 then some 5
  else if Config.planBad secs.1 then some 6
  else if flags % 2 = 1 ∧ rate ≠ 1 ∧ rate ≠ 3 ∧ flags / 2 % 2 = 0 then some 7
  else if !secs.2 || Config.sectionMissing ((secs.1.map Prod.fst).filter (fun t => t ≠ 10)) then some 8
  else
    match bodies secs.1 10 with
    | [] => some 9
    | t :: _ => if latencyFits t then none else some 9

/-! ### Loading a Pattern -/

/-- Changes firmware's own state. -/
def Side.onFw (sd : Side) (f : Firmware → Firmware) : Side := { sd with fw := f sd.fw }

/-- The banks that a Pattern uses (R445). -/
def patternBanks (b : List Byte) (l : List (Nat × List Byte)) : List Nat :=
  let mask := imgU b 0x20 4
  ((List.range 32).filter mask.testBit).map (fun k => 12 + k) ++ (if imgU b 0x28 2 = 0 then [] else [44, 45, 46]) ++ [50] ++
    ((bodies l 7).flatMap Config.bankOwners).map (fun p => p.1 % 12)

/-- Opens or closes an island's gate as firmware does. -/
def Side.useGate (sd : Side) (k : Nat) (used : Bool) : Side :=
  if used then sd.openGate k
  else if sd.gateOpen k then (sd.setGateBit F.CK_GATE_REQ_LO F.CK_GATE_REQ_HI_A F.CK_GATE_REQ_HI_B k true).closeGate k 0
  else sd

/-- Whether the loaded Pattern uses an island (R23; log entry 54): a core of CORE_MASK; the Cross array with sums; the Gauge island
with destinations or meter points; another when a source point in use or a destination lies in it, or for the port island with PDM
inputs or bridges. -/
def Side.usesIsland (sd : Side) (h : List Byte) (k : Nat) : Bool :=
  let lies := fun (units : List Nat) (kind : Nat) =>
    sd.usedDests.any (fun d => decide ((sd.destDesc d).1 % 16 = kind)) ||
      (List.range 16384).any (fun n => sd.sourceUsed n && units.contains (sd.location n % 64))
  if k < 32 then (imgU h 0x20 4).testBit k
  else if k = 32 then decide (imgU h 0x28 2 ≠ 0)
  else if k = 33 then !sd.usedDests.isEmpty || decide (imgU h 0x2A 2 ≠ 0)
  else if k = 37 then lies [35] 3 || decide (imgU h 0x2C 1 ≠ 0 ∨ imgU h 7 1 % 4 ≠ 0)
  else if k = 38 then lies [37] 4
  else lies [39] 5

/-- R171: every Active selection is SILENT before section 0x0005 is applied. -/
def Side.silenceAll (sd : Side) : Side :=
  (List.range 16384).foldl (fun (x : Side) d => x.putWord (selBase x.active + 4 * d) 0x00008000#32) sd

/-- R171: Active is copied into Shadow. -/
def Side.copySelections (sd : Side) : Side :=
  (List.range 16384).foldl (fun (x : Side) d => x.putWord (selBase (1 - x.active) + 4 * d) (x.rtWord (selBase x.active + 4 * d))) sd

/-- The words of the sections of a type go into place (Table PL-4). -/
def State.putSections (s : State) (sd : SideId) (l : List (Nat × List Byte)) (ty : Nat) : State :=
  ((bodies l ty).flatMap (Config.sectionWrites ty)).foldl (fun s w => s.putSpace sd 1 w.1 (w.2.flatMap (leBytes 4))) s

/-- R42, R86: the entries and the regions of core `k` as the Pattern sets them; the regions start with page 0 and nothing announced. -/
def Side.layCore (l : List (Nat × List Byte)) (sd : Side) (k : Nat) : Side :=
  let c := Config.coreLayout l k
  (List.range 8).foldl (fun (x : Side) n =>
    [(F.SK_REG_BASE k n, c (2 + 3 * n)), (F.SK_REG_LEN k n, c (3 + 3 * n)), (F.SK_REG_KIND k n, c (4 + 3 * n)), (F.SK_REG_PAGE k n, 0),
      (F.SK_REG_READY k n, 0), (F.SK_REG_HELD k n, 0), (F.SK_REG_IDLE k n, 0), (F.SK_REG_ROW k n, 0)].foldl
      (fun (x : Side) (p : Fld × Nat) => x.set p.1 p.2) x) ((sd.set (F.SK_ENTRY k) (c 0)).set (F.SK_INIT k) (c 1))

/-- What the Pattern fixes beside the words of its sections: the regions and entries of its cores, delivery of sums, owners of the long-memory banks, meter points. -/
def Side.takePlan (sd : Side) (mask : Nat) (l : List (Nat × List Byte)) : Side :=
  let owners := ((bodies l 7).flatMap Config.bankOwners).foldl (fun m p => Sparse.set (fun _ => 0) m (p.1 % 12) p.2) []
  let points := (bodies l 8).flatMap Config.gaugePlan
  let sd := points.foldl (fun (x : Side) p => x.putWord (meterParam (p.1 % 4096)) (BitVec.ofNat 32 (p.2 % 32768))) sd
  let sd := (((List.range 32).filter mask.testBit)).foldl (Side.layCore l) sd
  { sd with
    bankOwner := owners
    cross := { sd.cross with deliver := (bodies l 6).flatMap Config.crossMap }
    gauge := { sd.gauge with used := points.map (fun p => p.1 % 4096), meters := [] } }

/-- R42, R99, R150, R171, R278: an accepted Pattern is loaded with every unit's RUN at 0. -/
def State.loadPattern (s : State) (sd : SideId) (b : List Byte) (l : List (Nat × List Byte)) : State :=
  let h := b.take 64
  let s := s.onSide sd (fun x =>
    let x := (x.stopUnits).set F.PB_CTRL_RUN 0
    let x := (List.range 34).foldl (fun (x : Side) k => if k = 32 ∨ k = 33 ∨ (imgU h 0x20 4).testBit k then x.openGate k else x) x
    x.silenceAll)
  let s := s.letGo sd
  let s := [1, 2, 3, 5, 6, 7, 8, 9].foldl (fun s ty => s.putSections sd l ty) s
  let s := s.onSide sd (fun x =>
    let x := (x.copySelections).takePlan (imgU h 0x20 4) l
    let x := x.onFw (fun f =>
      { f with pattern := some { header := h, latency := (bodies l 10).headD [], objects := (bodies l 9).headD [] } })
    let x := ((List.range 34) ++ [37, 38, 39]).foldl (fun (x : Side) k => x.useGate k (x.usesIsland h k)) x
    let x := (x.changeRate (imgU h 6 1)).set F.PW_BOOT_STAGE 5
    if x.mode = .castOn then x.onFw (fun f => { f with readyDue := true })
    else if x.mode = .rework then x.startUnits
    else x)
  s.letGo sd

/-- R44: a Pattern image is checked and loaded, or refused. A refused one changes nothing; in Cast-on no Pattern stays. -/
def State.offerPattern (s : State) (sd : SideId) (b : List Byte) : Carried :=
  let x := s.side sd
  let l := (imageSections b).1
  match x.imageCheck b with
  | some c => .refused stLoadRefused c
  | none => if x.banksOn (patternBanks b l) then (s.loadPattern sd b l).says ((b.drop 8).take 8) else .refused stBusy 0

/-- R475: a firmware image is checked and started, or refused. -/
def State.offerFirmware (s : State) (sd : SideId) (b : List Byte) : Carried :=
  let p := s.patternId sd
  if (s.side sd).firmwareResult b ≠ 0 then .refused stLoadRefused 2
  else
    (p.2.onSide sd (fun x =>
      let x := x.onFw (fun f => { f with build := Config.fwBuild b })
      if 4 ≤ x.get F.PW_BOOT_STAGE then x else (x.set F.PW_BOOT_STAGE 4).set F.PW_BOOT_FW_RESULT 0)).says (leBytes 8 p.1)

/-! ### PAT -/

/-- Table PW-4: PAT BEGIN takes a Side in Ready to Cast-on, where it has no Pattern until one is accepted (R44). -/
def Side.toCastOn (sd : Side) (me : SideId) : Side :=
  if sd.mode = .ready then ((sd.enterMode me .castOn).stopRow).onFw (fun f => { f with pattern := none, readyDue := false }) else sd

/-- PAT BEGIN; `flash` is what the boot flash holds from FLASH_ADDR. -/
def patBegin (flash : List Byte) : Handler := fun sd m s =>
  let len := m.u 4 4
  if 1 < m.u 0 1 ∨ 1 < m.u 1 1 ∨ len = 0 then .refused stBadValue 0
  else
    s.okSide sd (fun x => (x.toCastOn sd).onFw (fun f =>
      { f with
        image := some
          { kind := m.u 0 1, src := m.u 1 1, len := len, flashAddr := m.u 8 4
            data := if m.u 1 1 = 1 then (fitTo len 0 flash).zipIdx.map (fun p => (p.2, some p.1)) else [] } }))

/-- PAT DATA: bytes of an inline image. -/
def patData : Handler := fun sd m s =>
  match (s.side sd).fw.image with
  | some i =>
    let off := m.u 0 4
    let new := m.payload.drop 4
    if i.len < off + new.length then .refused stBadValue 0
    else
      s.okSide sd (fun x => x.onFw (fun f =>
        { f with
          image := some { i with data := new.zipIdx.foldl (fun d p => Sparse.set (fun _ => none) d (off + p.2) (some p.1)) i.data } }))
  | none => .refused stBadValue 0

/-- The image as it has been brought. -/
def ImageLoad.bytes (i : ImageLoad) : List Byte :=
  (List.range i.len).map (fun k => (Sparse.get (fun _ => none) i.data k).getD (Config.unsentByte k))

/-- The load of an accepted image is over; a refused one changes nothing (R44), its load included (log entry 50). -/
def State.endLoad (s : State) (sd : SideId) : State := s.onSide sd (fun x => x.onFw (fun f => { f with image := none }))

/-- PAT END. -/
def patEnd : Handler := fun sd _ s =>
  match (s.side sd).fw.image with
  | some i => if i.kind = 1 then (s.endLoad sd).offerFirmware sd i.bytes else (s.endLoad sd).offerPattern sd i.bytes
  | none => .refused stBadValue 0

/-- PAT INFO. -/
def patInfo : Handler := fun sd _ s =>
  match (s.side sd).fw.pattern with
  | some p => s.says (fitTo 64 0 p.header)
  | none => .refused stBadValue 0

/-- PAT LATENCY (R59). -/
def patLatency : Handler := fun sd m s =>
  let first := m.u 0 2
  match (s.side sd).fw.pattern with
  | some p =>
    if first % 1024 ≠ 0 ∨ 16384 ≤ first then .refused stBadValue 0
    else s.says (fitTo 8 0 p.latency ++ fitTo 4096 0 (p.latency.drop (8 + 4 * first)))
  | none => .refused stBadValue 0

/-- PAT_BEGIN (R469). -/
def execPatBegin (sd : SideId) (flash : List Byte) (s : State) : Answer := s.answer (s.ibelle sd 2 1 (patBegin flash))

/-- PAT_DATA (R43). -/
def execPatData (sd : SideId) (s : State) : Answer := s.answer (s.ibelle sd 2 2 patData)

/-- PAT_END (R44). -/
def execPatEnd (sd : SideId) (s : State) : Answer := s.answer (s.ibelle sd 2 3 patEnd)

/-- PAT_INFO (R412). -/
def execPatInfo (sd : SideId) (s : State) : Answer := s.answer (s.ibelle sd 2 4 patInfo)

/-- PAT_LATENCY (R59). -/
def execPatLatency (sd : SideId) (s : State) : Answer := s.answer (s.ibelle sd 2 5 patLatency)

/-! ### Boot -/

/-- R470: the secure bank and the public key on entry to Cast-on. In Retired they read as zero; a Side whose TAMPERED is set does not
load. -/
def Side.loadSecure (sd : Side) : Side :=
  if sd.flag F.MM_SEC_STAT_TAMPERED then sd
  else if sd.fuses.lc = 3 then (sd.zeroRange secureBase 96)
  else
    let sd := sd.putBytes secureBase (leBytes 32 sd.fuses.hashFw ++ leBytes 32 sd.fuses.hashPat ++ leBytes 32 Config.identityKey)
    let sd := (List.range 16).foldl (fun (x : Side) i =>
      x.set (F.PW_IDKEY i) (Config.identityPublic / 2 ^ (32 * (15 - i)) % 2 ^ 32)) sd
    sd.set F.MM_SEC_STAT_LOADED 1

/-- R413, R470: the start of the boot code: the secure bank, CONS := PROD, the MODE event. -/
def State.bootEntry (s : State) (sd : SideId) : State :=
  let n := sd.num
  let s := s.onHost (fun h => h.set (consFld n false) (h.get (prodFld n false)))
  s.onSide sd (fun x =>
    ((x.loadSecure).raise 0x0001 n (leBytes 1 x.mode.code ++ leBytes 1 (x.get F.PW_MODE_PREV))).set F.PW_BOOT_STAGE 1)

/-- Whether a boot flash directory is good (Table PW-6). -/
def directoryGood (d : List Byte) : Bool := decide (imgU d 0 4 = 0x46594244 ∧ imgU d 0x3C 4 = crc32 (fitTo 60 0 d))

/-- R390: the Side claims the boot flash master; whether it owns it. -/
def State.claimFlash (s : State) (sd : SideId) : State × Bool :=
  if s.host.held then (s, false)
  else
    let t := s.onHost (fun h => h.writeOwner (flashCode sd) (flashCode sd))
    (t, decide (t.host.get F.HP_BF_OWN_OWNER = flashCode sd))

/-- R390: the Side releases it. -/
def State.releaseFlash (s : State) (sd : SideId) : State := s.onHost (fun h => h.writeOwner (flashCode sd) 0)

/-- R471: the boot code has read a directory. -/
def State.readDirectory (s : State) (sd : SideId) (d : List Byte) : State :=
  if directoryGood d then
    (s.onHost (fun h => h.set F.HP_BF_CFG_DIV (imgU d 5 1 % 16))).onSide sd (fun x =>
      (x.onFw (fun f => { f with boot := fitTo 64 0 d })).set F.PW_BOOT_STAGE 2)
  else
    (s.releaseFlash sd).onSide sd (fun x =>
      (x.set F.PW_BOOT_FLASH_ABSENT 1).set F.PW_BOOT_FW_RESULT (if imgU d 0 4 = 0x46594244 then 1 else 0))

/-- CAST_ON_ENTRY: the boot code starts and, once it owns the flash master, reads the directory `d`. While another owns the master it
waits: the command comes again when it reads. -/
def State.castOnEntry (s : State) (sd : SideId) (d : List Byte) : State :=
  if (s.side sd).mode ≠ .castOn ∨ 1 < (s.side sd).get F.PW_BOOT_STAGE ∨ (s.side sd).flag F.PW_BOOT_FLASH_ABSENT then s
  else
    let s := if (s.side sd).get F.PW_BOOT_STAGE = 0 then s.bootEntry sd else s
    let c := s.claimFlash sd
    if c.2 then c.1.readDirectory sd d else c.1

/-- FIRMWARE_IMAGE_READ_DONE: the boot code checks the image it has read (R471, R475). -/
def State.firmwareRead (s : State) (sd : SideId) (image : List Byte) : State :=
  let x := s.side sd
  if x.mode ≠ .castOn ∨ x.get F.PW_BOOT_STAGE ≠ 2 then s
  else
    let second := x.flag F.PW_BOOT_FW_COPY
    let b := image.take (imgU x.fw.boot (if second then 0x14 else 0x0C) 4)
    let r := x.firmwareResult b
    if r = 0 then
      (s.releaseFlash sd).onSide sd (fun x =>
        ((x.onFw (fun f => { f with build := Config.fwBuild b })).set F.PW_BOOT_FW_RESULT 0).set F.PW_BOOT_STAGE 4)
    else if second then
      (s.releaseFlash sd).onSide sd (fun x =>
        ((x.set F.PW_BOOT_FW_RESULT r).set F.PW_BOOT_FW_COPY 0).set F.PW_BOOT_STAGE 3)
    else s.onSide sd (fun x => x.set F.PW_BOOT_FW_COPY 1)

/-- BOOT_PATTERN_LOAD: firmware loads the boot Pattern that the directory names; without one it waits (R472). The master is claimed
for the image and released after it; while another owns it, firmware waits. -/
def State.bootPattern (s : State) (sd : SideId) (image : List Byte) : State :=
  let x := s.side sd
  let len := imgU x.fw.boot (0x1C + 8 * sd.num) 4
  if x.mode ≠ .castOn ∨ x.get F.PW_BOOT_STAGE ≠ 4 ∨ x.fw.pattern.isSome ∨ x.fw.image.isSome ∨ len = 0 then s
  else
    let c := s.claimFlash sd
    if c.2 then
      match (c.1.releaseFlash sd).offerPattern sd (fitTo len 0 image) with
      | .done t _ _ => t
      | _ => c.1.releaseFlash sd
    else s

/-- CAST_ON_ENTRY (R471). -/
def execCastOnEntry (sd : SideId) (directory : List Byte) (s : State) : Answer := s.answer (s.castOnEntry sd directory)

/-- FIRMWARE_IMAGE_READ_DONE (R471). -/
def execFirmwareImageReadDone (sd : SideId) (image : List Byte) (s : State) : Answer := s.answer (s.firmwareRead sd image)

/-- BOOT_PATTERN_LOAD (R472). -/
def execBootPatternLoad (sd : SideId) (image : List Byte) (s : State) : Answer := s.answer (s.bootPattern sd image)

end Sys2Proof.Machine
end

