-- ==== Sys2Proof/Machine/MeterOps.lean ====
section
/-!
DEFINITION. The MTR, CLK and TIME classes (R164 to R166, R262, R274, R280 to R283, R290, R295 to R297, R301, R306, R307, R310).
-/
namespace Sys2Proof.Machine

open Sys2Proof

/-! ### Register writes of firmware -/

/-- A word as firmware writes it: its RW fields as they stand, those of `fs` replaced. -/
def Side.wordWith (sd : Side) (off : Nat) (fs : List (Fld × Nat)) : Nat :=
  ((fieldsAt off).map (fun r =>
    (match fs.find? (fun p => p.1 = r.at off) with
    | some p => p.2 % 2 ^ r.len
    | none => if r.acc = .rw then sd.get (r.at off) else 0) * 2 ^ r.lo)).sum

/-- A write of a word by firmware, with what comes with it from its surroundings. -/
def State.fwWriteIn (s : State) (sd : SideId) (off v : Nat) (env : BusEnv) : State := (s.windowWrite sd .firmware off 15 v env).1

/-- A write of a word by firmware. -/
def State.fwWrite (s : State) (sd : SideId) (off v : Nat) : State := s.fwWriteIn sd off v noEnv

/-- A write of some fields of a word by firmware. -/
def State.fwWord (s : State) (sd : SideId) (off : Nat) (fs : List (Fld × Nat)) : State := s.fwWrite sd off ((s.side sd).wordWith off fs)

/-! ### MTR -/

/-- Whether a range of meter points exists. -/
def pointsOk (first count : Nat) : Bool := decide (first + count ≤ 4096)

/-- The words 0 to 7 of a point's parameter record (Table PB-6), SOURCE and WIDE as they stand. -/
def Side.pointWords (sd : Side) (p : Nat) (m : Msg) : List Nat :=
  let r := rateHz sd.rate
  let w := m.u 8 2
  let h := m.u 10 2
  let d := m.u 12 2
  [sd.mparam p 0 % 2 ^ 15 + m.u 4 4 / 2 ^ 15 % 2 ^ 9 * 2 ^ 15, w + h * 65536, d, m.u 16 4, alphaOf w r, holdRowsOf h r, decayOf d r, 0]

/-- MTR POINT (R164). -/
def mtrPoint : Handler := fun sd m s =>
  let first := m.u 0 2
  let count := m.u 2 2
  if !pointsOk first count || decide (m.u 8 2 = 0 ∨ 3000 < m.u 8 2 ∨ 10000 < m.u 10 2 ∨ 600 < m.u 12 2) then .refused stBadValue 0
  else
    ((List.range count).foldl (fun s i =>
      s.putWords sd 1 (meterParam (first + i)) ((s.side sd).pointWords (first + i) m)) s).ok

/-- MTR RESET (R165): due at the next row boundary. -/
def mtrReset : Handler := fun sd m s =>
  if pointsOk (m.u 0 2) (m.u 2 2) then
    s.okSide sd (fun x =>
      { x with gauge := { x.gauge with resetDue := x.gauge.resetDue ++ (List.range (m.u 2 2)).map (fun i => m.u 0 2 + i) } })
  else .refused stBadValue 0

/-- R166: whether GROUPED assigns a point to another group. -/
def Side.groupedElsewhere (sd : Side) (g p : Nat) : Bool :=
  let w := sd.mparam p 0
  w.testBit 19 && decide (w / 65536 % 8 ≠ g)

/-- MTR GROUP (R166). -/
def mtrGroup : Handler := fun sd m s =>
  let x := s.side sd
  let g := m.u 0 1
  let period := m.u 4 4
  let first := m.u 8 2
  let count := m.u 10 2
  let r := rateHz x.rate
  if 7 < g ∨ 1 < m.u 1 1 ∨ 3 < m.u 2 1 ∨ period < r / 200 ∨ r < period ∨ count = 0 ∨ !pointsOk first count ∨
      (List.range count).any (fun i => x.groupedElsewhere g (first + i)) then .refused stBadValue 0
  else
    let s := s.fwWord sd (F.PB_GRP_PERIOD g).off [(F.PB_GRP_PERIOD g, period)]
    let s := s.fwWord sd (F.PB_GRP_FIRST g).off [(F.PB_GRP_FIRST g, first), (F.PB_GRP_COUNT g, count)]
    (s.fwWord sd (F.PB_GRP_EN g).off [(F.PB_GRP_EN g, m.u 1 1), (F.PB_GRP_CHANNEL g, m.u 2 1)]).ok

/-- MTR_POINT (R164). -/
def execMtrPoint (sd : SideId) (s : State) : Answer := s.answer (s.ibelle sd 7 1 mtrPoint)

/-- MTR_RESET (R165). -/
def execMtrReset (sd : SideId) (s : State) : Answer := s.answer (s.ibelle sd 7 2 mtrReset)

/-- MTR_GROUP (R166). -/
def execMtrGroup (sd : SideId) (s : State) : Answer := s.answer (s.ibelle sd 7 3 mtrGroup)

/-! ### CLK -/

/-- CLK CAND (R281). CLASS is firmware's own for C0 and C1. -/
def clkCand : Handler := fun sd m s =>
  let c := m.u 0 1
  if 7 < c ∨ 1 < m.u 1 1 ∨ 15 < m.u 3 1 then .refused stBadValue 0
  else
    let s := s.fwWord sd (F.TM_CAND_LOSS c).off [(F.TM_CAND_LOSS c, m.u 6 2), (F.TM_CAND_QUAL_MS c, m.u 8 2)]
    let s := s.fwWord sd (F.TM_CAND_SUBSEL c).off [(F.TM_CAND_SUBSEL c, m.u 3 1)]
    (s.fwWord sd (F.TM_CAND_EN c).off
      ([(F.TM_CAND_EN c, m.u 1 1), (F.TM_CAND_PRIORITY c, m.u 4 2)] ++ (if c < 2 then [] else [(F.TM_CAND_CLASS c, m.u 2 1)]))).ok

/-- CLK LOOP (R287, R290, R292, R293). SLEW and the others are stored as their registers bound them. -/
def clkLoop : Handler := fun sd m s =>
  if 7 < m.u 0 1 then .refused stBadValue 0
  else
    let s := s.fwWord sd F.TM_CTRL_BW.off
      [(F.TM_CTRL_BW, m.u 0 1), (F.TM_CTRL_SLEW, min (m.u 1 1) 100), (F.TM_CTRL_LOCK_THR, m.u 4 2)]
    let s := s.fwWord sd F.TM_SWITCH_HOLDOFF.off [(F.TM_SWITCH_SETTLE_MAX, m.u 2 1), (F.TM_SWITCH_HOLDOFF, m.u 6 2)]
    (s.fwWord sd F.TM_SPLIT_SPLIT.off [(F.TM_SPLIT_SPLIT, m.u 8 2)]).ok

/-- CLK OPEN (R295). -/
def clkOpen : Handler := fun sd m s =>
  if 1 < m.u 0 1 then .refused stBadValue 0 else (s.fwWord sd F.TM_CTRL_OPEN.off [(F.TM_CTRL_OPEN, m.u 0 1)]).ok

/-- CLK FW (R295, R296). -/
def clkFw : Handler := fun sd m s => ((s.fwWrite sd F.TM_FW_LO.off (m.u 0 4)).fwWrite sd F.TM_FW_HI_FW_HI.off (m.u 4 2)).ok

/-- CLK PPT (R297). -/
def clkPpt : Handler := fun sd m s => (s.fwWrite sd F.TM_PPT.off (m.u 0 4)).ok

/-- CLK PUSH (R283). `freq` is the candidate's mean frequency over the last second in ppt; `last` says that no further measurement of
it arrives within the same millisecond. -/
def clkPush (freq : Int) (last : Bool) : Handler := fun sd m s =>
  let s := (s.fwWrite sd F.TM_MEAS_LO.off (m.u 0 4)).fwWrite sd F.TM_MEAS_HI.off (m.u 4 4)
  (s.fwWriteIn sd F.TM_MEAS_PUSH_CAND.off 7 { noEnv with freq := freq, last := last }).ok

/-- CLK OBS (R262). -/
def clkObs : Handler := fun sd m s =>
  if 31 < m.u 0 1 ∨ 15 < m.u 1 1 ∨ 3 < m.u 2 1 then .refused stBadValue 0
  else
    (s.fwWord sd F.CK_OBS_SEL.off
      [(F.CK_OBS_SEL, m.u 0 1), (F.CK_OBS_PORT, m.u 1 1), (F.CK_OBS_LINK, m.u 2 1), (F.CK_OBS_DIV, m.u 4 2)]).ok

/-- CLK_CAND (R281). -/
def execClkCand (sd : SideId) (s : State) : Answer := s.answer (s.ibelle sd 8 1 clkCand)

/-- CLK_LOOP (R290). -/
def execClkLoop (sd : SideId) (s : State) : Answer := s.answer (s.ibelle sd 8 2 clkLoop)

/-- CLK_OPEN (R295). -/
def execClkOpen (sd : SideId) (s : State) : Answer := s.answer (s.ibelle sd 8 3 clkOpen)

/-- CLK_FW (R295). -/
def execClkFw (sd : SideId) (s : State) : Answer := s.answer (s.ibelle sd 8 4 clkFw)

/-- CLK_PPT (R297). -/
def execClkPpt (sd : SideId) (s : State) : Answer := s.answer (s.ibelle sd 8 5 clkPpt)

/-- CLK_PUSH (R283). -/
def execClkPush (sd : SideId) (freq : Int) (last : Bool) (s : State) : Answer := s.answer (s.ibelle sd 8 6 (clkPush freq last))

/-- CLK_OBS (R262). -/
def execClkObs (sd : SideId) (s : State) : Answer := s.answer (s.ibelle sd 8 7 clkObs)

/-! ### TIME -/

/-- TIME SNAP (R280), `cycles` media-clock cycles after the boundary. -/
def timeSnap (cycles : Nat) : Handler := fun sd _ s =>
  let t := s.fwWriteIn sd F.TM_SNAP_SNAP.off 1 { noEnv with cycles := cycles }
  let x := t.side sd
  t.says (leBytes 4 (x.get F.TM_SNAP_NS) ++ leBytes 4 (x.get F.TM_SNAP_SEC_LO) ++ leBytes 4 (x.get F.TM_SNAP_SEC_HI_SEC) ++
    leBytes 2 (x.get F.TM_SNAP_SEC_HI_FRAC) ++ leBytes 1 (x.get F.TM_STAT_TIME_VALID) ++ leBytes 1 0 ++
    leBytes 8 (x.get64 F.TM_SNAP_ROW_LO F.TM_SNAP_ROW_HI))

/-- TIME STEP (R301, Table TM-3). -/
def timeStep : Handler := fun sd m s =>
  let cmd := m.u 0 1
  if cmd ≠ 1 ∧ cmd ≠ 2 then .refused stBadValue 0
  else
    let s := if cmd = 2 then s.fwWrite sd F.TM_STEP_ARG.off (m.u 4 4) else s
    let t := s.fwWrite sd F.TM_STEP_CMD.off cmd
    let r := (t.side sd).get F.TM_STEP_STAT_RESULT
    if r = 1 then t.ok else .failed t stStepRefused r

/-- TIME TRIGGER (R307). -/
def timeTrigger : Handler := fun sd m s =>
  let n := m.u 0 1
  if 23 < n ∨ 5 < m.u 1 1 ∨ 31 < m.u 2 1 ∨ 1 < m.u 3 1 then .refused stBadValue 0
  else
    let s := s.fwWord sd (F.TM_TRIG_EN n).off [(F.TM_TRIG_EN n, 0)]
    let s := s.fwWrite sd (F.TM_TRIG_NS n).off (m.u 12 4)
    let s := s.fwWrite sd (F.TM_TRIG_SEC_LO n).off (m.u 4 4)
    let s := s.fwWrite sd (F.TM_TRIG_SEC_HI n).off (m.u 8 2)
    let s := s.fwWrite sd (F.TM_TRIG_PERIOD n).off (m.u 16 4)
    let s := s.fwWrite sd (F.TM_TRIG_WIDTH n).off (m.u 20 4)
    (s.fwWord sd (F.TM_TRIG_EN n).off
      [(F.TM_TRIG_EN n, 1), (F.TM_TRIG_ACTION n, m.u 1 1), (F.TM_TRIG_TARGET n, m.u 2 1), (F.TM_TRIG_REPEAT n, m.u 3 1)]).ok

/-- TIME CAPTURE (R310). -/
def timeCapture : Handler := fun sd m s =>
  if 1 < m.u 0 1 ∨ 1 < m.u 1 1 then .refused stBadValue 0
  else
    ((s.fwWord sd F.TM_CAP_CTRL_TAKES.off [(F.TM_CAP_CTRL_TAKES, m.u 0 1), (F.TM_CAP_CTRL_SWITCHES, m.u 1 1)]).fwWrite sd
      F.TM_CAP_GPIO.off (m.u 4 4)).ok

/-- TIME PHY (R306): the board's share, loaded with the on-die latency at the port's next link-up. -/
def timePhy : Handler := fun sd m s =>
  if h : m.u 0 1 < 2 then
    s.okSide sd (fun x => x.onPort ⟨m.u 0 1, h⟩ (fun p => { p with ingAdd := m.u 4 4, egrAdd := m.u 8 4 }))
  else .refused stBadValue 0

/-- TIME ASYM (R306). -/
def timeAsym : Handler := fun sd m s =>
  if 1 < m.u 0 1 then .refused stBadValue 0 else (s.fwWrite sd (F.TM_TSC_ASYM (m.u 0 1)).off (m.u 4 4)).ok

/-- R274: the UTC offset that the reference announces: the best master on the port of the selected PTP candidate. -/
def Side.announcedUtc (sd : Side) : Option Int :=
  if sd.selects 0 then (sd.net.ports[(0 : Fin 2)].best).bind Foreign.utc
  else if sd.selects 1 then (sd.net.ports[(1 : Fin 2)].best).bind Foreign.utc
  else none

/-- TIME UTC (R274): what the reference announces; while it has announced none, log entry 53. -/
def timeUtc : Handler := fun sd _ s =>
  match (s.side sd).announcedUtc with
  | some u => s.says (leBytes 2 (ofSigned 16 u) ++ leBytes 1 1 ++ leBytes 1 0)
  | none =>
    let u := Config.utcOffset s.fresh
    ({ s with fresh := s.fresh + 1 } : State).says (leBytes 2 u.1 ++ leBytes 1 u.2.toNat ++ leBytes 1 0)

/-- TIME_SNAP (R280). -/
def execTimeSnap (sd : SideId) (cycles : Nat) (s : State) : Answer := s.answer (s.ibelle sd 9 1 (timeSnap cycles))

/-- TIME_STEP (R301). -/
def execTimeStep (sd : SideId) (s : State) : Answer := s.answer (s.ibelle sd 9 2 timeStep)

/-- TIME_TRIGGER (R307). -/
def execTimeTrigger (sd : SideId) (s : State) : Answer := s.answer (s.ibelle sd 9 3 timeTrigger)

/-- TIME_CAPTURE_SET (R310). -/
def execTimeCaptureSet (sd : SideId) (s : State) : Answer := s.answer (s.ibelle sd 9 4 timeCapture)

/-- TIME_PHY (R306). -/
def execTimePhy (sd : SideId) (s : State) : Answer := s.answer (s.ibelle sd 9 5 timePhy)

/-- TIME_ASYM (R306). -/
def execTimeAsym (sd : SideId) (s : State) : Answer := s.answer (s.ibelle sd 9 6 timeAsym)

/-- TIME_UTC (R274). -/
def execTimeUtc (sd : SideId) (s : State) : Answer := s.answer (s.ibelle sd 9 7 timeUtc)

end Sys2Proof.Machine
end

