-- ==== Sys2Proof/Machine/PortOps.lean ====
section
/-!
DEFINITION. The PORT and NET classes (R314, R317, R320, R325 to R328, R331, R334, R336, R342, R346, R348 to R352, R356, R357).
-/
namespace Sys2Proof.Machine

open Sys2Proof

/-! ### PORT -/

/-- The half that PORT and HALF name in a message's first bytes. -/
def Msg.half (m : Msg) : Option (Fin 32) := if 15 < m.u 0 1 ∨ 1 < m.u 1 1 then none else some ⟨(2 * m.u 0 1 + m.u 1 1) % 32, by omega⟩

/-- An operation on a half. -/
def onHalfOp (f : Fin 32 → Handler) : Handler := fun sd m s =>
  match m.half with
  | some h => f h sd m s
  | none => .refused stBadValue 0

/-- R314, R317, R320, R328: whether a half takes start-time settings. -/
def Side.startFits (sd : Side) (h : Fin 32) (master bridge bits phase : Nat) : Bool :=
  let n := rowCycles sd.rate
  let fits := fun (cfg : Nat) => decide (slotCount cfg * widthBits cfg ≤ bits)
  decide (master ≤ 1 ∧ bridge ≤ 1 ∧ (bridge = 0 ∨ (master = 0 ∧ h.val % 2 = 0)) ∧ 1 ≤ bits ∧ bits ≤ 2048 ∧ phase < n ∧
    (master = 0 ∨ ((bits = n ∨ bits ≤ n / 2) ∧ (h.val % 2 = 0 ∨ 8 ≤ phase)))) && fits (sd.cfgCur h) && fits (sd.cfgShadow h)

/-- PORT HALF_START (R325, R327), `cycles` media-clock cycles after the boundary. In Twin a shared connection has no master (R201). -/
def halfStart (cycles : Nat) : Fin 32 → Handler := fun h sd m s =>
  let x := s.side sd
  let k := h.val
  if !x.startFits h (m.u 2 1) (m.u 3 1) (m.u 4 2) (m.u 6 2) then .refused stBadValue 0
  else if m.u 2 1 = 1 ∧ x.get F.PW_MODE_ARR = 2 then .refused stTwinRule 0
  else if x.halfRuns h then .refused stBusy 0
  else
    let s := s.fwWord sd (F.AP_CFG_MASTER k).off [(F.AP_CFG_MASTER k, m.u 2 1), (F.AP_CFG_BRIDGE k, m.u 3 1)]
    let s := s.fwWord sd (F.AP_TIMING_PHASE k).off [(F.AP_TIMING_FRAME_BITS k, m.u 4 2), (F.AP_TIMING_PHASE k, m.u 6 2)]
    (s.fwWriteIn sd (F.AP_CTRL_EN k).off 1 { noEnv with cycles := cycles }).ok

/-- PORT HALF_STOP (R325). -/
def halfStop : Fin 32 → Handler := fun h sd _ s => (s.fwWrite sd (F.AP_CTRL_EN h.val).off 0).ok

/-- PORT APPLY (R326), EN as it stands. -/
def halfApply (cycles : Nat) : Fin 32 → Handler := fun h sd _ s =>
  (s.fwWriteIn sd (F.AP_CTRL_EN h.val).off (2 + (s.side sd).get (F.AP_CTRL_EN h.val)) { noEnv with cycles := cycles }).ok

/-- PORT PDM (R331). -/
def portPdm : Handler := fun sd m s =>
  let out := (m.u 0 4).testBit 1
  if out && decide ((s.side sd).get F.PW_MODE_ARR = 2) then .refused stTwinRule 0
  else if out && decide ((s.side sd).rate % 2 = 0) then .refused stBadValue 0
  else (s.fwWrite sd F.AP_PDM_CFG_EN.off (m.u 0 4)).ok

/-- PORT WCLK (R334). -/
def portWclk : Handler := fun sd m s =>
  if 7 < m.u 0 1 ∨ 1 < m.u 1 1 ∨ 2047 < m.u 2 2 then .refused stBadValue 0
  else (s.fwWord sd F.AP_WCLK_WR.off [(F.AP_WCLK_WR, m.u 0 1), (F.AP_WCLK_OUT_EN, m.u 1 1), (F.AP_WCLK_PHASE, m.u 2 2)]).ok

/-- A mask of bits as a mask of 2-bit fields. -/
def pairMask (m : Nat) : Nat := ((List.range 16).map (fun g => if m.testBit g then 3 * 4 ^ g else 0)).sum

/-- PORT GPIO (R336). -/
def portGpio : Handler := fun sd m s =>
  let sel := m.u 0 2
  let put := fun (s : State) (f : Fld) (v mask : Nat) => s.fwWord sd f.off [(f, mergeMask ((s.side sd).get f) v mask)]
  (put (put (put (put s F.AP_GPIO_SAFE (m.u 8 4) (pairMask sel)) F.AP_GPIO_DG (m.u 12 4) (pairMask sel)) F.AP_GPIO_OUT (m.u 4 2) sel)
    F.AP_GPIO_DIR (m.u 2 2) sel).ok

/-- The bridge channels that the loaded Pattern uses (Table PL-3). -/
def Side.bridges (sd : Side) : Nat := (sd.fw.pattern.map (fun p => imgU p.header 0x2C 1)).getD 0

/-- PORT BRIDGE (R328). -/
def portBridge : Handler := fun sd m s =>
  let c := m.u 0 1
  if 127 < c ∨ 1 < m.u 1 1 ∨ 1 < m.u 2 1 ∨ 15 < m.u 3 1 ∨ 31 < m.u 4 1 ∨ (m.u 1 1 = 1 ∧ (s.side sd).bridges ≤ c) then
    .refused stBadValue 0
  else
    (s.fwWord sd (F.AP_BR_EN c).off
      [(F.AP_BR_EN c, m.u 1 1), (F.AP_BR_KIND c, m.u 2 1), (F.AP_BR_SRC c, m.u 3 1), (F.AP_BR_SUB c, m.u 4 1)]).ok

/-- PORT_HALF_CFG (R326). -/
def execPortHalfCfg (sd : SideId) (s : State) : Answer := s.answer (s.ibelle sd 0x0A 1 boundOp)

/-- PORT_HALF_START (R325). -/
def execPortHalfStart (sd : SideId) (cycles : Nat) (s : State) : Answer := s.answer (s.ibelle sd 0x0A 2 (onHalfOp (halfStart cycles)))

/-- PORT_HALF_STOP (R325). -/
def execPortHalfStop (sd : SideId) (s : State) : Answer := s.answer (s.ibelle sd 0x0A 3 (onHalfOp halfStop))

/-- PORT_APPLY (R326). -/
def execPortApply (sd : SideId) (cycles : Nat) (s : State) : Answer := s.answer (s.ibelle sd 0x0A 4 (onHalfOp (halfApply cycles)))

/-- PORT_PDM (R331). -/
def execPortPdm (sd : SideId) (s : State) : Answer := s.answer (s.ibelle sd 0x0A 5 portPdm)

/-- PORT_WCLK (R334). -/
def execPortWclk (sd : SideId) (s : State) : Answer := s.answer (s.ibelle sd 0x0A 6 portWclk)

/-- PORT_GPIO (R336). -/
def execPortGpio (sd : SideId) (s : State) : Answer := s.answer (s.ibelle sd 0x0A 7 portGpio)

/-- PORT_BRIDGE (R328). -/
def execPortBridge (sd : SideId) (s : State) : Answer := s.answer (s.ibelle sd 0x0A 8 portBridge)

/-! ### NET -/

/-- NET PORT (R342, R346): the loop's RATE code, RS-FEC, which is 25GBASE-R's (Table NW-1), and firmware's settings of the port. -/
def netPort : Handler := fun sd m s =>
  if h : m.u 0 1 < 2 then
    let p : Fin 2 := ⟨m.u 0 1, h⟩
    if 3 < m.u 1 1 ∨ 1 < m.u 2 1 ∨ 2 < m.u 3 1 ∨ 127 < m.u 4 1 ∨ (m.u 3 1 = 2 ∧ m.u 4 1 ≠ 0) ∨
        (m.u 2 1 = 1 ∧ m.u 1 1 ≠ 3) then .refused stBadValue 0
    else
      let rate := if p.val = 0 then F.CK_SERPLL_RATE1 else F.CK_SERPLL_RATE2
      (s.fwWord sd rate.off [(rate, m.u 1 1)]).okSide sd (fun x =>
        ((x.set (F.NW_PORT_FEC p) (m.u 2 1)).onPort p (fun n =>
          { n with profile := m.u 3 1, domain := m.u 4 1, addr := m.u 8 4, netmask := m.u 12 4, gateway := m.u 16 4 })).publishWorst)
  else .refused stBadValue 0

/-- R348: the words of a flow that a message gives, with what its record does not take refused: FORMAT 3, a payload type outside
Table NW-3, a SPREAD of P rows or more, an O above O_MAX. -/
def flowSetOk (i : Nat) (w : Nat → Nat) : Bool :=
  let pt := bitsOf (w 0) 12 7
  decide (bitsOf (w 0) 2 2 ≠ 3 ∧ (96 ≤ pt ∨ (pt = 0 ∧ i < 128)) ∧
    (if i < 128 then bitsOf (w 1) 16 11 ≤ bitsOf (w 2) 0 11 else bitsOf (w 1) 16 11 < bitsOf (w 1) 0 10))

/-- NET FLOW_SET (R348, R350): the Start fields into the record, the Take fields of the same words into the shadow copy. -/
def flowSet : Handler := fun sd m s =>
  let i := m.u 0 2
  let w := fun k => m.u (4 + 4 * k) 4
  if 255 < i ∨ !flowSetOk i w then .refused stBadValue 0
  else if (s.side sd).flowOn i then .refused stBusy 0
  else
    let put := fun (mask : Nat → Nat → Nat) (base : Nat) (s : State) (k : Nat) =>
      if mask i k = 0 then s else s.putWords sd 1 (base + 4 * k) [w k]
    ((List.range 13).foldl (put takeMask (flowShadow i)) ((List.range 13).foldl (put startMask (flowBase i)) s)).ok

/-- R349: why flow object `i` may not be enabled: a status code. -/
def Side.flowRefused (sd : Side) (i : Nat) : Option Nat :=
  let r := rateHz sd.rate
  let p := sd.flowP i
  let all := if i < 128 then sd.flowsOn 0 128 ++ [i] else sd.flowsOn 128 256 ++ [i]
  if p < (r + 7999) / 8000 ∨ r / 250 < p ∨ 1440 < sd.flowChannels i * p * sampleBytes (sd.flowFormat i) ∨ sd.flowFormat i = 3 ∨
      (if sd.rate ≤ 3 then 2048 else 1024) < (all.map sd.flowChannels).sum then some stBadValue
  else if i < 128 then
    (if 3145728 < (all.map (fun f => sd.flowChannels f * (2 * sd.flowP f + sd.flowOMax f) * 4)).sum then some stNoBuffer else none)
  else if lineRate (sd.serRate 0) * 3 < sd.mediaLoad 0 all * 4 ∨ lineRate (sd.serRate 1) * 3 < sd.mediaLoad 1 all * 4 then
    some stNoBandwidth
  else none

/-- EN of a flow, and what follows from it. -/
def Side.setFlowOn (sd : Side) (i v : Nat) : Side := (((sd.setFlowF i 0 0 1 v).igmpReport i 0).igmpReport i 1).publishWorst

/-- NET FLOW_EN (R349). -/
def flowEn : Handler := fun sd m s =>
  let i := m.u 0 2
  let x := s.side sd
  if 255 < i ∨ 1 < m.u 2 1 then .refused stBadValue 0
  else if m.u 2 1 = 0 then (if x.flowOn i then s.okSide sd (fun x => x.setFlowOn i 0) else s.ok)
  else if x.flowOn i then s.ok
  else
    match x.flowRefused i with
    | some c => .refused c 0
    | none => if x.banksOn [49] then s.okSide sd (fun x => x.setFlowOn i 1) else .refused stBusy 0

/-- NET CHSTATUS (R351). -/
def netChStatus : Handler := fun sd m s =>
  if 255 < m.u 0 2 then .refused stBadValue 0
  else s.okSide sd (fun x => x.onNet (fun n => { n with chStatus := Sparse.set (fun _ => []) n.chStatus (m.u 0 2) (fitTo 24 0 (m.payload.drop 4)) }))

/-- R357: whether an ARMED or FIRING Cue names a buffer. -/
def Side.bufferHeld (sd : Side) (b : Nat) : Bool :=
  (List.range 128).any (fun n =>
    decide (sd.cueState n = 2 ∨ sd.cueState n = 3) &&
      (List.range (min (sd.get (F.TK_CUE_PKTS n)) 4)).any (fun p => decide (leVal (sd.bytes (cueBase n + 0x80 + 16 * p) 2) = b)))

/-- NET BUFFER (R357). -/
def netBuffer : Handler := fun sd m s =>
  let len := m.u 16 2
  if 1472 < m.len - 20 ∨ m.len - 20 < len then .refused stBadLen 0
  else if len = 0 ∨ 63 < m.u 12 1 ∨ m.u 13 1 = 0 then .refused stBadValue 0
  else if (s.side sd).bufferHeld (m.u 0 1) || !(s.side sd).banksOn [49] then .refused stBusy 0
  else s.okSide sd (fun x => x.writeBuffer (m.u 0 1) ((m.payload.drop 4).take 16) (m.payload.drop 20))

/-- NET_PORT (R346). -/
def execNetPort (sd : SideId) (s : State) : Answer := s.answer (s.ibelle sd 0x0B 1 netPort)

/-- NET_FLOW_SET (R348). -/
def execNetFlowSet (sd : SideId) (s : State) : Answer := s.answer (s.ibelle sd 0x0B 2 flowSet)

/-- NET_FLOW_TAKE (R356). -/
def execNetFlowTake (sd : SideId) (s : State) : Answer := s.answer (s.ibelle sd 0x0B 3 boundOp)

/-- NET_FLOW_EN (R349). -/
def execNetFlowEn (sd : SideId) (s : State) : Answer := s.answer (s.ibelle sd 0x0B 4 flowEn)

/-- NET_CHSTATUS (R351). -/
def execNetChstatus (sd : SideId) (s : State) : Answer := s.answer (s.ibelle sd 0x0B 5 netChStatus)

/-- NET_BUFFER (R357). -/
def execNetBuffer (sd : SideId) (s : State) : Answer := s.answer (s.ibelle sd 0x0B 6 netBuffer)

end Sys2Proof.Machine
end

