-- ==== Sys2Proof/Machine/LinkOps.lean ====
section
/-!
DEFINITION. The LINK, TWIN, MEM and DMA classes (R363, R365, R367, R388, R222, R229, R233, R238, R245, R445, R451, R454, R438).
-/
namespace Sys2Proof.Machine

open Sys2Proof

/-! ### LINK -/

/-- A Pattern destination of KIND 5 on transmit skein `k` of link `l` whose Active selection is not SILENT. -/
def Side.skeinFed (sd : Side) (l k : Nat) : Bool :=
  sd.usedDests.any (fun d =>
    let w := sd.destDesc d
    decide (w.1 % 16 = 5 ∧ w.2 % 4 = l ∧ w.2 / 4 % 16 = k) && !(sd.selection d).testBit 15)

/-- The channels of a link's enabled skeins in one direction. -/
def Side.skeinLoad (sd : Side) (link dir : Nat) : Nat :=
  ((List.range 16).map (fun k =>
    let i := 32 * link + 16 * dir + k
    if sd.skeinOn i then sd.skeinF i 0 12 8 + 1 else 0)).sum

/-- LINK SKEIN (R361, R363): word 0 of the record that INDEX names, whose link, direction and number the index gives. -/
def linkSkein : Handler := fun sd m s =>
  let i := m.u 0 2
  if 127 < i then .refused stBadValue 0
  else
    let v := withBits (withBits (withBits (m.u 4 4 % 2 ^ 30) 1 1 (i / 16 % 2)) 2 2 (i / 32)) 8 4 (i % 16)
    let x := (s.side sd).setSkeinWord i 0 v
    if x.skeinOn i && decide (x.skeinF i 0 1 1 = 0 ∧ x.skeinF i 0 7 1 = 1) && x.skeinFed (x.skeinF i 0 24 2) (x.skeinF i 0 26 4) then
      .refused stBadRoute 0
    else if (if x.rate ≤ 3 then 4096 else 2048) < x.skeinLoad (i / 32) (i / 16 % 2) then .refused stBadValue 0
    else s.okSide sd (fun _ => x)

/-- LINK ASYM (R365). -/
def linkAsym : Handler := fun sd m s =>
  if 3 < m.u 0 1 then .refused stBadValue 0 else (s.fwWrite sd (F.SH_LINK_ASYM (m.u 0 1)).off (m.u 4 4)).ok

/-- Firmware's write of a relay register in the host region. -/
def HostRegion.relayWrite (h : HostRegion) (off v : Nat) : HostRegion := { h with regs := Regs.store h.regs off 15 v }

/-- LINK ROUTE (R367, R388). -/
def linkRoute : Handler := fun _ m s =>
  if 63 < m.u 0 1 then .refused stBadValue 0 else (s.onHost (fun h => h.relayWrite (F.HP_RLY_ROUTE_PRI_EN (m.u 0 1)).off (m.u 4 4))).ok

/-- LINK RELAY (R388). -/
def linkRelay : Handler := fun _ m s =>
  if 1 < m.u 0 1 ∨ 1 < m.u 1 1 then .refused stBadValue 0
  else (s.onHost (fun h => h.relayWrite F.HP_RLY_CTRL_EN.off (m.u 0 1 + 2 * m.u 1 1))).ok

/-- LINK_SKEIN (R363). -/
def execLinkSkein (sd : SideId) (s : State) : Answer := s.answer (s.ibelle sd 0x0C 1 linkSkein)

/-- LINK_ASYM (R365). -/
def execLinkAsym (sd : SideId) (s : State) : Answer := s.answer (s.ibelle sd 0x0C 2 linkAsym)

/-- LINK_ROUTE (R367). -/
def execLinkRoute (sd : SideId) (s : State) : Answer := s.answer (s.ibelle sd 0x0C 3 linkRoute)

/-- LINK_RELAY (R388). -/
def execLinkRelay (sd : SideId) (s : State) : Answer := s.answer (s.ibelle sd 0x0C 4 linkRelay)

/-! ### TWIN -/

/-- A field of a Side's loaded Pattern's header (Table PL-3); none without a Pattern. -/
def Side.patternField (sd : Side) (off n : Nat) : Option Nat := sd.fw.pattern.map (fun p => imgU p.header off n)

/-- Whether both Sides have Patterns whose headers agree in a field. -/
def samePattern (x y : Side) (off n : Nat) : Bool := (x.patternField off n).isSome && decide (x.patternField off n = y.patternField off n)

/-- TWIN START (Table TW-5). -/
def twinStart : Handler := fun sd m s =>
  let x := s.side sd
  if 1 < m.u 8 1 then .refused stBadValue 0
  else if !x.unitBanksOn then .refused stBusy 0
  else if m.u 8 1 = sd.num then
    if m.u 0 8 < x.row + 4 then .refused stTooLate 0
    else if x.fw.pattern.isSome && decide (s.host.get F.HP_SEAM_TOKEN_OWNER = 3) then planFor .startLead sd m s
    else .refused stTwinRule 0
  else if m.u 0 8 < x.row + 4 then .refused stTooLate 0
  else if samePattern x (s.side sd.other) 0x08 8 then planFor .startFollow sd m s
  else .refused stTwinRule 0

/-- TWIN CABLE (R229): the plan, or, while another handover is pending, a plan that its row C − 1 judges. -/
def twinCable : Handler := fun sd m s =>
  let c := m.u 0 8
  if c < (s.side sd).row + 4 then .refused stTooLate 0
  else s.okSide sd (fun x => if x.handBusy then x.onTwin (fun t => { t with plans := t.plans ++ [(c - 1, .cable)] }) else x.setHand c 0 1)

/-- R233: the conditions of a Blend cable, of the Rework Side `r` and the other Side `l`. -/
def blendFits (r l : Side) : Bool :=
  decide (r.mode = .rework ∧ l.mode = .lead) && r.flag F.PB_CTRL_RUN && samePattern r l 0x10 8 && samePattern r l 0x06 1

/-- TWIN BLEND (R233). -/
def twinBlend : Handler := fun sd m s =>
  let x := s.side sd
  let y := s.side sd.other
  let n := m.u 8 2
  if n < 96 then .refused stBadValue 0
  else if m.u 0 8 < x.row + 4 then .refused stTooLate 0
  else if (blendFits x y || blendFits y x) && x.linkHeard && x.seamHeard && !x.handBusy then
    s.okSide sd (fun x => x.setHand ((m.u 0 8 + n) % 2 ^ 64) n 2)
  else .refused stTwinRule 0

/-- TWIN REJOIN (R238), of a Side in Rework that neither blends nor rejoins (Table TW-5); Rejoin starts at its next row boundary (R222). -/
def twinRejoin : Handler := fun sd _ s =>
  let x := s.side sd
  let y := s.side sd.other
  if decide (x.mode = .rework ∧ y.mode = .lead) && x.flag F.PB_CTRL_RUN && samePattern x y 0x08 8 && x.linkHeard && x.seamHeard &&
      !x.rejoining && !x.blending then
    s.okSide sd (fun x => x.onTwin (fun t => { t with plans := t.plans ++ [(x.row + 1, .rejoin)] }))
  else .refused stTwinRule 0

/-- TWIN JOIN (R245): of a Side in Solo while its partner is in Ready, or the other way round. -/
def twinJoin : Handler := fun sd m s =>
  if m.u 0 8 < (s.side sd).row + 4 then .refused stTooLate 0
  else if joinFits (s.side sd).mode (s.side sd.other).mode.code then planFor .join sd m s
  else .refused stTwinRule 0

/-- TWIN CONFIG (Tables TW-12, TW-15). -/
def twinConfig : Handler := fun sd m s =>
  if 1 < m.u 1 1 ∨ 1 < m.u 2 1 ∨ 1 < m.u 3 1 then .refused stBadValue 0
  else
    let t := s.fwWord sd F.TW_CTRL_HB_EN.off
      [(F.TW_CTRL_TIMEOUT, max 4 (min 64 (m.u 0 1))), (F.TW_CTRL_TAKE_EN, m.u 1 1), (F.TW_CTRL_TAKE_DIVERGED, m.u 2 1)]
    (t.fwWord sd F.TW_MIR_LM.off [(F.TW_MIR_LM, m.u 3 1), (F.TW_MIR_FINAL_MAX, max 1 (min 8 (m.u 4 1)))]).ok

/-- TWIN_START (R222). -/
def execTwinStart (sd : SideId) (s : State) : Answer := s.answer (s.ibelle sd 0x0D 1 twinStart)

/-- TWIN_CABLE (R229). -/
def execTwinCable (sd : SideId) (s : State) : Answer := s.answer (s.ibelle sd 0x0D 2 twinCable)

/-- TWIN_BLEND (R233). -/
def execTwinBlend (sd : SideId) (s : State) : Answer := s.answer (s.ibelle sd 0x0D 3 twinBlend)

/-- TWIN_REWORK (R222). -/
def execTwinRework (sd : SideId) (s : State) : Answer := s.answer (s.ibelle sd 0x0D 4 (planFor .rework))

/-- TWIN_REJOIN (R238). -/
def execTwinRejoin (sd : SideId) (s : State) : Answer := s.answer (s.ibelle sd 0x0D 5 twinRejoin)

/-- TWIN_SPLIT (R245). -/
def execTwinSplit (sd : SideId) (s : State) : Answer := s.answer (s.ibelle sd 0x0D 6 (planFor .split))

/-- TWIN_JOIN (R245). -/
def execTwinJoin (sd : SideId) (s : State) : Answer := s.answer (s.ibelle sd 0x0D 7 twinJoin)

/-- TWIN_CONFIG (R222). -/
def execTwinConfig (sd : SideId) (s : State) : Answer := s.answer (s.ibelle sd 0x0D 8 twinConfig)

/-! ### MEM -/

/-- MEM BANK (R445). -/
def memBank : Handler := fun sd m s =>
  let b := m.u 0 1
  if 51 < b ∨ 2 < m.u 1 1 then .refused stBadValue 0
  else if !(s.side sd).bankIdle b then .refused stBusy 0
  else (s.fwWrite sd (F.MM_BANK_STATE b).off (m.u 1 1)).ok

/-- MEM SWATCH (R454). -/
def memSwatch : Handler := fun sd m s =>
  let b := m.u 0 1
  if (51 < b ∧ b ≠ 0xFF) ∨ 1 < m.u 1 1 ∨ 1 < m.u 2 1 ∨ (m.u 2 1 = 1 ∧ m.u 1 1 ≠ 0) then .refused stBadValue 0
  else if !(s.side sd).swatchMay b then .refused stBusy 0
  else
    (s.fwWord sd F.MM_SWATCH_CTRL_GO.off
      [(F.MM_SWATCH_CTRL_BANK, if b = 0xFF then 0 else b), (F.MM_SWATCH_CTRL_ALL, (decide (b = 0xFF)).toNat), (F.MM_SWATCH_CTRL_KIND, m.u 1 1),
        (F.MM_SWATCH_CTRL_REPAIR, m.u 2 1), (F.MM_SWATCH_CTRL_GO, 1)]).ok

/-- MEM ECC_CLEAR (R451). -/
def memEccClear : Handler := fun sd m s =>
  let b := m.u 0 1
  if 51 < b then .refused stBadValue 0 else s.okSide sd (fun x => (x.set (F.MM_BANK_CE_CNT b) 0).set (F.MM_BANK_UE_CNT b) 0)

/-- MEM_BANK (R445). -/
def execMemBank (sd : SideId) (s : State) : Answer := s.answer (s.ibelle sd 0x0E 1 memBank)

/-- MEM_SWATCH (R454). -/
def execMemSwatch (sd : SideId) (s : State) : Answer := s.answer (s.ibelle sd 0x0E 2 memSwatch)

/-- MEM_ECC_CLEAR (R451). -/
def execMemEccClear (sd : SideId) (s : State) : Answer := s.answer (s.ibelle sd 0x0E 3 memEccClear)

/-! ### DMA -/

/-- DMA LEND (R438, Table FB-6). -/
def lendOp : Handler := fun sd m s =>
  let c := m.u 0 1
  let x := s.side sd
  if c < 12 ∨ 15 < c ∨ x.lent c ∨ x.hasJob c ∨ m.u 4 8 % 32 ≠ 0 ∨ m.u 12 4 % 32 ≠ 0 ∨ m.u 12 4 = 0 ∨ m.u 16 8 % 16 ≠ 0 ∨ m.u 24 4 = 0 ∨
      4096 < m.u 24 4 then .refused stBadValue 0
  else s.okSide sd (fun x => x.dmaLend c (m.u 4 8) (m.u 12 4) (m.u 16 8) (m.u 24 4))

/-- An operation on a lent channel. -/
def onLent (f : Nat → Handler) : Handler := fun sd m s =>
  let c := m.u 0 1
  if c < 12 ∨ 15 < c then .refused stBadValue 0 else if !(s.side sd).lent c then .refused stNotLent 0 else f c sd m s

/-- DMA RETURN (R438). -/
def returnOp : Nat → Handler := fun c sd _ s => s.okSide sd (fun x => x.dmaReturn c)

/-- DMA RESUME (R438, R439): a channel that is not halted has nothing to resume. -/
def resumeOp : Nat → Handler := fun c sd m s =>
  if 1 < m.u 1 1 then .refused stBadValue 0
  else if (s.side sd).flag (F.DMA_CH_HALTED c) then (s.dmaResume sd c (decide (m.u 1 1 = 1))).ok
  else s.ok

/-- DMA COPY (R438), whose ends R432 aligns. -/
def copyOp : Nat → Handler := fun c sd m s =>
  let x := s.side sd
  let len := m.u 16 4
  let group := (List.range 8).any (fun g => x.flag (F.PB_GRP_EN g) && decide (x.get (F.PB_GRP_CHANNEL g) + 12 = c))
  if group || x.hasJob c || x.pendOn (48 + c) then .refused stBusy 0
  else if len = 0 ∨ 2 ^ 24 ≤ len ∨ m.u 4 4 % 32 ≠ 0 ∨ m.u 8 8 % 32 ≠ 0 ∨ m.u 8 8 < x.dataBase c ∨ x.dataBase c + x.get (F.DMA_CH_DATA_LEN c) < m.u 8 8 + len then
    .refused stBadValue 0
  else
    s.okSide sd (fun x =>
      (((x.set (F.DMA_CH_SRC c) (m.u 4 4)).set64 (F.DMA_CH_DST_LO c) (F.DMA_CH_DST_HI c) (m.u 8 8)).set (F.DMA_CH_LEN c) len).softRequestLine c)

/-- DMA_LEND (R438). -/
def execDmaLend (sd : SideId) (s : State) : Answer := s.answer (s.ibelle sd 0x0F 1 lendOp)

/-- DMA_RETURN (R438). -/
def execDmaReturn (sd : SideId) (s : State) : Answer := s.answer (s.ibelle sd 0x0F 2 (onLent returnOp))

/-- DMA_RESUME (R438). -/
def execDmaResume (sd : SideId) (s : State) : Answer := s.answer (s.ibelle sd 0x0F 3 (onLent resumeOp))

/-- DMA_COPY (R438). -/
def execDmaCopy (sd : SideId) (s : State) : Answer := s.answer (s.ibelle sd 0x0F 4 (onLent copyOp))

end Sys2Proof.Machine
end

