-- ==== Sys2Proof/Machine/StitchRows.lean ====
section
/-!
DEFINITION. The commands of the Stitch cores: an instruction that a core issues at its pc, with the fields its word holds there, the
ends of EOR, of a far access and of a refill, announcements, and the control registers of a core.
-/
namespace Sys2Proof.Machine

open Sys2Proof

/-! ### Instructions -/

/-- TAP (R108). -/
def execTap (sd : SideId) (k : Fin 32) (m : FmtM) (s : State) : Answer := s.go sd (fun x => x.stitch k (.tap .add m))

/-- TAPS (R108). -/
def execTaps (sd : SideId) (k : Fin 32) (m : FmtM) (s : State) : Answer := s.go sd (fun x => x.stitch k (.tap .sub m))

/-- TAPL (R108). -/
def execTapl (sd : SideId) (k : Fin 32) (m : FmtM) (s : State) : Answer := s.go sd (fun x => x.stitch k (.tap .load m))

/-- TAPN (R108). -/
def execTapn (sd : SideId) (k : Fin 32) (m : FmtM) (s : State) : Answer := s.go sd (fun x => x.stitch k (.tap .neg m))

/-- MACM_MAC (R109). -/
def execMacmMac (sd : SideId) (k : Fin 32) (m : FmtM) (s : State) : Answer := s.go sd (fun x => x.stitch k (.macm .add m))

/-- MACM_MSU (R109). -/
def execMacmMsu (sd : SideId) (k : Fin 32) (m : FmtM) (s : State) : Answer := s.go sd (fun x => x.stitch k (.macm .sub m))

/-- MACM_MPY (R109). -/
def execMacmMpy (sd : SideId) (k : Fin 32) (m : FmtM) (s : State) : Answer := s.go sd (fun x => x.stitch k (.macm .load m))

/-- MACM_MPYN (R109). -/
def execMacmMpyn (sd : SideId) (k : Fin 32) (m : FmtM) (s : State) : Answer := s.go sd (fun x => x.stitch k (.macm .neg m))

/-- MACR_MAC (R110). -/
def execMacrMac (sd : SideId) (k : Fin 32) (r : FmtR) (s : State) : Answer := s.go sd (fun x => x.stitch k (.macr .add r))

/-- MACR_MSU (R110). -/
def execMacrMsu (sd : SideId) (k : Fin 32) (r : FmtR) (s : State) : Answer := s.go sd (fun x => x.stitch k (.macr .sub r))

/-- MACR_MPY (R110). -/
def execMacrMpy (sd : SideId) (k : Fin 32) (r : FmtR) (s : State) : Answer := s.go sd (fun x => x.stitch k (.macr .load r))

/-- MACR_MPYN (R110). -/
def execMacrMpyn (sd : SideId) (k : Fin 32) (r : FmtR) (s : State) : Answer := s.go sd (fun x => x.stitch k (.macr .neg r))

/-- DMAC (R111). -/
def execDmac (sd : SideId) (k : Fin 32) (d : FmtD) (s : State) : Answer := s.go sd (fun x => x.stitch k (.dmac .add d))

/-- DMSU (R111). -/
def execDmsu (sd : SideId) (k : Fin 32) (d : FmtD) (s : State) : Answer := s.go sd (fun x => x.stitch k (.dmac .sub d))

/-- DMPY (R111). -/
def execDmpy (sd : SideId) (k : Fin 32) (d : FmtD) (s : State) : Answer := s.go sd (fun x => x.stitch k (.dmac .load d))

/-- DMPYN (R111). -/
def execDmpyn (sd : SideId) (k : Fin 32) (d : FmtD) (s : State) : Answer := s.go sd (fun x => x.stitch k (.dmac .neg d))

/-- ADD (R112). -/
def execAdd (sd : SideId) (k : Fin 32) (a : FmtA) (s : State) : Answer := s.go sd (fun x => x.stitch k (.arith .add a))

/-- SUB (R112). -/
def execSub (sd : SideId) (k : Fin 32) (a : FmtA) (s : State) : Answer := s.go sd (fun x => x.stitch k (.arith .sub a))

/-- NEG (R112). -/
def execNeg (sd : SideId) (k : Fin 32) (a : FmtA) (s : State) : Answer := s.go sd (fun x => x.stitch k (.arith .neg a))

/-- ABS (R112). -/
def execAbs (sd : SideId) (k : Fin 32) (a : FmtA) (s : State) : Answer := s.go sd (fun x => x.stitch k (.arith .abs a))

/-- ASH (R112). -/
def execAsh (sd : SideId) (k : Fin 32) (a : FmtA) (s : State) : Answer := s.go sd (fun x => x.stitch k (.arith .ash a))

/-- MAX (R112). -/
def execMax (sd : SideId) (k : Fin 32) (a : FmtA) (s : State) : Answer := s.go sd (fun x => x.stitch k (.arith .max a))

/-- MIN (R112). -/
def execMin (sd : SideId) (k : Fin 32) (a : FmtA) (s : State) : Answer := s.go sd (fun x => x.stitch k (.arith .min a))

/-- ACC_RESERVED_FN (R112: Format A with FN 7). -/
def execAccReservedFn (sd : SideId) (k : Fin 32) (a : FmtA) (s : State) : Answer := s.go sd (fun x => x.stitch k (.arith .reserved a))

/-- ADA (R114). -/
def execAda (sd : SideId) (k : Fin 32) (l : LdaF) (s : State) : Answer := s.go sd (fun x => x.stitch k (.lda .add l))

/-- SBA (R114). -/
def execSba (sd : SideId) (k : Fin 32) (l : LdaF) (s : State) : Answer := s.go sd (fun x => x.stitch k (.lda .sub l))

/-- LDA (R114). -/
def execLda (sd : SideId) (k : Fin 32) (l : LdaF) (s : State) : Answer := s.go sd (fun x => x.stitch k (.lda .load l))

/-- LDAN (R114). -/
def execLdan (sd : SideId) (k : Fin 32) (l : LdaF) (s : State) : Answer := s.go sd (fun x => x.stitch k (.lda .neg l))

/-- LDW (R76). -/
def execLdw (sd : SideId) (k : Fin 32) (l : LdwF) (s : State) : Answer := s.go sd (fun x => x.stitch k (.ldw l))

/-- LD (R114). -/
def execLd (sd : SideId) (k : Fin 32) (l : LdF) (s : State) : Answer := s.go sd (fun x => x.stitch k (.ld l))

/-- ST (R114). -/
def execSt (sd : SideId) (k : Fin 32) (l : LdF) (s : State) : Answer := s.go sd (fun x => x.stitch k (.st l))

/-- STA (R73). -/
def execSta (sd : SideId) (k : Fin 32) (l : StaF) (s : State) : Answer := s.go sd (fun x => x.stitch k (.sta l))

/-- MVA (R73). -/
def execMva (sd : SideId) (k : Fin 32) (l : MvaF) (s : State) : Answer := s.go sd (fun x => x.stitch k (.mva l))

/-- DSTA (R74). -/
def execDsta (sd : SideId) (k : Fin 32) (l : DstaF) (s : State) : Answer := s.go sd (fun x => x.stitch k (.dsta l))

/-- DMVA (R74). -/
def execDmva (sd : SideId) (k : Fin 32) (l : DmvaF) (s : State) : Answer := s.go sd (fun x => x.stitch k (.dmva l))

/-- MOV (R114). -/
def execMov (sd : SideId) (k : Fin 32) (l : MovF) (s : State) : Answer := s.go sd (fun x => x.stitch k (.mov l))

/-- CMOV (R114). -/
def execCmov (sd : SideId) (k : Fin 32) (l : CmovF) (s : State) : Answer := s.go sd (fun x => x.stitch k (.cmov l))

/-- PSET (R116). -/
def execPset (sd : SideId) (k : Fin 32) (p : PsetF) (s : State) : Answer := s.go sd (fun x => x.stitch k (.pset p))

/-- PADD (R116). -/
def execPadd (sd : SideId) (k : Fin 32) (p : PaddF) (s : State) : Answer := s.go sd (fun x => x.stitch k (.padd p))

/-- PMOV (R116). -/
def execPmov (sd : SideId) (k : Fin 32) (p : PmovF) (s : State) : Answer := s.go sd (fun x => x.stitch k (.pmov p))

/-- LOOP (R117). -/
def execLoop (sd : SideId) (k : Fin 32) (p : LoopF) (s : State) : Answer := s.go sd (fun x => x.stitch k (.loop p))

/-- JMP (R118). -/
def execJmp (sd : SideId) (k : Fin 32) (p : JmpF) (s : State) : Answer := s.go sd (fun x => x.stitch k (.jmp p))

/-- EOR (R119). -/
def execEor (sd : SideId) (k : Fin 32) (s : State) : Answer := s.go sd (fun x => x.stitch k (.eor))

/-- NOP (R116). -/
def execNop (sd : SideId) (k : Fin 32) (s : State) : Answer := s.go sd (fun x => x.stitch k (.nop))

/-- CLRF (R116). -/
def execClrf (sd : SideId) (k : Fin 32) (mask : Fin 8) (s : State) : Answer := s.go sd (fun x => x.stitch k (.clrf mask))

/-- FLD (R120). -/
def execFld (sd : SideId) (k : Fin 32) (p : FarF) (s : State) : Answer := s.go sd (fun x => x.stitch k (.fld p))

/-- FST (R120). -/
def execFst (sd : SideId) (k : Fin 32) (p : FarF) (s : State) : Answer := s.go sd (fun x => x.stitch k (.fst p))

/-- RESERVED_OPCODE (R101). -/
def execReservedOpcode (sd : SideId) (k : Fin 32) (op : Fin 64) (s : State) : Answer := s.go sd (fun x => x.stitch k (.reserved op))

/-! ### Row work -/

/-- PUBLICATION_ANNOUNCE (R87, R28): the oldest announcement on its way to destination `d` arrives: 8 × core + region, or 256 for the
Cross feed page. -/
def execPublicationAnnounce (sd : SideId) (d : Fin 257) (s : State) : Answer :=
  s.go sd (fun x => if h : d.val < 256 then x.takeAnnounce ⟨d.val / 8, by omega⟩ (d.val % 8) else x.takeFeeds)

/-- C_REFILL_DONE (R85). -/
def execCRefillDone (sd : SideId) (k : Fin 32) (s : State) : Answer :=
  s.go sd (fun x => if x.alive && x.gateOpen k.val then x.refillDone k else x)

/-- EOR_RETIRE (R92, R94): `cycles` Stitch cycles after pulse receipt. -/
def execEorRetire (sd : SideId) (k : Fin 32) (cycles : Nat) (s : State) : Answer := s.go sd (fun x => x.eorRetire k cycles)

/-- FAR_ACCESS_COMPLETE (R83). -/
def execFarAccessComplete (sd : SideId) (k : Fin 32) (s : State) : Answer :=
  s.go sd (fun x => if x.alive && x.gateOpen k.val then x.farComplete k else x)

/-- BREAKPOINT_HALT (R98). -/
def execBreakpointHalt (sd : SideId) (k : Fin 32) (s : State) : Answer := s.go sd (fun x => x.breakpoint k)

/-- CROSS_ROW_COMPLETE (R130): `cycles` Cross cycles after pulse receipt. -/
def execCrossRowComplete (sd : SideId) (cycles : Nat) (s : State) : Answer := s.go sd (fun x => x.crossComplete cycles)

/-- PATCHBAY_REFILL_DONE (R159). -/
def execPatchbayRefillDone (sd : SideId) (s : State) : Answer :=
  s.go sd (fun x => if x.alive && x.gateOpen 33 then x.patchRefill else x)

/-- TAKE_ACK (R181). -/
def execTakeAck (sd : SideId) (u : Fin 40) (s : State) : Answer := s.go sd (fun x => if x.alive then x.takeAck u.val else x)

/-! ### Control registers -/

/-- RUN and HALT of a core's SK_CTRL as they stand. -/
def Side.ctrlWord (sd : Side) (k : Fin 32) : Nat := sd.get (F.SK_CTRL_RUN k) + 2 * sd.get (F.SK_CTRL_HALT k)

/-- CORE_RUN (R90): a write of SK_CTRL.RUN. -/
def execCoreRun (sd : SideId) (w : Writer) (k : Fin 32) (run : Bool) (s : State) : Answer :=
  s.answer (s.writeAs sd w (F.SK_CTRL_RUN k).off (run.toNat + 2 * (s.side sd).get (F.SK_CTRL_HALT k)) noEnv (fun x => x.writeRun k run))

/-- CORE_HALT (R98): a write of SK_CTRL.HALT. -/
def execCoreHalt (sd : SideId) (w : Writer) (k : Fin 32) (halt : Bool) (s : State) : Answer :=
  s.answer (s.writeAs sd w (F.SK_CTRL_RUN k).off ((s.side sd).get (F.SK_CTRL_RUN k) + 2 * halt.toNat) noEnv (fun x => x.writeHalt k halt))

/-- CORE_STEP (R98): a write of 1 to SK_CTRL.STEP. -/
def execCoreStep (sd : SideId) (w : Writer) (k : Fin 32) (s : State) : Answer :=
  s.answer (s.writeAs sd w (F.SK_CTRL_RUN k).off ((s.side sd).ctrlWord k + 4) noEnv (fun x => (if x.debugOn then x.set (F.SK_CTRL_STEP k) 1 else x).writeStep k))

/-- CORE_CLEAR_HWM (R46): a write of 1 to SK_CTRL.CLR_HWM. -/
def execCoreClearHwm (sd : SideId) (w : Writer) (k : Fin 32) (s : State) : Answer :=
  s.answer (s.writeAs sd w (F.SK_CTRL_RUN k).off ((s.side sd).ctrlWord k + 8) noEnv (fun x => (x.set (F.SK_CTRL_CLR_HWM k) 1).set (F.SK_CYC_HWM k) 0))

/-- CORE_CLEAR_FLAGS (R79): a write of 1 to SK_CTRL.CLR_FLAGS. -/
def execCoreClearFlags (sd : SideId) (w : Writer) (k : Fin 32) (s : State) : Answer :=
  s.answer (s.writeAs sd w (F.SK_CTRL_RUN k).off ((s.side sd).ctrlWord k + 16) noEnv (fun x => (x.set (F.SK_CTRL_CLR_FLAGS k) 1).writeClrFlags k))

end Sys2Proof.Machine
end

