-- ==== Sys2Proof/Machine/Dispatch.lean ====
section
/-!
DEFINITION. The meaning of each command: one arm for each constructor of `Instr`.
-/
namespace Sys2Proof.Machine

open Sys2Proof

def exec (i : Instr) (s : State) : Host.Outcome State Fault Refusal :=
  match i with
  | .registerWrite u word be v env => Sys2Proof.Machine.execRegisterWrite u word be v env s
  | .sideAccessTimeout sd off write e => Sys2Proof.Machine.execSideAccessTimeout sd off write e s
  | .apertureRead sd word n => Sys2Proof.Machine.execApertureRead sd word n s
  | .qspiRead0 a => Sys2Proof.Machine.execQspiRead0 a s
  | .qspiRead2 a n => Sys2Proof.Machine.execQspiRead2 a n s
  | .qspiWrite0 a data late => Sys2Proof.Machine.execQspiWrite0 a data late s
  | .qspiWrite2 a data late => Sys2Proof.Machine.execQspiWrite2 a data late s
  | .qspiStatus busy => Sys2Proof.Machine.execQspiStatus busy s
  | .qspiTransactionEnd env => Sys2Proof.Machine.execQspiTransactionEnd env s
  | .pcieD3hotEntry => Sys2Proof.Machine.execPcieD3hotEntry s
  | .pcieUnsupportedRequest => Sys2Proof.Machine.execPcieUnsupportedRequest s
  | .portDomainReset => Sys2Proof.Machine.execPortDomainReset s
  | .hostPowerOnReset => Sys2Proof.Machine.execHostPowerOnReset s
  | .hostResetRelease hostsel devid => Sys2Proof.Machine.execHostResetRelease hostsel devid s
  | .inboundSlotWrite sd slot off data => Sys2Proof.Machine.execInboundSlotWrite sd slot off data s
  | .twinPostWrite slot off data => Sys2Proof.Machine.execTwinPostWrite slot off data s
  | .inboundDoorbell sd v => Sys2Proof.Machine.execInboundDoorbell sd v s
  | .outboundDoorbell sd v => Sys2Proof.Machine.execOutboundDoorbell sd v s
  | .outboundConsumerWrite sd v => Sys2Proof.Machine.execOutboundConsumerWrite sd v s
  | .twinDoorbell v => Sys2Proof.Machine.execTwinDoorbell v s
  | .relayInsert => Sys2Proof.Machine.execRelayInsert s
  | .relayHoldTimeout d => Sys2Proof.Machine.execRelayHoldTimeout d s
  | .bootFlashClaim u => Sys2Proof.Machine.execBootFlashClaim u s
  | .bootFlashRelease u => Sys2Proof.Machine.execBootFlashRelease u s
  | .bootFlashGo u => Sys2Proof.Machine.execBootFlashGo u s
  | .bootFlashCommandDone data => Sys2Proof.Machine.execBootFlashCommandDone data s
  | .collectorSourceTrigger c k rises falls level => Sys2Proof.Machine.execCollectorSourceTrigger c k rises falls level s
  | .collectorRateWindowEnd c => Sys2Proof.Machine.execCollectorRateWindowEnd c s
  | .collectorClaim c => Sys2Proof.Machine.execCollectorClaim c s
  | .collectorEoi c v => Sys2Proof.Machine.execCollectorEoi c v s
  | .collectorSenseWrite c k sense => Sys2Proof.Machine.execCollectorSenseWrite c k sense s
  | .collectorClearCoalesced c k => Sys2Proof.Machine.execCollectorClearCoalesced c k s
  | .collectorStormClear c k => Sys2Proof.Machine.execCollectorStormClear c k s
  | .seamGrant sd met => Sys2Proof.Machine.execSeamGrant sd met s
  | .seamSeize sd met => Sys2Proof.Machine.execSeamSeize sd met s
  | .seamTransfer sd met => Sys2Proof.Machine.execSeamTransfer sd met s
  | .seamRelease sd met => Sys2Proof.Machine.execSeamRelease sd met s
  | .seamClear => Sys2Proof.Machine.execSeamClear s
  | .supplySwitchToBackup sd pair => Sys2Proof.Machine.execSupplySwitchToBackup sd pair s
  | .supplyReturnToMain sd pair => Sys2Proof.Machine.execSupplyReturnToMain sd pair s
  | .supplyBackupLow sd pair => Sys2Proof.Machine.execSupplyBackupLow sd pair s
  | .supplyLoss sd rail => Sys2Proof.Machine.execSupplyLoss sd rail s
  | .supplyReturn sd main backup => Sys2Proof.Machine.execSupplyReturn sd main backup s
  | .sideResetPin sd ns => Sys2Proof.Machine.execSideResetPin sd ns s
  | .pwResetWrite sd key => Sys2Proof.Machine.execPwResetWrite sd key s
  | .sideResetRelease sd oscw mtest => Sys2Proof.Machine.execSideResetRelease sd oscw mtest s
  | .jtagSideReset sd => Sys2Proof.Machine.execJtagSideReset sd s
  | .jtagLcRetire => Sys2Proof.Machine.execJtagLcRetire s
  | .startWaitExpiry sd => Sys2Proof.Machine.execStartWaitExpiry sd s
  | .xinCalibrationDone sd counts => Sys2Proof.Machine.execXinCalibrationDone sd counts s
  | .syspllLock sd => Sys2Proof.Machine.execSyspllLock sd s
  | .serpllLock sd n => Sys2Proof.Machine.execSerpllLock sd n s
  | .startupRetry sd cause => Sys2Proof.Machine.execStartupRetry sd cause s
  | .islandMuxSwitch m => Sys2Proof.Machine.execIslandMuxSwitch m s
  | .muxForcedSwitch sd obs => Sys2Proof.Machine.execMuxForcedSwitch sd obs s
  | .frogEntry sd => Sys2Proof.Machine.execFrogEntry sd s
  | .frogComplete sd => Sys2Proof.Machine.execFrogComplete sd s
  | .xinNoEdge sd => Sys2Proof.Machine.execXinNoEdge sd s
  | .xinWindowEnd sd count => Sys2Proof.Machine.execXinWindowEnd sd count s
  | .xinGlitch sd tenths => Sys2Proof.Machine.execXinGlitch sd tenths s
  | .syspllUnlock sd => Sys2Proof.Machine.execSyspllUnlock sd s
  | .gateSoftCloseRequest sd w gate => Sys2Proof.Machine.execGateSoftCloseRequest sd w gate s
  | .gateSoftClose sd gate reached => Sys2Proof.Machine.execGateSoftClose sd gate reached s
  | .gateSoftCloseTimeout sd gate => Sys2Proof.Machine.execGateSoftCloseTimeout sd gate s
  | .gateHardClose sd w gate reached => Sys2Proof.Machine.execGateHardClose sd w gate reached s
  | .gateOpen sd w gate => Sys2Proof.Machine.execGateOpen sd w gate s
  | .clkobsSelect sd w sel => Sys2Proof.Machine.execClkobsSelect sd w sel s
  | .clkobsDividerChange sd => Sys2Proof.Machine.execClkobsDividerChange sd s
  | .rowBoundary sd missed => Sys2Proof.Machine.execRowBoundary sd missed s
  | .rowPulseReceipt sd island e => Sys2Proof.Machine.execRowPulseReceipt sd island e s
  | .publicationAnnounce sd d => Sys2Proof.Machine.execPublicationAnnounce sd d s
  | .cRefillDone sd k => Sys2Proof.Machine.execCRefillDone sd k s
  | .tap sd k m => Sys2Proof.Machine.execTap sd k m s
  | .taps sd k m => Sys2Proof.Machine.execTaps sd k m s
  | .tapl sd k m => Sys2Proof.Machine.execTapl sd k m s
  | .tapn sd k m => Sys2Proof.Machine.execTapn sd k m s
  | .macmMac sd k m => Sys2Proof.Machine.execMacmMac sd k m s
  | .macmMsu sd k m => Sys2Proof.Machine.execMacmMsu sd k m s
  | .macmMpy sd k m => Sys2Proof.Machine.execMacmMpy sd k m s
  | .macmMpyn sd k m => Sys2Proof.Machine.execMacmMpyn sd k m s
  | .macrMac sd k r => Sys2Proof.Machine.execMacrMac sd k r s
  | .macrMsu sd k r => Sys2Proof.Machine.execMacrMsu sd k r s
  | .macrMpy sd k r => Sys2Proof.Machine.execMacrMpy sd k r s
  | .macrMpyn sd k r => Sys2Proof.Machine.execMacrMpyn sd k r s
  | .dmac sd k d => Sys2Proof.Machine.execDmac sd k d s
  | .dmsu sd k d => Sys2Proof.Machine.execDmsu sd k d s
  | .dmpy sd k d => Sys2Proof.Machine.execDmpy sd k d s
  | .dmpyn sd k d => Sys2Proof.Machine.execDmpyn sd k d s
  | .add sd k a => Sys2Proof.Machine.execAdd sd k a s
  | .sub sd k a => Sys2Proof.Machine.execSub sd k a s
  | .neg sd k a => Sys2Proof.Machine.execNeg sd k a s
  | .abs sd k a => Sys2Proof.Machine.execAbs sd k a s
  | .ash sd k a => Sys2Proof.Machine.execAsh sd k a s
  | .max sd k a => Sys2Proof.Machine.execMax sd k a s
  | .min sd k a => Sys2Proof.Machine.execMin sd k a s
  | .accReservedFn sd k a => Sys2Proof.Machine.execAccReservedFn sd k a s
  | .ada sd k l => Sys2Proof.Machine.execAda sd k l s
  | .sba sd k l => Sys2Proof.Machine.execSba sd k l s
  | .lda sd k l => Sys2Proof.Machine.execLda sd k l s
  | .ldan sd k l => Sys2Proof.Machine.execLdan sd k l s
  | .ldw sd k l => Sys2Proof.Machine.execLdw sd k l s
  | .ld sd k l => Sys2Proof.Machine.execLd sd k l s
  | .st sd k l => Sys2Proof.Machine.execSt sd k l s
  | .sta sd k l => Sys2Proof.Machine.execSta sd k l s
  | .mva sd k l => Sys2Proof.Machine.execMva sd k l s
  | .dsta sd k l => Sys2Proof.Machine.execDsta sd k l s
  | .dmva sd k l => Sys2Proof.Machine.execDmva sd k l s
  | .mov sd k l => Sys2Proof.Machine.execMov sd k l s
  | .cmov sd k l => Sys2Proof.Machine.execCmov sd k l s
  | .pset sd k p => Sys2Proof.Machine.execPset sd k p s
  | .padd sd k p => Sys2Proof.Machine.execPadd sd k p s
  | .pmov sd k p => Sys2Proof.Machine.execPmov sd k p s
  | .loop sd k p => Sys2Proof.Machine.execLoop sd k p s
  | .jmp sd k p => Sys2Proof.Machine.execJmp sd k p s
  | .eor sd k => Sys2Proof.Machine.execEor sd k s
  | .eorRetire sd k cycles => Sys2Proof.Machine.execEorRetire sd k cycles s
  | .nop sd k => Sys2Proof.Machine.execNop sd k s
  | .clrf sd k mask => Sys2Proof.Machine.execClrf sd k mask s
  | .fld sd k p => Sys2Proof.Machine.execFld sd k p s
  | .fst sd k p => Sys2Proof.Machine.execFst sd k p s
  | .farAccessComplete sd k => Sys2Proof.Machine.execFarAccessComplete sd k s
  | .reservedOpcode sd k op => Sys2Proof.Machine.execReservedOpcode sd k op s
  | .breakpointHalt sd k => Sys2Proof.Machine.execBreakpointHalt sd k s
  | .coreRun sd w k run => Sys2Proof.Machine.execCoreRun sd w k run s
  | .coreHalt sd w k halt => Sys2Proof.Machine.execCoreHalt sd w k halt s
  | .coreStep sd w k => Sys2Proof.Machine.execCoreStep sd w k s
  | .coreClearHwm sd w k => Sys2Proof.Machine.execCoreClearHwm sd w k s
  | .coreClearFlags sd w k => Sys2Proof.Machine.execCoreClearFlags sd w k s
  | .crossRowComplete sd cycles => Sys2Proof.Machine.execCrossRowComplete sd cycles s
  | .crossRun sd w run => Sys2Proof.Machine.execCrossRun sd w run s
  | .patchbayRefillDone sd => Sys2Proof.Machine.execPatchbayRefillDone sd s
  | .patchbayRun sd w run => Sys2Proof.Machine.execPatchbayRun sd w run s
  | .meterFrameCapture sd => Sys2Proof.Machine.execMeterFrameCapture sd s
  | .takeAck sd u => Sys2Proof.Machine.execTakeAck sd u s
  | .floatedTakeRowReceive sd => Sys2Proof.Machine.execFloatedTakeRowReceive sd s
  | .cueLoaderStart sd => Sys2Proof.Machine.execCueLoaderStart sd s
  | .cueLoaderDone sd => Sys2Proof.Machine.execCueLoaderDone sd s
  | .heartbeatReceive sd crcOk => Sys2Proof.Machine.execHeartbeatReceive sd crcOk s
  | .linkPathJudgement sd => Sys2Proof.Machine.execLinkPathJudgement sd s
  | .seamPathRead sd answered => Sys2Proof.Machine.execSeamPathRead sd answered s
  | .leadTokenPoll sd answered => Sys2Proof.Machine.execLeadTokenPoll sd answered s
  | .twinLiveRefresh sd w => Sys2Proof.Machine.execTwinLiveRefresh sd w s
  | .twinRefreshExpiry sd => Sys2Proof.Machine.execTwinRefreshExpiry sd s
  | .blendStreamReceive r => Sys2Proof.Machine.execBlendStreamReceive r s
  | .blendStreamMissing sd => Sys2Proof.Machine.execBlendStreamMissing sd s
  | .mirrorWrite sd page => Sys2Proof.Machine.execMirrorWrite sd page s
  | .rejoinPassComplete sd => Sys2Proof.Machine.execRejoinPassComplete sd s
  | .rejoinWaitEnd sd => Sys2Proof.Machine.execRejoinWaitEnd sd s
  | .candidateMeasurement sd c e freq last => Sys2Proof.Machine.execCandidateMeasurement sd c e freq last s
  | .candidateQualify sd c => Sys2Proof.Machine.execCandidateQualify sd c s
  | .candidateLoss sd c => Sys2Proof.Machine.execCandidateLoss sd c s
  | .settleTimeout sd => Sys2Proof.Machine.execSettleTimeout sd s
  | .holdoffExpiry sd => Sys2Proof.Machine.execHoldoffExpiry sd s
  | .measurementPush sd w c freq last => Sys2Proof.Machine.execMeasurementPush sd w c freq last s
  | .softwareWordLoad sd w hi => Sys2Proof.Machine.execSoftwareWordLoad sd w hi s
  | .pptWrite sd w v => Sys2Proof.Machine.execPptWrite sd w v s
  | .steeringDeferredApply sd => Sys2Proof.Machine.execSteeringDeferredApply sd s
  | .loopOpen sd w => Sys2Proof.Machine.execLoopOpen sd w s
  | .loopClose sd w => Sys2Proof.Machine.execLoopClose sd w s
  | .timeSnapshot sd w cycles => Sys2Proof.Machine.execTimeSnapshot sd w cycles s
  | .stepFromRef sd w => Sys2Proof.Machine.execStepFromRef sd w s
  | .stepSeconds sd w => Sys2Proof.Machine.execStepSeconds sd w s
  | .triggerFire sd => Sys2Proof.Machine.execTriggerFire sd s
  | .capturePop sd w => Sys2Proof.Machine.execCapturePop sd w s
  | .frameSyncCaptureArm sd w ports => Sys2Proof.Machine.execFrameSyncCaptureArm sd w ports s
  | .tdmHalfStart sd w h cycles => Sys2Proof.Machine.execTdmHalfStart sd w h cycles s
  | .tdmHalfStop sd w h => Sys2Proof.Machine.execTdmHalfStop sd w h s
  | .tdmHalfStopped sd h => Sys2Proof.Machine.execTdmHalfStopped sd h s
  | .tdmApply sd w h t => Sys2Proof.Machine.execTdmApply sd w h t s
  | .portShadowApply sd => Sys2Proof.Machine.execPortShadowApply sd s
  | .tdmReceiveFrame sd p fs last clock bits line => Sys2Proof.Machine.execTdmReceiveFrame sd p fs last clock bits line s
  | .tdmTransmitFrame sd p fs clock bits => Sys2Proof.Machine.execTdmTransmitFrame sd p fs clock bits s
  | .bridgeLock sd c ratio => Sys2Proof.Machine.execBridgeLock sd c ratio s
  | .bridgeUnlock sd c => Sys2Proof.Machine.execBridgeUnlock sd c s
  | .pdmSlip sd => Sys2Proof.Machine.execPdmSlip sd s
  | .wordClockEdge e => Sys2Proof.Machine.execWordClockEdge e s
  | .wordClockAbsent sd => Sys2Proof.Machine.execWordClockAbsent sd s
  | .gpioEdge sd g rising held t => Sys2Proof.Machine.execGpioEdge sd g rising held t s
  | .ethFrameReceive sd p fcsOk len t freq last f => Sys2Proof.Machine.execEthFrameReceive sd p fcsOk len t freq last f s
  | .ptpAnnounceTimeout sd p => Sys2Proof.Machine.execPtpAnnounceTimeout sd p s
  | .ethLinkUp sd p => Sys2Proof.Machine.execEthLinkUp sd p s
  | .ethLinkDown sd p => Sys2Proof.Machine.execEthLinkDown sd p s
  | .shemasHelloReceive sd l dev side link rate sees => Sys2Proof.Machine.execShemasHelloReceive sd l dev side link rate sees s
  | .rowFrameReceive sd l t f freq last => Sys2Proof.Machine.execRowFrameReceive sd l t f freq last s
  | .skeinMissed sd l skein => Sys2Proof.Machine.execSkeinMissed sd l skein s
  | .shemasLinkLoss sd l => Sys2Proof.Machine.execShemasLinkLoss sd l s
  | .controlCellResend sd l => Sys2Proof.Machine.execControlCellResend sd l s
  | .sysNop sd => Sys2Proof.Machine.execSysNop sd s
  | .sysInfo sd => Sys2Proof.Machine.execSysInfo sd s
  | .sysSessionOpen sd => Sys2Proof.Machine.execSysSessionOpen sd s
  | .sysSessionClose sd => Sys2Proof.Machine.execSysSessionClose sd s
  | .sysRun sd => Sys2Proof.Machine.execSysRun sd s
  | .sysBindOff sd => Sys2Proof.Machine.execSysBindOff sd s
  | .sysResetSide sd => Sys2Proof.Machine.execSysResetSide sd s
  | .patBegin sd flash => Sys2Proof.Machine.execPatBegin sd flash s
  | .patData sd => Sys2Proof.Machine.execPatData sd s
  | .patEnd sd => Sys2Proof.Machine.execPatEnd sd s
  | .patInfo sd => Sys2Proof.Machine.execPatInfo sd s
  | .patLatency sd => Sys2Proof.Machine.execPatLatency sd s
  | .objWrite sd => Sys2Proof.Machine.execObjWrite sd s
  | .objDescribe sd => Sys2Proof.Machine.execObjDescribe sd s
  | .objClearHwm sd => Sys2Proof.Machine.execObjClearHwm sd s
  | .xpStage sd => Sys2Proof.Machine.execXpStage sd s
  | .xpStageRow sd => Sys2Proof.Machine.execXpStageRow sd s
  | .xpDesc sd => Sys2Proof.Machine.execXpDesc sd s
  | .takePost sd => Sys2Proof.Machine.execTakePost sd s
  | .takeCancel sd => Sys2Proof.Machine.execTakeCancel sd s
  | .cueBegin sd => Sys2Proof.Machine.execCueBegin sd s
  | .cueAdd sd => Sys2Proof.Machine.execCueAdd sd s
  | .cueEnd sd => Sys2Proof.Machine.execCueEnd sd s
  | .cueArm sd => Sys2Proof.Machine.execCueArm sd s
  | .cueDisarm sd => Sys2Proof.Machine.execCueDisarm sd s
  | .cueFire sd => Sys2Proof.Machine.execCueFire sd s
  | .cueAbort sd => Sys2Proof.Machine.execCueAbort sd s
  | .cueClear sd => Sys2Proof.Machine.execCueClear sd s
  | .cueMargin sd => Sys2Proof.Machine.execCueMargin sd s
  | .mtrPoint sd => Sys2Proof.Machine.execMtrPoint sd s
  | .mtrReset sd => Sys2Proof.Machine.execMtrReset sd s
  | .mtrGroup sd => Sys2Proof.Machine.execMtrGroup sd s
  | .clkCand sd => Sys2Proof.Machine.execClkCand sd s
  | .clkLoop sd => Sys2Proof.Machine.execClkLoop sd s
  | .clkOpen sd => Sys2Proof.Machine.execClkOpen sd s
  | .clkFw sd => Sys2Proof.Machine.execClkFw sd s
  | .clkPpt sd => Sys2Proof.Machine.execClkPpt sd s
  | .clkPush sd freq last => Sys2Proof.Machine.execClkPush sd freq last s
  | .clkObs sd => Sys2Proof.Machine.execClkObs sd s
  | .timeSnap sd cycles => Sys2Proof.Machine.execTimeSnap sd cycles s
  | .timeStep sd => Sys2Proof.Machine.execTimeStep sd s
  | .timeTrigger sd => Sys2Proof.Machine.execTimeTrigger sd s
  | .timeCaptureSet sd => Sys2Proof.Machine.execTimeCaptureSet sd s
  | .timePhy sd => Sys2Proof.Machine.execTimePhy sd s
  | .timeAsym sd => Sys2Proof.Machine.execTimeAsym sd s
  | .timeUtc sd => Sys2Proof.Machine.execTimeUtc sd s
  | .portHalfCfg sd => Sys2Proof.Machine.execPortHalfCfg sd s
  | .portHalfStart sd cycles => Sys2Proof.Machine.execPortHalfStart sd cycles s
  | .portHalfStop sd => Sys2Proof.Machine.execPortHalfStop sd s
  | .portApply sd cycles => Sys2Proof.Machine.execPortApply sd cycles s
  | .portPdm sd => Sys2Proof.Machine.execPortPdm sd s
  | .portWclk sd => Sys2Proof.Machine.execPortWclk sd s
  | .portGpio sd => Sys2Proof.Machine.execPortGpio sd s
  | .portBridge sd => Sys2Proof.Machine.execPortBridge sd s
  | .netPort sd => Sys2Proof.Machine.execNetPort sd s
  | .netFlowSet sd => Sys2Proof.Machine.execNetFlowSet sd s
  | .netFlowTake sd => Sys2Proof.Machine.execNetFlowTake sd s
  | .netFlowEn sd => Sys2Proof.Machine.execNetFlowEn sd s
  | .netChstatus sd => Sys2Proof.Machine.execNetChstatus sd s
  | .netBuffer sd => Sys2Proof.Machine.execNetBuffer sd s
  | .linkSkein sd => Sys2Proof.Machine.execLinkSkein sd s
  | .linkAsym sd => Sys2Proof.Machine.execLinkAsym sd s
  | .linkRoute sd => Sys2Proof.Machine.execLinkRoute sd s
  | .linkRelay sd => Sys2Proof.Machine.execLinkRelay sd s
  | .twinStart sd => Sys2Proof.Machine.execTwinStart sd s
  | .twinCable sd => Sys2Proof.Machine.execTwinCable sd s
  | .twinBlend sd => Sys2Proof.Machine.execTwinBlend sd s
  | .twinRework sd => Sys2Proof.Machine.execTwinRework sd s
  | .twinRejoin sd => Sys2Proof.Machine.execTwinRejoin sd s
  | .twinSplit sd => Sys2Proof.Machine.execTwinSplit sd s
  | .twinJoin sd => Sys2Proof.Machine.execTwinJoin sd s
  | .twinConfig sd => Sys2Proof.Machine.execTwinConfig sd s
  | .memBank sd => Sys2Proof.Machine.execMemBank sd s
  | .memSwatch sd => Sys2Proof.Machine.execMemSwatch sd s
  | .memEccClear sd => Sys2Proof.Machine.execMemEccClear sd s
  | .dmaLend sd => Sys2Proof.Machine.execDmaLend sd s
  | .dmaReturn sd => Sys2Proof.Machine.execDmaReturn sd s
  | .dmaResume sd => Sys2Proof.Machine.execDmaResume sd s
  | .dmaCopy sd => Sys2Proof.Machine.execDmaCopy sd s
  | .readObject sd => Sys2Proof.Machine.execReadObject sd s
  | .readRange sd => Sys2Proof.Machine.execReadRange sd s
  | .readList sd => Sys2Proof.Machine.execReadList sd s
  | .evtAck sd => Sys2Proof.Machine.execEvtAck sd s
  | .evtAttn sd => Sys2Proof.Machine.execEvtAttn sd s
  | .evtLost sd => Sys2Proof.Machine.execEvtLost sd s
  | .fabricRequest sd q upset env => Sys2Proof.Machine.execFabricRequest sd q upset env s
  | .fabricResponse sd m id stalled env => Sys2Proof.Machine.execFabricResponse sd m id stalled env s
  | .masterReset sd m burst env => Sys2Proof.Machine.execMasterReset sd m burst env s
  | .dmaRequest sd line src len => Sys2Proof.Machine.execDmaRequest sd line src len s
  | .dmaSoftwareRequest sd w c => Sys2Proof.Machine.execDmaSoftwareRequest sd w c s
  | .dmaJobStart sd => Sys2Proof.Machine.execDmaJobStart sd s
  | .dmaJobComplete sd => Sys2Proof.Machine.execDmaJobComplete sd s
  | .dmaJobAbandon sd => Sys2Proof.Machine.execDmaJobAbandon sd s
  | .dmaChannelPark sd c => Sys2Proof.Machine.execDmaChannelPark sd c s
  | .dmaRecordConsume sd w c v => Sys2Proof.Machine.execDmaRecordConsume sd w c v s
  | .bankStateWrite sd w b v => Sys2Proof.Machine.execBankStateWrite sd w b v s
  | .bankStateChangeDone sd b => Sys2Proof.Machine.execBankStateChangeDone sd b s
  | .swatchGo sd w bank all kind repair => Sys2Proof.Machine.execSwatchGo sd w bank all kind repair s
  | .swatchMacroDone sd m fails => Sys2Proof.Machine.execSwatchMacroDone sd m fails s
  | .swatchRunDone sd => Sys2Proof.Machine.execSwatchRunDone sd s
  | .tamperAssert sd ns => Sys2Proof.Machine.execTamperAssert sd ns s
  | .castOnEntry sd directory => Sys2Proof.Machine.execCastOnEntry sd directory s
  | .firmwareImageReadDone sd image => Sys2Proof.Machine.execFirmwareImageReadDone sd image s
  | .bootPatternLoad sd image => Sys2Proof.Machine.execBootPatternLoad sd image s
  | .watchdogEnable sd w => Sys2Proof.Machine.execWatchdogEnable sd w s
  | .watchdogKick sd w => Sys2Proof.Machine.execWatchdogKick sd w s
  | .watchdogExpiry sd => Sys2Proof.Machine.execWatchdogExpiry sd s
  | .firmwareFatalFault sd => Sys2Proof.Machine.execFirmwareFatalFault sd s
  | .lifeCycleChangeRequest sd target key => Sys2Proof.Machine.execLifeCycleChangeRequest sd target key s
  | .lifeCycleChangeDone => Sys2Proof.Machine.execLifeCycleChangeDone s
  | .pcieConfigWrite bme msi d0 => Sys2Proof.Machine.execPcieConfigWrite bme msi d0 s
  | .pcieLinkDown link => Sys2Proof.Machine.execPcieLinkDown link s
  | .tamperRelease sd => Sys2Proof.Machine.execTamperRelease sd s
  | .ethFrameTransmit sd p t => Sys2Proof.Machine.execEthFrameTransmit sd p t s
  | .arpRefresh sd => Sys2Proof.Machine.execArpRefresh sd s
  | .twinStepPlanReceive sd => Sys2Proof.Machine.execTwinStepPlanReceive sd s

end Sys2Proof.Machine
end

