-- ==== Sys2Proof/Machine/Step.lean ====
section
/-!
DEFINITION. One step of the block: the command at the front of the queue has its effect; with an empty queue the block idles.
-/
namespace Sys2Proof.Machine

open Sys2Proof

/-- A state with the queue's front taken off. -/
def State.rest (s : State) (cs : List Instr) : State := { s with pending := cs }

/-- One step. An empty queue changes nothing (log entry 60). -/
def step (s : State) : Host.Outcome State Fault Refusal :=
  match s.pending with
  | [] => .next s
  | c :: cs => exec c (s.rest cs)

/-- The state with the command that a word spells put at the front of its queue: the table spells none. -/
def State.withFetchWord (s : State) (nbits w : Nat) : State :=
  match decodeTableWord nbits w with
  | some c => { s with pending := c :: s.pending }
  | none => s

end Sys2Proof.Machine
end

