-- ==== Sys2Proof/Safety.lean ====
section
/-!
DEFINITION. The terms that claims use: a command that completes, the frame of a command (what it leaves as it was), and what taking an
Ibelle message leaves. The host Collector follows every change (R392), so a frame leaves out its sources and the MSIs it sends where
it says so.
-/
namespace Sys2Proof.Machine

open Sys2Proof

/-- Everything of the host region but what the Collector's following may change. -/
def HostRegion.bare (h : HostRegion) (c : Collector) : HostRegion := { h with col := c, msis := 0 }

/-- Two host regions that differ at most in the listed register fields, and in what the Collector's following changes. -/
def HostRegion.FieldsOnly (h k : HostRegion) (l : List Fld) : Prop :=
  { k.bare h.col with regs := h.regs } = h.bare h.col ∧ ∀ f : Fld, (∀ g ∈ l, f.key ≠ g.key) → k.get f = h.get f

/-- Two Sides that differ at most in the listed register fields: memory, cores and everything else is the same. -/
def Side.FieldsOnly (x y : Side) (l : List Fld) : Prop :=
  { y with regs := x.regs } = x ∧ ∀ f : Fld, (∀ g ∈ l, f.key ≠ g.key) → y.get f = x.get f

/-- The same, but for the mode and for the messages and events that firmware holds. -/
def Side.FieldsModeEvents (x y : Side) (l : List Fld) : Prop :=
  { y with regs := x.regs, mode := x.mode, fw := x.fw } = x ∧
    ∀ f : Fld, (∀ g ∈ l, f.key ≠ g.key) → y.get f = x.get f

/-- The Sides and the queue are as they were. -/
def SidesKept (s t : State) : Prop := t.side0 = s.side0 ∧ t.side1 = s.side1 ∧ t.pending = s.pending

/-- The host region is as it was, but for what the Collector's following changes. -/
def HostKept (s t : State) : Prop := t.host.bare s.host.col = s.host.bare s.host.col

/-- Everything outside Side `sd` is as it was. -/
def Elsewhere (s t : State) (sd : SideId) : Prop := t.side sd.other = s.side sd.other ∧ HostKept s t ∧ t.pending = s.pending

/-- Nothing changes, but for what the Collector's following changes. -/
def Unchanged (s t : State) : Prop := SidesKept s t ∧ HostKept s t ∧ t.fresh = s.fresh

/-- Every byte of a Side's memory reads as before. -/
def Side.MemoryKept (x y : Side) : Prop := ∀ a, y.byte a = x.byte a

/-- The level sources of the host Collector (Table HP-3) stand at their conditions, unless the host region is held in power-on
reset. -/
def LevelsFollow (s : State) : Prop :=
  s.host.held = false → ∀ k ∈ [1, 2, 3, 5, 6, 8, 19, 20, 27, 28], (s.host.col.src true k).raw = s.colLevel k

/-- Command `c` answers a next state in which Side `sd` is as `P` says and everything outside it as it was. -/
def Completes (s : State) (sd : SideId) (c : Instr) (P : Side → Prop) : Prop :=
  ∃ t, exec c s = .next t ∧ Elsewhere s t sd ∧ P (t.side sd)

/-- Bit `k` of field `f` is `b`, and the field's other bits are as they were. -/
def Side.BitIs (x y : Side) (f : Fld) (k : Nat) (b : Bool) : Prop :=
  y.bit f k = b ∧ ∀ j, j < f.len → j ≠ k → y.bit f j = x.bit f j

/-- Firmware made one event (R416, R417) and did nothing else. -/
def Side.Told (x y : Side) (code unit : Nat) (args : List Byte) : Prop := y.fw = (x.raise code unit args).fw

/-- What a reset leaves of a Side (R467): mode `m`, its memory bytes and fuses, the fields that a reset leaves, and everything else at
its reset value. -/
def Side.ResetTo (x y : Side) (m : Mode) : Prop :=
  y.mode = m ∧ y.mem = x.mem ∧ y.upsets = x.upsets ∧ y.cores = Side.reset.cores ∧ y.fw = Firmware.reset ∧ y.takes = TakeUnit.reset ∧
  y.twin = Twin.reset ∧ y.tm = Tension.reset ∧ y.row = 0 ∧ y.counter = 0 ∧ y.clk.stage = 0 ∧
  (∀ f : Fld, survivesReset f.key = true → f.key ≠ F.MM_SEC_STAT_TAMPERED.key → y.get f = x.get f) ∧
  y.get F.MM_SEC_STAT_TAMPERED = (if x.flag F.MM_SEC_STAT_TAMPER_N then 0 else x.get F.MM_SEC_STAT_TAMPERED) ∧
  ∀ f : Fld, survivesReset f.key = false → f.key ≠ F.MM_SWATCH_STAT_RESULT.key → f.key ≠ F.MM_SEC_STAT_TAMPERED.key →
    y.get f = Side.reset.get f

/-- The registers and the mode after a change of mode to `m` (R469). -/
def Side.Moved (x y : Side) (m : Mode) : Prop :=
  y.mode = m ∧ y.get F.PW_MODE_PREV = x.mode.code ∧ y.get64 F.PW_MODE_ROW_LO F.PW_MODE_ROW_HI = x.row % 2 ^ 64

/-- Every core has left its row, nothing of the row's publications waits, and no Shemas link carries anything (R268, R474, R360). -/
def Side.RowStopped (y : Side) : Prop :=
  (∀ k : Fin 32, y.cores[k].inRow = false ∧ y.cores[k].eorIssued = false) ∧ y.cross.inRow = false ∧ y.pages.unfinished = [] ∧
  ∀ l, l < 4 → y.get (F.SH_LINK_STATE l) = 0

/-- The source that a CLAIM of a Collector returns (R395, R396): it qualifies, and no other qualifying source has a higher PRIO, or the
same PRIO and a lower number. -/
def Collector.Picks (c : Collector) (host : Bool) (k : Nat) : Prop :=
  (c.src host k).qualifies c.rp = true ∧ ∀ j, (c.src host j).qualifies c.rp = true →
    (c.src host j).prio < (c.src host k).prio ∨ ((c.src host j).prio = (c.src host k).prio ∧ k ≤ j)

/-! ### Stitch cores -/

/-- Core `k` of the Side issues `op` at its pc: it takes part in the row, is neither halted nor at a breakpoint, and waits for nothing;
no word of the Side's memory carries an error mark. -/
def Side.Issues (x : Side) (k : Fin 32) (op : StOp) : Prop :=
  x.coreActive k = true ∧ (x.cores[k]).halted = false ∧ x.brkHit k = false ∧ x.waitsIn k op = false ∧ (x.cores[k]).waitsFar op = false ∧
  x.upsets = []

/-- A core that went on to `c'` after an instruction: SK_PC keeps the instruction's address, and no wait is left. -/
def Core.went (c c' : Core) : Core := { c' with lastPc := c.pc, stallOn := [], farWait := false, brkPass := false }

/-- A core after an instruction that leaves the registers `r` and runs the end test of the loops (R117). -/
def Core.issued (c : Core) (r : StitchRegs) : Core := c.went ({ c with r := r } : Core).advance

/-- The registers of a core, but with the loops as `r` has them. -/
def Core.regsBut (c : Core) (r : StitchRegs) : StitchRegs := { c.r with lc := r.lc, inner := r.inner, stack := r.stack }

/-- Only core `k` of the Side has changed, and it is now `c`. -/
def Side.CoreIs (x y : Side) (k : Fin 32) (c : Core) : Prop := y.cores[k] = c ∧ (∀ j : Fin 32, j ≠ k → y.cores[j] = x.cores[j]) ∧
  { y with cores := x.cores } = x

/-- The lanes among the enabled ones whose exact result lies outside the accumulator's range (R70). -/
def clampedLanes (le : Fin 16) (v : Fin 4 → Int) : BitVec 4 := hitLanes le (fun l => decide (v l < -(2 ^ 55) ∨ 2 ^ 55 - 1 < v l))

/-- Accumulator `acc` takes the exact values `v` in its enabled lanes, clamped, and OVF its clamped lanes (R70); the other accumulators
stay. -/
def StitchRegs.Accumulated (r q : StitchRegs) (le : Fin 16) (acc : Fin 4) (v : Fin 4 → Int) : Prop :=
  (∀ l : Fin 4, (q.a[acc][l]).toInt = if laneOn le l then max (-(2 ^ 55)) (min (2 ^ 55 - 1) (v l)) else (r.a[acc][l]).toInt) ∧
  (∀ b : Fin 4, b ≠ acc → q.a[b] = r.a[b]) ∧ q.ovf = r.ovf ||| clampedLanes le v

/-- Core `k` issued an accumulating instruction: it holds the registers `q`, its clamped lanes entered the overflow record (R71), and
memory apart nothing else changed. -/
def Side.Accumulates (x y : Side) (k : Fin 32) (q : StitchRegs) (lanes : BitVec 4) : Prop :=
  y.cores[k] = (x.cores[k]).issued q ∧ (∀ j : Fin 32, j ≠ k → y.cores[j] = x.cores[j]) ∧
  { y with cores := x.cores, mem := x.mem } = x.recordOvf k.val (x.cores[k]).pc lanes

/-- The enabled lanes of the vector word at `addr` hold `w`, and every other byte of memory is as it was. -/
def Side.Stored (x y : Side) (addr : Nat) (le : Fin 16) (w : Fin 4 → BitVec 32) : Prop :=
  (∀ (l : Fin 4) (i : Nat), laneOn le l = true → i < 4 → y.byte (addr + 4 * l.val + i) = (w l).extractLsb' (8 * i) 8) ∧
  ∀ a, (∀ (l : Fin 4) (i : Nat), laneOn le l = true → i < 4 → a ≠ addr + 4 * l.val + i) → y.byte a = x.byte a

/-- The enabled lanes of a register take `new`, the others keep `old`. -/
def LanesTake {w : Nat} (le : Fin 16) (old : Lanes (BitVec w)) (now : Lanes (BitVec w)) (new : Fin 4 → BitVec w) : Prop :=
  ∀ l : Fin 4, now[l] = if laneOn le l then new l else old[l]

/-- Z and N of the enabled lanes tell whether `v` is zero or negative (R115); the others stay. -/
def StitchRegs.FlagsOf (r q : StitchRegs) (le : Fin 16) (v : Fin 4 → Int) : Prop :=
  ∀ l : Fin 4, q.z.getLsbD l = (if laneOn le l then decide (v l = 0) else r.z.getLsbD l) ∧
    q.n.getLsbD l = (if laneOn le l then decide (v l < 0) else r.n.getLsbD l)

/-- A write by `w` of the register at `off` of Side `sd`'s window is carried out: the Side takes accesses, the gate of the register's
island is open and not closing softly, and the host's port is open and the life cycle Maker or Open where the host writes (R33, R95,
R258, R259). -/
def State.Writes (s : State) (sd : SideId) (w : Writer) (off : Nat) : Prop :=
  (s.side sd).alive = true ∧ (w = .host → s.host.open = true ∧ (s.side sd).fuses.lc ≤ 1) ∧
  (blockGate off).all (fun k => (s.side sd).gateOpen k && !(s.side sd).clk.closing.testBit k) = true

/-- Only core `k` of the Side and the listed fields have changed, and the core is now `c`. -/
def Side.CoreAnd (x y : Side) (k : Fin 32) (c : Core) (l : List Fld) : Prop :=
  y.cores[k] = c ∧ (∀ j : Fin 32, j ≠ k → y.cores[j] = x.cores[j]) ∧ x.FieldsOnly { y with cores := x.cores } l

/-- A Side that is as `P` says once an island has taken its pulse, and in which the Gauge work that waited for that island then goes on
(R28). -/
def Side.ThenGauge (y : Side) (P : Side → Prop) : Prop := ∃ z, P z ∧ y = z.gaugeTry

/-- Command `c` leads to a state that is as `P` says, in which the islands of Side `sd` that waited for a stream row of a Blend cable then take
their pulses up (R28, R234), and answers what that comes to. -/
def ThenBlends (s : State) (sd : SideId) (c : Instr) (P : State → Prop) : Prop :=
  ∃ u t, exec c s = .next t ∧ s.answer (u.blendGo sd) = .next t ∧ P u

/-- The fields of the eight regions of core `k` that an announcement or a row pulse changes. -/
def regionFields (k : Nat) : List Fld :=
  (List.range 8).flatMap (fun g => [F.SK_REG_PAGE k g, F.SK_REG_HELD k g, F.SK_REG_IDLE k g, F.SK_REG_ROW k g, F.SK_REG_READY k g])

/-- The bytes of `dst` to `dst + len` equal those of `src` on, but where `skip` names the offset; every other byte is as it was. -/
def Side.Copied (x y : Side) (src dst len : Nat) (skip : Nat → Bool) : Prop :=
  (∀ o, o < len → y.byte (dst + o) = if skip o then x.byte (dst + o) else x.byte (src + o)) ∧
  ∀ a, (a < dst ∨ dst + len ≤ a) → y.byte a = x.byte a

/-- The Side has entered Halt from another mode by `cause` (R474): mode, record and row work; the cause is recorded unless one is
recorded already. -/
def Side.Halted (x y : Side) (cause : Nat) : Prop :=
  y.mode = .halt ∧ y.RowStopped ∧ y.get F.PW_HALT_VALID = (if x.flag F.PW_HALT_VALID then x.get F.PW_HALT_VALID else 1) ∧
  (x.flag F.PW_HALT_VALID = false → y.get F.PW_HALT_CAUSE = cause) ∧
  (x.flag F.PW_HALT_VALID = true → y.get F.PW_HALT_MULTI = 1 ∧ y.get F.PW_HALT_CAUSE = x.get F.PW_HALT_CAUSE) ∧
  (4 ≤ x.mode.code → y.get F.PW_MODE_PREV = x.mode.code) ∧ y.mem = x.mem ∧ y.takes = x.takes ∧ y.row = x.row ∧ y.fuses = x.fuses

/-- The bytes from `a` on, `n` of them, are zero, and every other byte is as it was. -/
def Side.Zeroed (x y : Side) (a n : Nat) : Prop :=
  (∀ o, o < n → y.byte (a + o) = 0) ∧ ∀ b, (b < a ∨ a + n ≤ b) → y.byte b = x.byte b

/-- The `n` bytes from `a` are X or C memory of one core that plain fabric writes reach: offsets 0x20000 to 0x60000 of its window, its
gate open and not closing softly, its bank On and not under test, and no word of the Side carries an error mark. -/
def Side.PlainBytes (x : Side) (a n : Nat) : Prop :=
  let k := (a - 0x06000000) / 0x80000
  0x06000000 ≤ a ∧ a < 0x07000000 ∧ 0x20000 ≤ a % 0x80000 ∧ a % 0x80000 + n ≤ 0x60000 ∧ x.gateOpen k = true ∧
  x.clk.closing.testBit k = false ∧
  x.get (F.MM_BANK_CUR (12 + k)) = 0 ∧ x.get (F.MM_BANK_TESTING (12 + k)) = 0 ∧ x.upsets = []

/-- The bytes from `a` on are `data`, and every other byte is as it was. -/
def Side.Wrote (x y : Side) (a : Nat) (data : List Byte) : Prop :=
  (∀ i, i < data.length → some (y.byte (a + i)) = data[i]?) ∧ ∀ b, (b < a ∨ a + data.length ≤ b) → y.byte b = x.byte b

/-- Half `h` is now `c` and the other halves are as they were; the listed fields apart, nothing else of the Side has changed. -/
def Side.HalfIs (x y : Side) (h : Fin 32) (c : Half) (l : List Fld) : Prop :=
  y.half h = c ∧ (∀ j : Fin 32, j ≠ h → y.half j = x.half j) ∧
  x.FieldsOnly { y with ports := { y.ports with halves := x.ports.halves } } l

/-- The bits of a word after `new` has entered the bits that `takes` picks. -/
def BitsFrom (old new now : Nat) (takes : Nat → Bool) : Prop := ∀ j, j < 32 → now.testBit j = if takes j then new.testBit j else old.testBit j

/-- Every byte of memory outside the `n` bytes from `a` reads as before. -/
def Side.KeptOutside (x y : Side) (a n : Nat) : Prop := ∀ b, (b < a ∨ a + n ≤ b) → y.byte b = x.byte b

/-! ### Ibelle messages -/

/-- The Side, class and opcode of the message (Table IB-5) that a command takes; none for a command that takes no message. -/
def messageCode : Instr → Option (SideId × Nat × Nat)
  | .sysNop sd => some (sd, 0x01, 1)
  | .sysInfo sd => some (sd, 0x01, 2)
  | .sysSessionOpen sd => some (sd, 0x01, 3)
  | .sysSessionClose sd => some (sd, 0x01, 4)
  | .sysRun sd => some (sd, 0x01, 5)
  | .sysBindOff sd => some (sd, 0x01, 6)
  | .sysResetSide sd => some (sd, 0x01, 7)
  | .patBegin sd _ => some (sd, 0x02, 1)
  | .patData sd => some (sd, 0x02, 2)
  | .patEnd sd => some (sd, 0x02, 3)
  | .patInfo sd => some (sd, 0x02, 4)
  | .patLatency sd => some (sd, 0x02, 5)
  | .objWrite sd => some (sd, 0x03, 1)
  | .objDescribe sd => some (sd, 0x03, 2)
  | .objClearHwm sd => some (sd, 0x03, 3)
  | .xpStage sd => some (sd, 0x04, 1)
  | .xpStageRow sd => some (sd, 0x04, 2)
  | .xpDesc sd => some (sd, 0x04, 3)
  | .takePost sd => some (sd, 0x05, 1)
  | .takeCancel sd => some (sd, 0x05, 2)
  | .cueBegin sd => some (sd, 0x06, 1)
  | .cueAdd sd => some (sd, 0x06, 2)
  | .cueEnd sd => some (sd, 0x06, 3)
  | .cueArm sd => some (sd, 0x06, 4)
  | .cueDisarm sd => some (sd, 0x06, 5)
  | .cueFire sd => some (sd, 0x06, 6)
  | .cueAbort sd => some (sd, 0x06, 7)
  | .cueClear sd => some (sd, 0x06, 8)
  | .cueMargin sd => some (sd, 0x06, 9)
  | .mtrPoint sd => some (sd, 0x07, 1)
  | .mtrReset sd => some (sd, 0x07, 2)
  | .mtrGroup sd => some (sd, 0x07, 3)
  | .clkCand sd => some (sd, 0x08, 1)
  | .clkLoop sd => some (sd, 0x08, 2)
  | .clkOpen sd => some (sd, 0x08, 3)
  | .clkFw sd => some (sd, 0x08, 4)
  | .clkPpt sd => some (sd, 0x08, 5)
  | .clkPush sd _ _ => some (sd, 0x08, 6)
  | .clkObs sd => some (sd, 0x08, 7)
  | .timeSnap sd _ => some (sd, 0x09, 1)
  | .timeStep sd => some (sd, 0x09, 2)
  | .timeTrigger sd => some (sd, 0x09, 3)
  | .timeCaptureSet sd => some (sd, 0x09, 4)
  | .timePhy sd => some (sd, 0x09, 5)
  | .timeAsym sd => some (sd, 0x09, 6)
  | .timeUtc sd => some (sd, 0x09, 7)
  | .portHalfCfg sd => some (sd, 0x0A, 1)
  | .portHalfStart sd _ => some (sd, 0x0A, 2)
  | .portHalfStop sd => some (sd, 0x0A, 3)
  | .portApply sd _ => some (sd, 0x0A, 4)
  | .portPdm sd => some (sd, 0x0A, 5)
  | .portWclk sd => some (sd, 0x0A, 6)
  | .portGpio sd => some (sd, 0x0A, 7)
  | .portBridge sd => some (sd, 0x0A, 8)
  | .netPort sd => some (sd, 0x0B, 1)
  | .netFlowSet sd => some (sd, 0x0B, 2)
  | .netFlowTake sd => some (sd, 0x0B, 3)
  | .netFlowEn sd => some (sd, 0x0B, 4)
  | .netChstatus sd => some (sd, 0x0B, 5)
  | .netBuffer sd => some (sd, 0x0B, 6)
  | .linkSkein sd => some (sd, 0x0C, 1)
  | .linkAsym sd => some (sd, 0x0C, 2)
  | .linkRoute sd => some (sd, 0x0C, 3)
  | .linkRelay sd => some (sd, 0x0C, 4)
  | .twinStart sd => some (sd, 0x0D, 1)
  | .twinCable sd => some (sd, 0x0D, 2)
  | .twinBlend sd => some (sd, 0x0D, 3)
  | .twinRework sd => some (sd, 0x0D, 4)
  | .twinRejoin sd => some (sd, 0x0D, 5)
  | .twinSplit sd => some (sd, 0x0D, 6)
  | .twinJoin sd => some (sd, 0x0D, 7)
  | .twinConfig sd => some (sd, 0x0D, 8)
  | .memBank sd => some (sd, 0x0E, 1)
  | .memSwatch sd => some (sd, 0x0E, 2)
  | .memEccClear sd => some (sd, 0x0E, 3)
  | .dmaLend sd => some (sd, 0x0F, 1)
  | .dmaReturn sd => some (sd, 0x0F, 2)
  | .dmaResume sd => some (sd, 0x0F, 3)
  | .dmaCopy sd => some (sd, 0x0F, 4)
  | .readObject sd => some (sd, 0x10, 1)
  | .readRange sd => some (sd, 0x10, 2)
  | .readList sd => some (sd, 0x10, 3)
  | .evtAck sd => some (sd, 0x11, 1)
  | .evtAttn sd => some (sd, 0x11, 2)
  | .evtLost sd => some (sd, 0x11, 3)
  | _ => none

/-- The message at the front of a Side's inbound ring, its route tag, and the relay's route that brought it. -/
def State.front (s : State) (sd : SideId) : Msg := msgOf ((s.ringFront sd).elim [] Prod.fst)
def State.frontTag (s : State) (sd : SideId) : Nat := (s.ringFront sd).elim 0 Prod.snd
def State.frontVia (s : State) (sd : SideId) : Option Nat :=
  if s.frontTag sd % 4 = 2 then some (s.frontTag sd / 4) else none

/-- Firmware of the Side takes a message of class `cls` and opcode `op` that passes the checks of Table IB-2. -/
def State.Takes (s : State) (sd : SideId) (cls op : Nat) : Prop :=
  s.ringFront sd ≠ none ∧ (s.side sd).serves = true ∧ (s.front sd).version = 2 ∧
  (s.front sd).devid % 64 = s.host.get F.HP_ID_DEVID ∧ (s.front sd).formCheck sd.num (s.frontTag sd % 4) = none ∧
  (s.front sd).cls = cls ∧ (s.front sd).op = op ∧ (s.side sd).ruleCheck (s.front sd) = none

/-- Command `c` takes the message at the front of the Side's ring and answers it (R381, R404, R405): CONS advances, LAST_SEQ is its SEQ, the
reply waits for the outbound ring, the other Side, the queue and, the fields `fs` apart, the host region are as they were; what else the
Side has become is as `P` says. -/
def Answers (s : State) (sd : SideId) (c : Instr) (code detail : Nat) (payload : List Byte) (reset : Option SideId) (fs : List Fld)
    (P : State → Side → Prop) : Prop :=
  ∃ t, exec c s = .next t ∧ t.side sd.other = s.side sd.other ∧ t.pending = s.pending ∧
    s.host.FieldsOnly t.host (F.HP_MB_IN_CONS_IDX sd.num :: fs) ∧
    t.host.get (F.HP_MB_IN_CONS_IDX sd.num) = (s.host.get (F.HP_MB_IN_CONS_IDX sd.num) + 1) % 128 ∧
    (t.side sd).fw.outQ = (s.side sd).fw.outQ ++ (s.front sd).replies code detail payload (s.frontVia sd) reset ∧
    (t.side sd).fw.lastSeq = (s.front sd).seq ∧
    P t { t.side sd with fw := { (t.side sd).fw with outQ := (s.side sd).fw.outQ, lastSeq := (s.side sd).fw.lastSeq } }

/-- The message is carried out: a reply with a payload, and the Side is as `P` says. -/
def Carries (s : State) (sd : SideId) (c : Instr) (payload : List Byte) (P : Side → Prop) : Prop :=
  Answers s sd c 0 0 payload none [] (fun _ y => P y)

/-- The message is refused with a code and a detail, and nothing else changes. -/
def Refuses (s : State) (sd : SideId) (c : Instr) (code detail : Nat) : Prop :=
  Answers s sd c code detail [] none [] (fun _ y => y = s.side sd)

end Sys2Proof.Machine
end

