-- ==== Sys2Proof/Certificates/Slice0/Obligations.lean ====
section
/-!
DEFINITION. The statements for the provers. Each says that a command completes, what its next state holds and what it leaves as it was
(in the terms of Safety.lean), or what a step, the reset or the encoding of the Stitch instructions does.
-/

open Sys2Proof Sys2Proof.Machine

/-! ### Steps, reset, encoding -/

/-- A step takes the command at the front of the queue and runs it on the state with the queue's rest; with an empty queue the block
idles, which is the model's choice (log entry 60). -/
def Obligations.StepRunsFrontCommand : Prop :=
  (∀ (s : State) (c : Instr) (cs : List Instr), s.pending = c :: cs →
    ∃ u : State, step s = exec c u ∧ u.pending = cs ∧ u.side0 = s.side0 ∧ u.side1 = s.side1 ∧ u.host = s.host ∧ u.fresh = s.fresh) ∧
  ∀ s : State, s.pending = [] → step s = .next s

/-- R466, R467, R498: right after reset both Sides are in Reset with every register at its reset value, no memory byte listed, no event and
no Take waiting, every DMA channel disabled and not lent (R440), and OWNER of the Seam is 3 (R218). Right after reset the level sources
stand at their conditions. -/
def Obligations.ResetState : Prop :=
  ((∀ sd : SideId, (State.reset.side sd).mode = .reset ∧ (State.reset.side sd).mem = [] ∧ (State.reset.side sd).fw.outQ = [] ∧
    (State.reset.side sd).takes.queue = Vector.replicate 8 none ∧
    ∀ c : Nat, c < 16 → (State.reset.side sd).get (F.DMA_CH_EN c) = 0 ∧ (State.reset.side sd).get (F.DMA_CH_LENT c) = 0) ∧
  State.reset.host.get F.HP_SEAM_TOKEN_OWNER = 3 ∧ State.reset.host.get F.HP_SEAM_TOKEN_EPOCH = 0 ∧ State.reset.pending = [] ∧
  State.reset.host.held = false) ∧
  (LevelsFollow State.reset)

/-- Tier 3 invariant: every step of every command leaves the inputs of the host Collector's level sources at the conditions of
Table HP-3 (R392, R393), whatever the command changed. -/
def Obligations.EveryStepKeepsLevels : Prop :=
  ∀ s t : State, LevelsFollow s → step s = .next t → LevelsFollow t

/-- Tier 3: every Stitch instruction with its fields at any value their encoding admits is read back from its 64-bit word (R100 to
R103, Tables SI-1 to SI-11). -/
def Obligations.StitchWordsReadBack : Prop :=
  ∀ op : StOp, (∀ n, op = .reserved n → opReserved n.val = true) → encodeStitch op < 2 ^ 64 ∧ decodeStitch (encodeStitch op) = op

/-- Words of the Stitch instruction set written out from their format tables decode to the instructions they stand for. -/
def Obligations.StitchWordsSpelled : Prop :=
  -- TAPL A0, X[P2--], C[P3++], S1 with every lane on (Table SI-5)
  decodeStitch 0x07C680024C000600 = .tap .load
    { le := 15, mofa := ⟨.x, .postDec 2⟩, mofb := ⟨.c, .postInc 3⟩, acc := 0, s := 1 } ∧
  -- EOR and NOP (Table SI-11)
  decodeStitch 0x57C0000000000000 = .eor ∧ decodeStitch 0x5BC0000000000000 = .nop ∧
  -- opcodes 0 and 0x1A are reserved (Table SI-1)
  decodeStitch 0 = .reserved 0 ∧ decodeStitch 0x6800000000000000 = .reserved 26

/-! ### The host's accesses -/

/-- R12: a host write of HP_BF_CMD, a register of RW fields, takes the bits of the enabled bytes and leaves the others; one of HP_RLY_STAT
clears a W1C bit by an enabled 1; one of HP_BF_GO, which holds a WT field, without all four byte enables is discarded. R34: an access of a
Side window that gets no response sets the Side's flag and, when it is the first failure, records the BAR0 offset, that it was a timeout and
its direction; a read completes with 0xFFFFFFFF. So does a read of a window register of an island whose gate is closed, which is no timeout;
a read that is answered brings the register's word. -/
def Obligations.HostAccesses : Prop :=
  (∀ (s : State) (be : Fin 16) (v : BitVec 32) (env : BusEnv), s.host.open = true → be.val ≠ 0 →
    (∃ t, exec (.registerWrite .host ⟨0x14002, by decide⟩ be v env) s = .next t ∧
      (∀ f ∈ [F.HP_BF_CMD_OPCODE, F.HP_BF_CMD_ADDR_BYTES, F.HP_BF_CMD_DUMMY, F.HP_BF_CMD_LINES, F.HP_BF_CMD_DIR],
        t.host.get f = (if be.val.testBit (f.lo / 8) then v.toNat else Regs.word s.host.regs 0x1050008) / 2 ^ f.lo % 2 ^ f.len) ∧
      (be.val = 15 → t.host.get F.HP_BF_CMD_LEN = v.toNat / 2 ^ 17 % 512) ∧
      s.host.FieldsOnly t.host [F.HP_BF_CMD_OPCODE, F.HP_BF_CMD_ADDR_BYTES, F.HP_BF_CMD_DUMMY, F.HP_BF_CMD_LINES, F.HP_BF_CMD_DIR,
        F.HP_BF_CMD_LEN] ∧ SidesKept s t) ∧
    (∃ t, exec (.registerWrite .host ⟨0x10001, by decide⟩ be v env) s = .next t ∧
      (be.val.testBit 0 = true → v.toNat.testBit 0 = true → t.host.get F.HP_RLY_STAT_NO_ROUTE = 0) ∧
      (be.val.testBit 0 = true → v.toNat.testBit 1 = true → t.host.get F.HP_RLY_STAT_REROUTED = 0) ∧
      s.host.FieldsOnly t.host [F.HP_RLY_STAT_NO_ROUTE, F.HP_RLY_STAT_REROUTED] ∧ SidesKept s t) ∧
    (be.val ≠ 15 → ∃ t, exec (.registerWrite .host ⟨0x14004, by decide⟩ be v env) s = .next t ∧ Unchanged s t)) ∧
  (∀ (s : State) (sd : SideId) (off : Fin 4194304) (write : Bool), s.host.open = true → (s.side sd).alive = true →
    s.host.flag F.HP_ACC_ERR_SIDE0 = false → s.host.flag F.HP_ACC_ERR_SIDE1 = false →
    (∃ t, exec (.sideAccessTimeout sd off write ⟨false, false⟩) s = .next t ∧
      t.host.get (if sd = .s0 then F.HP_ACC_ERR_SIDE0 else F.HP_ACC_ERR_SIDE1) = 1 ∧
      t.host.get F.HP_ACC_ADDR_ADDR = 0x400000 + 0x400000 * sd.num + off.val ∧ t.host.get F.HP_ACC_ERR_FIRST_TO = 1 ∧
      t.host.get F.HP_ACC_ERR_FIRST_WR = write.toNat ∧ (write = false → t.host.lastRead = List.replicate 4 0xFF) ∧
      (write = true → t.host.lastRead = s.host.lastRead) ∧ SidesKept s t) ∧
    ((blockGate (off.val / 4 * 4)).any (fun k => !(s.side sd).gateOpen k) = true →
      ∃ t, exec (.sideAccessTimeout sd off false ⟨false, true⟩) s = .next t ∧
      t.host.get (if sd = .s0 then F.HP_ACC_ERR_SIDE0 else F.HP_ACC_ERR_SIDE1) = 1 ∧
      t.host.get F.HP_ACC_ADDR_ADDR = 0x400000 + 0x400000 * sd.num + off.val / 4 * 4 ∧ t.host.get F.HP_ACC_ERR_FIRST_TO = 0 ∧
      t.host.get F.HP_ACC_ERR_FIRST_WR = 0 ∧ t.host.lastRead = List.replicate 4 0xFF ∧
      (s.side sd).FieldsOnly (t.side sd) [F.FB_STAT_ORPHAN] ∧ t.side sd.other = s.side sd.other) ∧
    ((blockGate (off.val / 4 * 4)).all (fun k => (s.side sd).gateOpen k && !(s.side sd).clk.closing.testBit k) = true →
      ∃ t, exec (.sideAccessTimeout sd off false ⟨false, true⟩) s = .next t ∧
        t.host.lastRead = leBytes 4 (s.sideWord sd (off.val / 4 * 4)) ∧ s.host.regs = t.host.regs ∧ SidesKept s t))

/-- R10, R13, R34, R377, R378: what reads return. A quad-SPI read of an aligned word of the host region other than HP_CLAIM, or of a Side's
window whose island is not gated, returns the register's word; a misaligned or unmapped one returns zeros; a read of the mailbox rings
returns their bytes for as many words as are clocked, STATUS shows WBUSY, WERR and REQ, and an aperture read of a Side that is Dark or in
Reset returns zeros; no read changes a Side. R36, R446: a read of one aligned word of a Side's long memory through the aperture returns the
word there while its bank is On and no error mark stands on it, and zero while the bank is in Retention or Off. -/
def Obligations.HostReads : Prop :=
  (∀ s : State,
    (∀ a : BitVec 32, s.host.spiOn = true → (a.toNat % 4 ≠ 0 ∨ 0xC00000 ≤ a.toNat) →
      ∃ t, exec (.qspiRead0 a) s = .next t ∧ t.host.lastRead = [0, 0, 0, 0] ∧ SidesKept s t ∧ s.host.regs = t.host.regs) ∧
    (∀ a : BitVec 32, s.host.spiOn = true → a.toNat % 4 = 0 → a.toNat < 0x100000 → a.toNat ≠ 0x20000 →
      ∃ t, exec (.qspiRead0 a) s = .next t ∧ t.host.lastRead = leBytes 4 (s.hostWord a.toNat) ∧ SidesKept s t ∧
        s.host.regs = t.host.regs) ∧
    (∀ (sd : SideId) (off : Fin 4194304) (a : BitVec 32), s.host.spiOn = true → (s.side sd).alive = true → off.val % 4 = 0 →
      a.toNat = 0x400000 + 0x400000 * sd.num + off.val →
      (blockGate off.val).all (fun k => (s.side sd).gateOpen k && !(s.side sd).clk.closing.testBit k) = true →
      ∃ t, exec (.qspiRead0 a) s = .next t ∧ t.host.lastRead = leBytes 4 (s.sideWord sd off.val) ∧ SidesKept s t ∧
        s.host.regs = t.host.regs) ∧
    (∀ (a : BitVec 32) (n : Nat), s.host.spiOn = true → a.toNat % 4 ≠ 0 →
      ∃ t, exec (.qspiRead2 a n) s = .next t ∧ t.host.lastRead = List.replicate (4 * n) 0 ∧ SidesKept s t ∧ s.host.regs = t.host.regs) ∧
    (∀ (a : BitVec 32) (n : Nat), s.host.spiOn = true → a.toNat % 4 = 0 → a.toNat < 0x100000 → a.toNat + 4 * n ≤ 0x100000 →
      ∃ t, exec (.qspiRead2 a n) s = .next t ∧ t.host.lastRead.length = 4 * n ∧
        (∀ i, i < 4 * n → t.host.lastRead[i]? = some (s.host.byte (a.toNat + i))) ∧ SidesKept s t ∧ s.host.regs = t.host.regs) ∧
    (∀ busy : Bool, s.host.spiOn = true →
      ∃ t, exec (.qspiStatus busy) s = .next t ∧
        t.host.lastRead = [BitVec.ofNat 8 (busy.toNat + 2 * s.host.get F.HP_ACC_ERR_SPI_WERR + 4 * s.host.col.req.toNat)] ∧
        SidesKept s t ∧ s.host.regs = t.host.regs) ∧
    ∀ (sd : SideId) (word : Fin 4194304) (n : Fin 65), s.host.open = true → (s.side sd).alive = false →
      ∃ t, exec (.apertureRead sd word n) s = .next t ∧ t.host.lastRead = List.replicate (4 * n.val) 0 ∧ SidesKept s t) ∧
  (∀ (s : State) (sd : SideId) (word : Fin 4194304), s.host.open = true → (s.side sd).alive = true →
    s.host.get (F.HP_MB_APER_BASE sd.num) = 0 → (s.side sd).get (F.MM_BANK_TESTING (word.val / 0x200000)) = 0 → (s.side sd).upset (4 * word.val) = 0 →
    ∃ t, exec (.apertureRead sd word 1) s = .next t ∧
      t.host.lastRead = (if (s.side sd).bankOn (word.val / 0x200000) then (s.side sd).bytes (4 * word.val) 4 else [0, 0, 0, 0]) ∧
      (t.side sd).MemoryKept (s.side sd) ∧ t.side sd.other = s.side sd.other)

/-- R379: a quad-SPI write transaction is held with its bytes until it ends; one that began while an earlier write was being carried out, or
that holds more than 4 KiB, is discarded whole at its end and sets SPI_WERR; a trailing partial word alone writes nothing; one whole word is
written into the inbound ring, or acts as the host's write of that register. R375, R376, R421, R436: D3hot changes nothing in the Sides or
the Seam, and in D3hot the host's writes are lost until a configuration write returns the function to D0; an unsupported request is answered
with that status; a configuration write sets Bus Master Enable, MSI enable and D0; the link goes down and comes back at its speed and width.
-/
def Obligations.HostBuses : Prop :=
  (∀ s : State, s.host.spiOn = true →
    (∀ (a : BitVec 32) (data : List Byte) (late : Bool),
      (∃ t, exec (.qspiWrite0 a data late) s = .next t ∧
        t.host.spi = some { bar2 := false, addr := a.toNat, data := data, late := late } ∧ SidesKept s t ∧ s.host.FieldsOnly { t.host with spi := s.host.spi } []) ∧
      ∃ t, exec (.qspiWrite2 a data late) s = .next t ∧
        t.host.spi = some { bar2 := true, addr := a.toNat, data := data, late := late } ∧ SidesKept s t ∧ s.host.FieldsOnly { t.host with spi := s.host.spi } []) ∧
    ∀ (w : SpiWrite) (env : BusEnv), s.host.spi = some w →
      (w.late = true ∨ 4096 < w.data.length → ∃ t, exec (.qspiTransactionEnd env) s = .next t ∧
        t.host.get F.HP_ACC_ERR_SPI_WERR = 1 ∧ t.host.spi = none ∧ SidesKept s t ∧
        s.host.FieldsOnly { t.host with spi := s.host.spi } [F.HP_ACC_ERR_SPI_WERR]) ∧
      (w.late = false → w.addr % 4 = 0 → w.data.length < 4 → ∃ t, exec (.qspiTransactionEnd env) s = .next t ∧
        t.host.spi = none ∧ SidesKept s t ∧ s.host.FieldsOnly { t.host with spi := s.host.spi } []) ∧
      -- one whole word, here into the first inbound ring, is carried out
      (w.late = false → w.bar2 = true → w.addr < 0x40000 → w.addr % 4 = 0 → w.data.length = 4 →
        s.host.posted 0 false (w.addr / 4096) = false → ∃ t, exec (.qspiTransactionEnd env) s = .next t ∧
        t.host.spi = none ∧ (∀ i : Nat, i < 4 → some (t.host.byte (w.addr + i)) = w.data[i]?) ∧
        (∀ a, ¬(w.addr ≤ a ∧ a < w.addr + 4) → t.host.byte a = s.host.byte a) ∧ SidesKept s t) ∧
      -- one whole word of the BAR0 map acts as a write of that register with every byte enabled, once the buffer is free
      (∀ (word : Fin 4194304) (v : BitVec 32), w.late = false → w.bar2 = false → w.addr = 4 * word.val → w.data = leBytes 4 v.toNat →
        exec (.qspiTransactionEnd env) s = exec (.registerWrite .host word 15 v env) (s.onHost (fun h => { h with spi := none })))) ∧
  (∀ s : State, s.host.held = false → s.host.flag F.HP_STRAP_HOSTSEL = false →
    (∃ t, exec .pcieD3hotEntry s = .next t ∧ t.host.d3hot = true ∧ SidesKept s t ∧ s.host.FieldsOnly { t.host with d3hot := s.host.d3hot } [] ∧
      (∀ (word : Fin 4194304) (be : Fin 16) (v : BitVec 32) (env : BusEnv),
        ∃ u, exec (.registerWrite .host word be v env) t = .next u ∧ Unchanged t u) ∧
      ∃ u, exec (.pcieConfigWrite (s.host.flag F.HP_PCIE_BME) (s.host.flag F.HP_PCIE_MSI_EN) true) t = .next u ∧ u.host.open = true ∧
        SidesKept s u ∧ u.host.get F.HP_PCIE_BME = s.host.get F.HP_PCIE_BME ∧ u.host.get F.HP_PCIE_MSI_EN = s.host.get F.HP_PCIE_MSI_EN ∧
        s.host.FieldsOnly { u.host with d3hot := s.host.d3hot } [F.HP_PCIE_BME, F.HP_PCIE_MSI_EN]) ∧
    (∃ t, exec .pcieUnsupportedRequest s = .next t ∧ t.host.lastStatus = 1 ∧ SidesKept s t ∧
      s.host.FieldsOnly { t.host with lastStatus := s.host.lastStatus } []) ∧
    (∀ bme msi d0 : Bool, ∃ t, exec (.pcieConfigWrite bme msi d0) s = .next t ∧ t.host.get F.HP_PCIE_BME = bme.toNat ∧
      t.host.get F.HP_PCIE_MSI_EN = msi.toNat ∧ t.host.d3hot = (s.host.d3hot && !d0) ∧ SidesKept s t ∧
      s.host.FieldsOnly { t.host with d3hot := s.host.d3hot } [F.HP_PCIE_BME, F.HP_PCIE_MSI_EN]) ∧
    (∃ t, exec (.pcieLinkDown none) s = .next t ∧ t.host.get F.HP_PCIE_SPEED = 0 ∧ t.host.get F.HP_PCIE_WIDTH = 0 ∧ SidesKept s t ∧
      s.host.FieldsOnly t.host [F.HP_PCIE_SPEED, F.HP_PCIE_WIDTH, F.HP_PCIE_IN_L1]) ∧
    ∀ (p : Fin 4) (w : Fin 3), ∃ t, exec (.pcieLinkDown (some (p, w))) s = .next t ∧ t.host.get F.HP_PCIE_SPEED = p.val + 1 ∧
      t.host.get F.HP_PCIE_WIDTH = 2 ^ w.val ∧ SidesKept s t ∧ s.host.FieldsOnly t.host [F.HP_PCIE_SPEED, F.HP_PCIE_WIDTH])

/-! ### The PCIe function and the resets of the host region -/

/-- R19, R20, R373, R384, R400, R468, R498: a port-domain reset empties the rings, the Collector and the relay and leaves the Seam and both
Sides; a power-on reset holds the host region, with OWNER 3, and leaves the Sides; its release samples HOSTSEL and the device ID. R466,
R467, R468, Table PW-3: each reset source of a Side takes it to Reset with its registers at their reset values and its source noted; the
source of the next release's PW_RST_CAUSE. The pin's filter passes 100 ns and stops what is below 10 ns. -/
def Obligations.HostAndSideResets : Prop :=
  (∀ s : State,
    (s.host.held = false → ∃ t, exec .portDomainReset s = .next t ∧
      (∀ n, n < 2 → t.host.ringCount n false = 0 ∧ t.host.ringCount n true = 0) ∧ t.host.relay = [] ∧ t.host.col.stack = [] ∧
      t.host.msgId = 0 ∧ t.host.seenMsgs = [] ∧ t.host.spi = none ∧
      (∀ f : Fld, f.off / 0x10000 = 0x101 → f.lo < 32 → t.host.get f = s.host.get f) ∧ SidesKept s t) ∧
    (∃ t, exec .hostPowerOnReset s = .next t ∧ t.host.held = true ∧ t.host.get F.HP_SEAM_TOKEN_OWNER = 3 ∧
      t.host.get F.HP_SEAM_TOKEN_EPOCH = 0 ∧ SidesKept s t) ∧
    (s.host.held = true → ∀ (sel : Bool) (dev : Fin 64), ∃ t, exec (.hostResetRelease sel dev) s = .next t ∧ t.host.held = false ∧
      t.host.get F.HP_STRAP_HOSTSEL = sel.toNat ∧ t.host.get F.HP_ID_DEVID = dev.val ∧ t.host.get F.HP_SEAM_TOKEN_OWNER = 3 ∧
      SidesKept s t)) ∧
  (∀ (s : State) (sd : SideId), let x := s.side sd
    let reset := fun (t : State) (bit : Nat) => x.ResetTo (t.side sd) .reset ∧ (t.side sd).clk.since.testBit bit = true ∧
      (t.side sd).fuses = x.fuses ∧ t.side sd.other = s.side sd.other ∧
      s.host.FieldsOnly { t.host with flashDrop := s.host.flashDrop } [F.HP_BF_OWN_OWNER] ∧ t.pending = s.pending
    (x.mode ≠ .dark → ∀ ns : Nat, 100 ≤ ns → ∃ t, exec (.sideResetPin sd ns) s = .next t ∧ reset t 1) ∧
    (∀ ns : Nat, ns < 10 → exec (.sideResetPin sd ns) s = .next s) ∧
    (x.alive = true → ∃ t, exec (.pwResetWrite sd 0xA5C3) s = .next t ∧ reset t 2) ∧
    (x.alive = true → ∀ key : BitVec 16, key ≠ 0xA5C3 → Completes s sd (.pwResetWrite sd key) fun y =>
      y.get F.PW_RESET_KEY = key.toNat ∧ x.FieldsOnly y [F.PW_RESET_KEY]) ∧
    (x.mode ≠ .dark → x.fuses.lc ≤ 1 → ∃ t, exec (.jtagSideReset sd) s = .next t ∧ reset t 6) ∧
    ∀ (oscw : Fin 4) (mtest : Bool), x.mode = .reset → x.clk.stage = 0 → s.side0.fuses.lc = s.side1.fuses.lc →
      Completes s sd (.sideResetRelease sd oscw mtest) fun y =>
        y.get F.CK_STRAP_OSCW = oscw ∧ y.get F.PW_STRAP_MTEST = mtest.toNat ∧
        y.get F.PW_RST_CAUSE_POWER = (x.clk.since.testBit 0).toNat ∧ y.get F.PW_RST_CAUSE_PIN = (x.clk.since.testBit 1).toNat ∧
        y.get F.PW_RST_CAUSE_HOST = (x.clk.since.testBit 2).toNat ∧ y.get F.PW_RST_CAUSE_SELF = (x.clk.since.testBit 3).toNat ∧
        y.get F.PW_RST_CAUSE_PARTNER = (x.clk.since.testBit 4).toNat ∧ y.get F.PW_RST_CAUSE_LC_CHANGE = (x.clk.since.testBit 5).toNat ∧
        y.get F.PW_RST_CAUSE_JTAG = (x.clk.since.testBit 6).toNat ∧
        y.clk = { x.clk with asserted := 0, since := 0, stage := 1 } ∧
        x.FieldsOnly { y with clk := x.clk } [F.PW_RST_CAUSE_POWER, F.PW_RST_CAUSE_PIN, F.PW_RST_CAUSE_HOST, F.PW_RST_CAUSE_SELF,
          F.PW_RST_CAUSE_PARTNER, F.PW_RST_CAUSE_LC_CHANGE, F.PW_RST_CAUSE_JTAG, F.CK_STRAP_OSCW, F.PW_STRAP_MTEST])

/-! ### Mailboxes, relay, boot flash -/

/-- R381, R206: host bytes go into a free inbound slot, or through the Twin post window into that slot of both rings; a write to a posted
slot only sets SLOT_BUSY. R382: an inbound doorbell of value PROD while the ring is not full advances PROD by 1; any other value is refused
with cause 2, and a full ring with cause 1; a refusal changes no index. R207, R385: the Twin doorbell advances both producer indices or
neither; cause 2 is checked first. -/
def Obligations.InboundRings : Prop :=
  (∀ (s : State) (slot : Fin 64) (off : Fin 4096) (data : List Byte), s.host.open = true → off.val + data.length ≤ 4096 →
    (∀ sd : SideId,
      (s.host.posted sd.num false slot = false → ∃ t, exec (.inboundSlotWrite sd slot off data) s = .next t ∧
        (∀ i, i < data.length → some (t.host.byte (0x80000 * sd.num + 4096 * slot + off + i)) = data[i]?) ∧
        (∀ a, ¬(0x80000 * sd.num + 4096 * slot + off ≤ a ∧ a < 0x80000 * sd.num + 4096 * slot + off + data.length) →
          t.host.byte a = s.host.byte a) ∧
        t.host.tag sd.num slot = 0 ∧ SidesKept s t ∧ t.host.regs = s.host.regs) ∧
      (s.host.posted sd.num false slot = true → ∃ t, exec (.inboundSlotWrite sd slot off data) s = .next t ∧
        t.host.get F.HP_MB_STAT_SLOT_BUSY = 1 ∧ SidesKept s t ∧ s.host.FieldsOnly t.host [F.HP_MB_STAT_SLOT_BUSY])) ∧
    (s.host.posted 0 false slot = false → s.host.posted 1 false slot = false →
      ∃ t, exec (.twinPostWrite slot off data) s = .next t ∧
        (∀ (n i : Nat), n < 2 → i < data.length → some (t.host.byte (0x80000 * n + 4096 * slot + off + i)) = data[i]?) ∧
        (∀ a : Nat, (∀ n : Nat, n < 2 → ¬(0x80000 * n + 4096 * slot + off ≤ a ∧ a < 0x80000 * n + 4096 * slot + off + data.length)) →
          t.host.byte a = s.host.byte a) ∧
        t.host.tag 0 slot = 1 ∧ t.host.tag 1 slot = 1 ∧ SidesKept s t ∧ t.host.regs = s.host.regs) ∧
    ((s.host.posted 0 false slot = true ∨ s.host.posted 1 false slot = true) → ∃ t, exec (.twinPostWrite slot off data) s = .next t ∧
        t.host.get F.HP_MB_STAT_SLOT_BUSY = 1 ∧ SidesKept s t ∧ s.host.FieldsOnly t.host [F.HP_MB_STAT_SLOT_BUSY])) ∧
  (∀ (s : State) (sd : SideId) (v : Fin 128), s.host.open = true →
    let ref := if sd = .s0 then F.HP_MB_STAT_DB_REF0 else F.HP_MB_STAT_DB_REF1
    let cause := if sd = .s0 then F.HP_MB_STAT_DB_CAUSE0 else F.HP_MB_STAT_DB_CAUSE1
    ∃ t, exec (.inboundDoorbell sd v) s = .next t ∧ SidesKept s t ∧
      s.host.FieldsOnly t.host [F.HP_MB_IN_PROD_IDX sd.num, F.HP_MB_IN_DB_IDX sd.num, ref, cause] ∧
      (v.val = s.host.get (F.HP_MB_IN_PROD_IDX sd.num) → s.host.ringCount sd.num false < 64 →
        t.host.get (F.HP_MB_IN_PROD_IDX sd.num) = (v.val + 1) % 128 ∧ t.host.get ref = s.host.get ref) ∧
      (v.val = s.host.get (F.HP_MB_IN_PROD_IDX sd.num) → 64 ≤ s.host.ringCount sd.num false →
        t.host.get (F.HP_MB_IN_PROD_IDX sd.num) = v.val ∧ t.host.get ref = 1 ∧ t.host.get cause = 1) ∧
      (v.val ≠ s.host.get (F.HP_MB_IN_PROD_IDX sd.num) →
        t.host.get (F.HP_MB_IN_PROD_IDX sd.num) = s.host.get (F.HP_MB_IN_PROD_IDX sd.num) ∧ t.host.get ref = 1 ∧ t.host.get cause = 2)) ∧
  (∀ (s : State) (v : Fin 128), s.host.open = true →
    let p := fun (n : Nat) => s.host.get (F.HP_MB_IN_PROD_IDX n)
    ∃ t, exec (.twinDoorbell v) s = .next t ∧ SidesKept s t ∧
      s.host.FieldsOnly t.host [F.HP_MB_IN_PROD_IDX 0, F.HP_MB_IN_PROD_IDX 1, F.HP_MB_TWIN_DB_IDX, F.HP_MB_STAT_TWIN_REF,
        F.HP_MB_STAT_TWIN_CAUSE] ∧
      (v.val = p 0 → v.val = p 1 → s.host.ringCount 0 false < 64 → s.host.ringCount 1 false < 64 →
        t.host.get (F.HP_MB_IN_PROD_IDX 0) = (v.val + 1) % 128 ∧ t.host.get (F.HP_MB_IN_PROD_IDX 1) = (v.val + 1) % 128) ∧
      (v.val = p 0 → v.val = p 1 → 64 ≤ s.host.ringCount 0 false ∨ 64 ≤ s.host.ringCount 1 false →
        t.host.get (F.HP_MB_IN_PROD_IDX 0) = p 0 ∧ t.host.get (F.HP_MB_IN_PROD_IDX 1) = p 1 ∧
        t.host.get F.HP_MB_STAT_TWIN_REF = 1 ∧ t.host.get F.HP_MB_STAT_TWIN_CAUSE = 1) ∧
      (v.val ≠ p 0 ∨ v.val ≠ p 1 → t.host.get (F.HP_MB_IN_PROD_IDX 0) = p 0 ∧ t.host.get (F.HP_MB_IN_PROD_IDX 1) = p 1 ∧
        t.host.get F.HP_MB_STAT_TWIN_REF = 1 ∧ t.host.get F.HP_MB_STAT_TWIN_CAUSE = 2))

/-- R380, R383: firmware's outbound doorbell places its oldest message in the slot at PROD and advances PROD; the host's write of CONS is
stored unless it would pass PROD, and then sets CONS_ERR. R387, R389: the relay fills the slot at PROD of a ring that has room and advances
PROD; a message held for a route that stays unusable is discarded and counted. -/
def Obligations.OutboundRingAndRelay : Prop :=
  ((∀ (s : State) (sd : SideId) (v : Fin 128) (m : OutMsg) (rest : List OutMsg), s.host.held = false → (s.side sd).alive = true →
    (s.side sd).fw.outQ = m :: rest → m.via = none → m.reset = none → (s.side sd).fw.lossDue = false →
    v.val = s.host.get (F.HP_MB_OUT_PROD_IDX sd.num) → s.host.ringCount sd.num true < 64 →
    s.host.flag (if sd = .s0 then F.HP_MB_CTRL_OUT_EN0 else F.HP_MB_CTRL_OUT_EN1) = true →
    ∃ t, exec (.outboundDoorbell sd v) s = .next t ∧ t.host.get (F.HP_MB_OUT_PROD_IDX sd.num) = (v.val + 1) % 128 ∧
      (∀ i, i < (m.msg.bytesOf (s.host.get F.HP_ID_DEVID) sd.num).length →
        some (t.host.byte (0x80000 * sd.num + 0x40000 + 4096 * (v.val % 64) + i)) = (m.msg.bytesOf (s.host.get F.HP_ID_DEVID) sd.num)[i]?) ∧
      s.host.FieldsOnly { t.host with ram := s.host.ram } [F.HP_MB_OUT_PROD_IDX sd.num, F.HP_MB_OUT_DB_IDX sd.num] ∧
      (t.side sd).fw = { (s.side sd).fw with outQ := rest } ∧ { t.side sd with fw := (s.side sd).fw } = s.side sd ∧
      t.side sd.other = s.side sd.other ∧ t.pending = s.pending) ∧
  ∀ (s : State) (sd : SideId) (v : Fin 128), s.host.open = true →
    let ahead := (v.val + 128 - s.host.get (F.HP_MB_OUT_CONS_IDX sd.num)) % 128
    ∃ t, exec (.outboundConsumerWrite sd v) s = .next t ∧ SidesKept s t ∧
      s.host.FieldsOnly t.host [F.HP_MB_OUT_CONS_IDX sd.num, F.HP_MB_STAT_CONS_ERR] ∧
      (ahead ≤ s.host.ringCount sd.num true → t.host.get (F.HP_MB_OUT_CONS_IDX sd.num) = v.val) ∧
      (s.host.ringCount sd.num true < ahead → t.host.get F.HP_MB_STAT_CONS_ERR = 1 ∧
        t.host.get (F.HP_MB_OUT_CONS_IDX sd.num) = s.host.get (F.HP_MB_OUT_CONS_IDX sd.num))) ∧
  ((∀ (s : State) (sd : SideId) (m : HeldMsg) (rest : List HeldMsg), s.host.held = false → s.host.flag F.HP_RLY_CTRL_EN = true →
    s.host.relay = m :: rest → m.dest = .inbound sd → m.via = none → s.host.ringCount sd.num false < 64 →
    let p := s.host.get (F.HP_MB_IN_PROD_IDX sd.num)
    ∃ t, exec .relayInsert s = .next t ∧ t.host.get (F.HP_MB_IN_PROD_IDX sd.num) = (p + 1) % 128 ∧ t.host.relay = rest ∧
      (∀ i, i < m.bytes.length → some (t.host.byte (0x80000 * sd.num + 4096 * (p % 64) + i)) = m.bytes[i]?) ∧
      s.host.FieldsOnly { t.host with ram := s.host.ram, tags := s.host.tags, relay := s.host.relay } [F.HP_MB_IN_PROD_IDX sd.num] ∧
      SidesKept s t) ∧
  ∀ (s : State) (d : Fin 64) (m : HeldMsg) (rest : List HeldMsg), s.host.held = false → s.routeOf d.val = none →
    s.host.relay = m :: rest → m.dest = .route d.val → m.via = none →
    ∃ t, exec (.relayHoldTimeout d) s = .next t ∧ t.host.relay = rest ∧ t.host.get F.HP_RLY_STAT_NO_ROUTE = 1 ∧
      t.host.get F.HP_RLY_STAT_DROPPED = min (s.host.get F.HP_RLY_STAT_DROPPED + 1) 65535 ∧
      s.host.FieldsOnly { t.host with relay := s.host.relay } [F.HP_RLY_STAT_NO_ROUTE, F.HP_RLY_STAT_DROPPED] ∧ SidesKept s t)

/-- R390, R391: the boot flash master is claimed while it has no owner and released by its owner; a GO by its owner with LEN up to 256 starts
a command, any other sets ERR; the end of a read fills HP_BF_DATA and sets DONE. -/
def Obligations.BootFlash : Prop :=
  (∀ (s : State) (u : FlashUser), s.flashReach u = true →
    (∃ t, exec (.bootFlashClaim u) s = .next t ∧ SidesKept s t ∧ s.host.FieldsOnly t.host [F.HP_BF_OWN_OWNER] ∧
      (s.host.get F.HP_BF_OWN_OWNER = 0 → t.host.get F.HP_BF_OWN_OWNER = flashUser u) ∧
      (s.host.get F.HP_BF_OWN_OWNER ≠ 0 → t.host.get F.HP_BF_OWN_OWNER = s.host.get F.HP_BF_OWN_OWNER)) ∧
    (∃ t, exec (.bootFlashRelease u) s = .next t ∧ SidesKept s t ∧ s.host.FieldsOnly t.host [F.HP_BF_OWN_OWNER] ∧
      (s.host.get F.HP_BF_OWN_OWNER = flashUser u → t.host.get F.HP_BF_OWN_OWNER = 0) ∧
      (s.host.get F.HP_BF_OWN_OWNER ≠ flashUser u → t.host.get F.HP_BF_OWN_OWNER = s.host.get F.HP_BF_OWN_OWNER)) ∧
    ∃ t, exec (.bootFlashGo u) s = .next t ∧ SidesKept s t ∧
      s.host.FieldsOnly t.host [F.HP_BF_GO_GO, F.HP_BF_STAT_BUSY, F.HP_BF_STAT_ERR] ∧
      (s.host.get F.HP_BF_OWN_OWNER = flashUser u → s.host.flag F.HP_BF_STAT_BUSY = false → s.host.get F.HP_BF_CMD_LEN ≤ 256 →
        t.host.get F.HP_BF_STAT_BUSY = 1 ∧ t.host.get F.HP_BF_STAT_ERR = s.host.get F.HP_BF_STAT_ERR) ∧
      (s.host.get F.HP_BF_OWN_OWNER ≠ flashUser u ∨ s.host.flag F.HP_BF_STAT_BUSY = true ∨ 256 < s.host.get F.HP_BF_CMD_LEN →
        t.host.get F.HP_BF_STAT_ERR = 1 ∧ t.host.get F.HP_BF_STAT_BUSY = s.host.get F.HP_BF_STAT_BUSY)) ∧
  ∀ (s : State) (b : Byte × Byte × Byte × Byte), s.host.held = false → s.host.flag F.HP_BF_STAT_BUSY = true → s.host.flashDrop = false →
    s.host.get F.HP_BF_CMD_LEN = 4 → s.host.flag F.HP_BF_CMD_DIR = false →
    ∃ t, exec (.bootFlashCommandDone [b.1, b.2.1, b.2.2.1, b.2.2.2]) s = .next t ∧ t.host.get F.HP_BF_STAT_BUSY = 0 ∧
      t.host.get F.HP_BF_STAT_DONE = 1 ∧
      t.host.get (F.HP_BF_DATA_DATA 0) = b.1.toNat + 256 * b.2.1.toNat + 65536 * b.2.2.1.toNat + 16777216 * b.2.2.2.toNat ∧
      SidesKept s t ∧ s.host.FieldsOnly t.host [F.HP_BF_STAT_BUSY, F.HP_BF_STAT_DONE, F.HP_BF_DATA_DATA 0]

/-! ### The Collectors -/

/-- R393, R396, R397, R399, R400: what an edge, a claim, an end of interrupt, a new window and a change of a source's configuration do in the
Dorden Collector of a Side; the rest of the Side is as it was. -/
def Obligations.DordenCollector : Prop :=
  ∀ (s : State) (sd : SideId), (s.side sd).alive = true →
    let c := (s.side sd).col
    let kept := fun (t : State) => { t.side sd with col := c } = s.side sd ∧ Elsewhere s t sd
    (∀ (k : Fin 256) (n : Nat) (l : Bool), 0 < k.val → k.val < 128 → (c.src false k).sense = 2 → (c.src false k).maxrate = 0 →
      (c.src false k).storm = false → 0 < n → ∃ t, exec (.collectorSourceTrigger (.dorden sd) k n n l) s = .next t ∧ kept t ∧
        ((t.side sd).col.src false k).pend = true ∧ ((t.side sd).col.src false k).raw = l ∧
        ((t.side sd).col.src false k).coal = min ((c.src false k).coal + (n - 1) + (c.src false k).pend.toNat) 255 ∧
        ∀ j, j ≠ k.val → (t.side sd).col.src false j = c.src false j) ∧
    (∀ k, c.Picks false k → c.stack.length < 16 → ∃ t, exec (.collectorClaim (.dorden sd)) s = .next t ∧ kept t ∧
      (t.side sd).col.stack = (c.rp, k) :: c.stack ∧ (t.side sd).col.rp = (c.src false k).prio ∧
      ((t.side sd).col.src false k).insvc = true ∧ (1 < (c.src false k).sense → ((t.side sd).col.src false k).pend = false)) ∧
    ((∀ k, (c.src false k).qualifies c.rp = false) → ∃ t, exec (.collectorClaim (.dorden sd)) s = .next t ∧ kept t ∧ (t.side sd).col = c) ∧
    (∀ k, c.Picks false k → 16 ≤ c.stack.length → ∃ t, exec (.collectorClaim (.dorden sd)) s = .next t ∧ kept t ∧
      (t.side sd).col = { c with stackErr := true }) ∧
    (∀ (v : BitVec 8) (p k : Nat) (rest : List (Nat × Nat)), c.stack = (p, k) :: rest →
      ∃ t, exec (.collectorEoi (.dorden sd) v) s = .next t ∧ kept t ∧ (t.side sd).col.stack = rest ∧ (t.side sd).col.rp = p ∧
        ((t.side sd).col.src false k).insvc = false ∧ (t.side sd).col.eoiMismatch = (c.eoiMismatch || decide (v.toNat ≠ k))) ∧
    (∀ v : BitVec 8, c.stack = [] → ∃ t, exec (.collectorEoi (.dorden sd) v) s = .next t ∧ kept t ∧
      (t.side sd).col = { c with stackErr := true }) ∧
    (∀ (k : Fin 256) (sense : Fin 8), 0 < k.val → k.val < 128 → ∃ t, exec (.collectorSenseWrite (.dorden sd) k sense) s = .next t ∧ kept t ∧
      ((t.side sd).col.src false k).sense = sense.val ∧ ((c.src false k).sense ≠ sense.val →
        ((t.side sd).col.src false k).pend = false ∧ ((t.side sd).col.src false k).coal = 0)) ∧
    (∀ k : Fin 256, 0 < k.val → k.val < 128 →
      (∃ t, exec (.collectorClearCoalesced (.dorden sd) k) s = .next t ∧ kept t ∧
        (t.side sd).col.src false k = { c.src false k with coal := 0 }) ∧
      ∃ t, exec (.collectorStormClear (.dorden sd) k) s = .next t ∧ kept t ∧
        (t.side sd).col.src false k = { c.src false k with storm := false }) ∧
    ∃ t, exec (.collectorRateWindowEnd (.dorden sd)) s = .next t ∧ kept t ∧ (t.side sd).col.stack = c.stack ∧ (t.side sd).col.rp = c.rp ∧
      ∀ k, (t.side sd).col.src false k = (if (c.src false k).maxrate = 0 then c.src false k else { c.src false k with cnt := 0 })

/-- R396, R397: a host CLAIM returns the qualifying source (PEND set, not in service, no STORM, PRIO above RP) of the highest PRIO, the lowest number
among equals: it pushes RP and the source, sets RP to the source's PRIO, puts the source in service and clears an edge-sensed PEND; with none it
returns 0 and changes nothing, with a full stack it also sets STACK_ERR. An EOI pops the top entry, restores RP and ends the service, sets
EOI_MISMATCH if it names another source, and on an empty stack only sets STACK_ERR. -/
def Obligations.HostCollector : Prop :=
  ∀ s : State, s.host.open = true → LevelsFollow s → let c := s.host.col
    let kept := fun (t : State) => t.host.regs = s.host.regs ∧ SidesKept s t
    (∀ k, c.Picks true k → c.stack.length < 16 → ∃ t, exec (.collectorClaim .host) s = .next t ∧ kept t ∧
      t.host.lastRead = leBytes 4 k ∧ t.host.col.stack = (c.rp, k) :: c.stack ∧ t.host.col.rp = (c.src true k).prio ∧
      t.host.col.src true k = { c.src true k with insvc := true, pend := if 2 ≤ (c.src true k).sense then false else (c.src true k).pend } ∧
      ∀ j, j ≠ k → t.host.col.src true j = c.src true j) ∧
    (∀ k, c.Picks true k → 16 ≤ c.stack.length → ∃ t, exec (.collectorClaim .host) s = .next t ∧ kept t ∧
      t.host.lastRead = [0, 0, 0, 0] ∧ t.host.col.stackErr = true ∧ t.host.col.stack = c.stack ∧ t.host.col.rp = c.rp ∧
      ∀ j, j ≠ 1 → t.host.col.src true j = c.src true j) ∧
    ((∀ k, (c.src true k).qualifies c.rp = false) → ∃ t, exec (.collectorClaim .host) s = .next t ∧ kept t ∧ t.host.lastRead = [0, 0, 0, 0] ∧
      t.host.col = { c with req := false }) ∧
    ∀ v : BitVec 8,
      (∀ (p k : Nat) (rest : List (Nat × Nat)), c.stack = (p, k) :: rest →
        ∃ t, exec (.collectorEoi .host v) s = .next t ∧ t.host.col.stack = rest ∧ t.host.col.rp = p ∧ (t.host.col.src true k).insvc = false ∧
          t.host.col.eoiMismatch = (c.eoiMismatch || decide (v.toNat ≠ k)) ∧ (∀ j, j ≠ k → j ≠ 1 → t.host.col.src true j = c.src true j) ∧
          SidesKept s t ∧ s.host.FieldsOnly t.host [F.HP_EOI_SOURCE]) ∧
      (c.stack = [] → ∃ t, exec (.collectorEoi .host v) s = .next t ∧ t.host.col.stack = [] ∧ t.host.col.rp = c.rp ∧ t.host.col.stackErr = true ∧
        (∀ j, j ≠ 1 → t.host.col.src true j = c.src true j) ∧ SidesKept s t ∧ s.host.FieldsOnly t.host [F.HP_EOI_SOURCE])

/-! ### The Seam -/

/-- R218, Table TW-3: an operation that finds OWNER as it requires is carried out: OWNER changes, EPOCH rises by 1 modulo 2^16 and
HP_SEAM_LAST tells the change; one that does not sets REFUSED and leaves OWNER and EPOCH. A SEIZE carried out is remembered by the
Side for its next boundary. R219: requests of both Sides that meet in one cycle are carried out in turn, Side 0's first, and Side 1's is judged
by the new OWNER. -/
def Obligations.SeamOperations : Prop :=
  ∀ (s : State) (sd : SideId), s.host.held = false →
    let o := s.host.get F.HP_SEAM_TOKEN_OWNER
    let may := fun (o who : Nat) (op : SeamOp) => match op with
      | .grant => decide (o = 3)
      | .seize => decide (o ≠ who)
      | _ => decide (o = who)
    let after := fun (o who : Nat) (op : SeamOp) => if may o who op then (match op with
      | .grant | .seize => who
      | .transfer => 1 - who
      | .release => 3) else o
    let changed := fun (t : State) (owner : Nat) => t.host.get F.HP_SEAM_TOKEN_OWNER = owner ∧
      t.host.get F.HP_SEAM_TOKEN_EPOCH = (s.host.get F.HP_SEAM_TOKEN_EPOCH + 1) % 65536 ∧ t.host.get F.HP_SEAM_LAST_TO = owner ∧
      t.host.get F.HP_SEAM_LAST_FROM = o
    let refused := fun (t : State) => t.host.get F.HP_SEAM_STAT_REFUSED = 1 ∧ s.host.FieldsOnly t.host [F.HP_SEAM_STAT_REFUSED]
    let sides := fun (t : State) (seized : Bool) => t.side sd.other = s.side sd.other ∧
      t.side sd = { s.side sd with twin := { (s.side sd).twin with req := none, seized := (s.side sd).twin.seized || seized } }
    ((s.side sd).twin.req = some .grant →
      (o = 3 → ∃ t, exec (.seamGrant sd false) s = .next t ∧ changed t sd.num ∧ sides t false) ∧
      (o ≠ 3 → ∃ t, exec (.seamGrant sd false) s = .next t ∧ refused t ∧ sides t false)) ∧
    ((s.side sd).twin.req = some .seize →
      (o ≠ sd.num → ∃ t, exec (.seamSeize sd false) s = .next t ∧ changed t sd.num ∧ sides t true) ∧
      (o = sd.num → ∃ t, exec (.seamSeize sd false) s = .next t ∧ refused t ∧ sides t false)) ∧
    ((s.side sd).twin.req = some .transfer →
      (o = sd.num → ∃ t, exec (.seamTransfer sd false) s = .next t ∧ changed t (1 - sd.num) ∧ sides t false) ∧
      (o ≠ sd.num → ∃ t, exec (.seamTransfer sd false) s = .next t ∧ refused t ∧ sides t false)) ∧
    ((s.side sd).twin.req = some .release →
      (o = sd.num → ∃ t, exec (.seamRelease sd false) s = .next t ∧ changed t 3 ∧ sides t false) ∧
      (o ≠ sd.num → ∃ t, exec (.seamRelease sd false) s = .next t ∧ refused t ∧ sides t false)) ∧
    (s.side0.mode ≠ .lead → s.side1.mode ≠ .lead → o ≠ 3 → ∃ t, exec .seamClear s = .next t ∧ changed t 3 ∧ SidesKept s t) ∧
    (s.side0.mode = .lead ∨ s.side1.mode = .lead → ∃ t, exec .seamClear s = .next t ∧ t.host.get F.HP_SEAM_STAT_REFUSED = 1 ∧
      t.host.get F.HP_SEAM_TOKEN_OWNER = o ∧ SidesKept s t) ∧
    ∀ c ∈ [(Instr.seamGrant sd true, SeamOp.grant), (.seamSeize sd true, .seize), (.seamTransfer sd true, .transfer), (.seamRelease sd true, .release)],
      ∀ other : SeamOp, (s.side sd).twin.req = some c.2 → (s.side sd.other).twin.req = some other →
        let a := if sd = .s0 then c.2 else other
        let b := if sd = .s0 then other else c.2
        let o1 := after o 0 a
        ∃ t, exec c.1 s = .next t ∧ t.host.get F.HP_SEAM_TOKEN_OWNER = after o1 1 b ∧ t.host.get F.HP_SEAM_STAT_SAME_CYCLE = 1 ∧
          t.host.get F.HP_SEAM_TOKEN_EPOCH = (s.host.get F.HP_SEAM_TOKEN_EPOCH + (may o 0 a).toNat + (may o1 1 b).toNat) % 65536 ∧
          ((may o 0 a && may o1 1 b) = false → t.host.get F.HP_SEAM_STAT_REFUSED = 1) ∧
          t.side0 = { s.side0 with twin := { s.side0.twin with req := none, seized := s.side0.twin.seized || (may o 0 a && decide (a = .seize)) } } ∧
          t.side1 = { s.side1 with twin := { s.side1.twin with req := none, seized := s.side1.twin.seized || (may o1 1 b && decide (b = .seize)) } }

/-! ### Supplies and resets -/

/-- R462, R463, Table PW-2: a rail pair goes to its backup member and counts the switch-over, goes back to main, and a low backup is
recorded; a supply loss takes the Side to Dark with nothing kept, and with every pair and VDDIO back it is in Reset. -/
def Obligations.Supplies : Prop :=
  ∀ (s : State) (sd : SideId), let x := s.side sd
    (∀ pair : Fin 4, x.mode ≠ .dark → x.bit F.PW_SUPPLY_ON_BACKUP pair = false →
      (Completes s sd (.supplySwitchToBackup sd pair) fun y =>
        x.BitIs y F.PW_SUPPLY_ON_BACKUP pair true ∧ x.BitIs y F.PW_SUPPLY_MAIN_OK pair false ∧ x.BitIs y F.PW_SUPPLY_SWITCHED pair true ∧
        y.get (supplyCnt pair) = min (x.get (supplyCnt pair) + 1) (2 ^ (supplyCnt pair).len - 1) ∧
        x.FieldsOnly y [F.PW_SUPPLY_ON_BACKUP, F.PW_SUPPLY_MAIN_OK, F.PW_SUPPLY_SWITCHED, supplyCnt pair]) ∧
      Completes s sd (.supplyBackupLow sd pair) fun y =>
        x.BitIs y F.PW_SUPPLY_BACKUP_OK pair false ∧ x.BitIs y F.PW_SUPPLY_BACKUP_LOW pair true ∧
        x.FieldsOnly y [F.PW_SUPPLY_BACKUP_OK, F.PW_SUPPLY_BACKUP_LOW]) ∧
    (∀ pair : Fin 4, x.mode ≠ .dark → x.bit F.PW_SUPPLY_ON_BACKUP pair = true →
      Completes s sd (.supplyReturnToMain sd pair) fun y =>
        x.BitIs y F.PW_SUPPLY_ON_BACKUP pair false ∧ x.BitIs y F.PW_SUPPLY_MAIN_OK pair true ∧
        x.FieldsOnly y [F.PW_SUPPLY_ON_BACKUP, F.PW_SUPPLY_MAIN_OK]) ∧
    (∀ rail : Option (Fin 4), ∃ t, exec (.supplyLoss sd rail) s = .next t ∧ (t.side sd).mode = .dark ∧ (t.side sd).fw = Firmware.reset ∧
      (t.side sd).takes = TakeUnit.reset ∧ (t.side sd).fuses = { x.fuses with change := none } ∧ t.side sd.other = s.side sd.other ∧
      s.host.FieldsOnly { t.host with flashDrop := s.host.flashDrop } [F.HP_BF_OWN_OWNER] ∧ t.pending = s.pending) ∧
    ∀ main backup : Fin 16, x.mode = .dark → (main.val ||| backup.val) % 16 = 15 →
      Completes s sd (.supplyReturn sd main backup) fun y =>
        y.mode = .reset ∧ y.get F.PW_SUPPLY_MAIN_OK = main ∧ y.get F.PW_SUPPLY_BACKUP_OK = backup ∧
        y.get F.PW_SUPPLY_ON_BACKUP = 15 - main.val ∧ y.get F.PW_SUPPLY_VDDIO_OK = 1 ∧
        x.FieldsOnly { y with mode := x.mode }
          [F.PW_SUPPLY_MAIN_OK, F.PW_SUPPLY_BACKUP_OK, F.PW_SUPPLY_ON_BACKUP, F.PW_SUPPLY_VDDIO_OK]

/-! ### Clocks -/

/-- R250, R251, R252, R254, R255, R256, R264, Table CK-3: the steps of a clock start-up after a release, the retries after a failed one, and
the switch of the islands to their clocks, which stands between its inputs until the old clock shows its edge or the switch is forced. -/
def Obligations.ClockStartUp : Prop :=
  ∀ (s : State) (sd : SideId), let x := s.side sd
    let again := [F.CK_XMON_STAT_CAL_DONE, F.CK_XMON_STAT_SYSPLL_LOCK, F.CK_SYSPLL_LOCK, F.CK_SERPLL_LOCK, F.CK_MUX_STAT_ISLAND_SRC]
    let xloss := [F.CK_XMON_STAT_XLOSS, F.CK_XLOSS_SEEN, F.CK_XLOSS_CAUSE, F.CK_XLOSS_MODE, F.CK_XLOSS_VALID, F.CK_XLOSS_ROW_LO, F.CK_XLOSS_ROW_HI]
    x.mode = .reset → x.clk.asserted = 0 →
    (x.clk.stage = 1 → Completes s sd (.startWaitExpiry sd) fun y => y.clk = { x.clk with stage := 2 } ∧ { y with clk := x.clk } = x) ∧
    (∀ counts : Vector Nat 16, x.clk.stage = 2 → 520 ≤ meanOf16 counts.toList.sum → meanOf16 counts.toList.sum ≤ 820 →
      Completes s sd (.xinCalibrationDone sd counts) fun y =>
        y.get F.CK_XMON_CNT_CAL = meanOf16 counts.toList.sum ∧ y.get F.CK_XMON_STAT_CAL_DONE = 1 ∧ y.get F.CK_XMON_STAT_XIN_OK = 1 ∧
        y.clk = { x.clk with stage := 4 } ∧ x.FieldsOnly { y with clk := x.clk }
          [F.CK_XMON_CNT_CAL, F.CK_XMON_CNT_LAST, F.CK_XMON_STAT_CAL_DONE, F.CK_XMON_STAT_XIN_OK]) ∧
    (∀ counts : Vector Nat 16, x.clk.stage = 2 → meanOf16 counts.toList.sum < 520 → x.flag F.CK_XLOSS_VALID = false →
      Completes s sd (.xinCalibrationDone sd counts) fun y =>
        y.get F.CK_XMON_STAT_CAL_DONE = 0 ∧ y.get F.CK_XLOSS_CAUSE = 6 ∧ y.clk = { x.clk with stage := 3 }) ∧
    (x.clk.stage = 4 → Completes s sd (.syspllLock sd) fun y => y.get F.CK_SYSPLL_LOCK = 1 ∧ y.get F.CK_XMON_STAT_SYSPLL_LOCK = 1 ∧
      x.FieldsOnly y [F.CK_SYSPLL_LOCK, F.CK_XMON_STAT_SYSPLL_LOCK]) ∧
    (x.clk.stage = 4 → x.flag F.CK_SERPLL_HOLD = false → Completes s sd (.serpllLock sd 0) fun y =>
      x.BitIs y F.CK_SERPLL_LOCK 0 true ∧ x.FieldsOnly y [F.CK_SERPLL_LOCK]) ∧
    (x.clk.stage = 4 → x.flag F.CK_SYSPLL_LOCK = true → x.bit F.CK_SERPLL_LOCK 0 = true →
      (Completes s sd (.islandMuxSwitch ⟨sd, true⟩) fun y => y.get F.CK_MUX_STAT_ISLAND_SRC = 1 ∧ y.get F.CK_MUX_STAT_SWITCHING = 0 ∧
        y.clk = { x.clk with stage := 5 } ∧ x.FieldsOnly { y with clk := x.clk } [F.CK_MUX_STAT_ISLAND_SRC, F.CK_MUX_STAT_SWITCHING]) ∧
      (Completes s sd (.islandMuxSwitch ⟨sd, false⟩) fun y => y.get F.CK_MUX_STAT_SWITCHING = 1 ∧ x.FieldsOnly y [F.CK_MUX_STAT_SWITCHING]) ∧
      (x.flag F.CK_MUX_STAT_SWITCHING = true →
        Completes s sd (.muxForcedSwitch sd false) fun y => y.get F.CK_MUX_STAT_ISLAND_SRC = 1 ∧ y.get F.CK_MUX_STAT_SWITCHING = 0 ∧
        y.get F.CK_XMON_STAT_CK_FORCED_SWITCH = 1 ∧ y.clk = { x.clk with stage := 5 } ∧
        x.FieldsOnly { y with clk := x.clk } [F.CK_MUX_STAT_ISLAND_SRC, F.CK_MUX_STAT_SWITCHING, F.CK_XMON_STAT_CK_FORCED_SWITCH])) ∧
    (x.clk.stage = 4 → x.flag F.CK_SYSPLL_LOCK = false → x.flag F.CK_XLOSS_VALID = false →
      Completes s sd (.startupRetry sd .unlocked) fun y => y.get F.CK_XLOSS_CAUSE = 5 ∧ y.clk = { x.clk with stage := 2 } ∧
        x.FieldsOnly { y with clk := x.clk } (again ++ xloss)) ∧
    (2 ≤ x.clk.stage → x.flag F.CK_XLOSS_VALID = false →
      Completes s sd (.startupRetry sd .noEdge) fun y => y.get F.CK_XLOSS_CAUSE = 1 ∧ y.get F.CK_XMON_STAT_XIN_OK = 0 ∧
        y.get F.CK_MUX_STAT_ISLAND_SRC = 0 ∧ y.clk = { x.clk with stage := 2 } ∧
        x.FieldsOnly { y with clk := x.clk } (F.CK_XMON_STAT_XIN_OK :: again ++ xloss)) ∧
    (x.clk.stage = 3 → Completes s sd (.startupRetry sd .calibration) fun y => y.clk = { x.clk with stage := 2 } ∧
      x.FieldsOnly { y with clk := x.clk } again) ∧
    (x.clk.stage = 5 → Completes s sd (.frogEntry sd) fun y => y.mode = .frog ∧ y.get F.MM_STAT_FROG = 1 ∧
      x.FieldsOnly { y with mode := x.mode } [F.MM_STAT_FROG])

/-- R263, R265, R267, R268, R269: each detected loss of XIN or of SYSPLL's lock puts a Side whose islands run into Coast: the cause, the
mode and the row are recorded, the row work is abandoned, SERPLL holds, and firmware raises XLOSS; the time counter keeps a value that it
had within the row (R279; log entry 127). In Reset the cause is recorded and the start-up begins again at XIN's calibration (R252). A window
within its limits changes only the monitor's registers. -/
def Obligations.ClockLossCoasts : Prop :=
  ∀ (s : State) (sd : SideId), let x := s.side sd
    let coasts := fun (cause : Nat) (y : Side) => x.Moved y .coast ∧ y.get F.CK_XLOSS_CAUSE = cause ∧ y.get F.CK_XLOSS_MODE = x.mode.code ∧
      y.get F.CK_XLOSS_VALID = 1 ∧ y.get F.CK_XMON_STAT_COASTING = 1 ∧ y.get F.CK_SERPLL_HOLD = 1 ∧ y.get F.CK_SYSPLL_COAST = 1 ∧
      y.RowStopped ∧ y.fw.evtSeq = (x.fw.evtSeq + 1) % 2 ^ 32 ∧ y.MemoryKept x ∧ y.takes = x.takes ∧ y.twin = x.twin ∧
      { y.tm with pulses := x.tm.pulses } = x.tm ∧ x.counter ≤ y.counter ∧ y.counter ≤ max x.counter (x.rowEnd - 1) ∧
      (x.tm.started = false → y.counter = x.counter ∧ y.tm = x.tm) ∧ y.row = x.row ∧ (∀ k : Fin 32, y.cores[k].r = x.cores[k].r ∧ y.cores[k].pc = x.cores[k].pc) ∧
      ∀ f : Fld, (∀ g ∈ [F.CK_XMON_STAT_XLOSS, F.CK_XLOSS_SEEN, F.CK_XLOSS_CAUSE, F.CK_XLOSS_MODE, F.CK_XLOSS_VALID, F.CK_XLOSS_ROW_LO,
        F.CK_XLOSS_ROW_HI, F.PW_MODE_PREV, F.PW_MODE_ROW_LO, F.PW_MODE_ROW_HI, F.XA_STAT_IN_ROW, F.XA_STAT_REFILL, F.XA_STAT_COLLAPSE, F.AP_GPIO_OUT,
        F.SH_LINK_STATE 0, F.SH_LINK_STATE 1, F.SH_LINK_STATE 2, F.SH_LINK_STATE 3, F.MM_STAT_FROG, F.MM_STAT_SWATCH, F.MM_SWATCH_STAT_BUSY, F.CK_XMON_STAT_XIN_OK,
        F.CK_XMON_CNT_LAST, F.CK_XMON_STAT_SYSPLL_LOCK, F.CK_XMON_STAT_COASTING, F.CK_SYSPLL_LOCK, F.CK_SYSPLL_COAST,
        F.CK_SYSPLL_UNLOCKS, F.CK_SERPLL_HOLD], f.key ≠ g.key) → y.get f = x.get f
    (x.clocked = true → x.flag F.CK_XLOSS_VALID = false →
      Completes s sd (.xinNoEdge sd) (coasts 1) ∧
      (∀ n : Nat, n < 2 ^ 16 → x.flag F.CK_XMON_STAT_CAL_DONE = true → 8 * n < 7 * x.get F.CK_XMON_CNT_CAL →
        Completes s sd (.xinWindowEnd sd n) (coasts 2)) ∧
      (∀ n : Nat, n < 2 ^ 16 → x.flag F.CK_XMON_STAT_CAL_DONE = true → 7 * x.get F.CK_XMON_CNT_CAL ≤ 8 * n →
        9 * x.get F.CK_XMON_CNT_CAL < 8 * n → Completes s sd (.xinWindowEnd sd n) (coasts 3)) ∧
      (∀ w : Nat, 10 ≤ w → w ≤ 30 → Completes s sd (.xinGlitch sd w) (coasts 4)) ∧
      (x.flag F.CK_SYSPLL_LOCK = true → Completes s sd (.syspllUnlock sd) (coasts 5))) ∧
    (x.mode = .reset → 2 ≤ x.clk.stage → x.flag F.CK_XLOSS_VALID = false → ∀ c ∈ [(Instr.xinNoEdge sd, 1), (.xinGlitch sd 20, 4), (.syspllUnlock sd, 5)],
      (c.2 = 5 → x.flag F.CK_SYSPLL_LOCK = true) → Completes s sd c.1 fun y => y.mode = .reset ∧ y.get F.CK_XLOSS_CAUSE = c.2 ∧
        y.get F.CK_XLOSS_MODE = 1 ∧ y.get F.CK_XMON_STAT_CAL_DONE = 0 ∧ y.get F.CK_MUX_STAT_ISLAND_SRC = 0 ∧
        y.clk = { x.clk with stage := 2 } ∧ y.fw = x.fw) ∧
    ∀ n : Nat, n < 2 ^ 16 → x.alive = true → x.flag F.CK_XMON_STAT_CAL_DONE = true → 7 * x.get F.CK_XMON_CNT_CAL ≤ 8 * n →
      8 * n ≤ 9 * x.get F.CK_XMON_CNT_CAL → Completes s sd (.xinWindowEnd sd n) fun y =>
        y.get F.CK_XMON_CNT_LAST = n ∧ y.get F.CK_XMON_STAT_XIN_OK = 1 ∧ x.FieldsOnly y [F.CK_XMON_CNT_LAST, F.CK_XMON_STAT_XIN_OK]

/-- R258, R259, R261, R495, Table CK-6: the soft close of an island's gate waits for its fabric port, closes, or gives up; a hard close and
an opening act at once. Here for an island with no row work unfinished and nothing outstanding or held back. While the soft close runs the
fabric holds a write of one of the island's registers back, and it reaches the register once the close has given up. R255, R256, R257, R262:
CLKOBS takes a newly selected source that runs, refuses one that does not, waits for the old clock where that does not run, and is forced
over; its divider changes at an edge. -/
def Obligations.GatesAndClkobs : Prop :=
  (∀ (s : State) (sd : SideId) (g : Fin 41) (n : Nat) (w : Writer), let x := s.side sd
    let bits := fun (l : List (Fld × Fld × Fld)) => l.flatMap (fun p => [p.1, p.2.1, p.2.2])
    let stat := (F.CK_GATE_STAT_LO, F.CK_GATE_STAT_HI_A, F.CK_GATE_STAT_HI_B)
    let req := (F.CK_GATE_REQ_LO, F.CK_GATE_REQ_HI_A, F.CK_GATE_REQ_HI_B)
    let late := (F.CK_GATE_TO_LO, F.CK_GATE_TO_HI_A, F.CK_GATE_TO_HI_B)
    let only := fun (y : Side) l => x.FieldsOnly { y with clk := x.clk } (bits l) ∧ { y.clk with closing := x.clk.closing } = x.clk
    let idle := (∀ k : Fin 32, x.cores[k].inRow = false) ∧ x.cross.inRow = false ∧ x.gauge.waits = none ∧ x.pages.unfinished = []
    let clear := x.clk.held = [] ∧ x.dma.job = none ∧ x.fab.wait = []
    x.alive = true → gateExists g = true →
    (s.mayWrite sd w = true → x.gateHard g = false → x.gateOpen g = true → Completes s sd (.gateSoftCloseRequest sd w g) fun y =>
      y.gateReq g = true ∧ y.gateOpen g = true ∧ y.clk.closing.testBit g = true ∧ only y [req]) ∧
    (x.clk.closing.testBit g = true → x.fabBusy g = false → idle → clear → Completes s sd (.gateSoftClose sd g n) fun y =>
      y.gateOpen g = false ∧ y.clk.closing.testBit g = false ∧ only y [stat]) ∧
    (x.clk.closing.testBit g = true → clear → Completes s sd (.gateSoftCloseTimeout sd g) fun y =>
      y.gateReq g = false ∧ y.clk.closing.testBit g = false ∧ y.get F.CK_XMON_STAT_GATE_TIMEOUT = 1 ∧
      y.gateBit F.CK_GATE_TO_LO F.CK_GATE_TO_HI_A F.CK_GATE_TO_HI_B g = true ∧
      only y [req, late, (F.CK_XMON_STAT_GATE_TIMEOUT, F.CK_XMON_STAT_GATE_TIMEOUT, F.CK_XMON_STAT_GATE_TIMEOUT)]) ∧
    (s.mayWrite sd w = true → x.gateHard g = true → x.gateOpen g = true → x.fabBusy g = false → idle → clear →
      Completes s sd (.gateHardClose sd w g n) fun y => y.gateReq g = true ∧ y.gateOpen g = false ∧ only y [req, stat]) ∧
    (s.mayWrite sd w = true → clear → Completes s sd (.gateOpen sd w g) fun y =>
      y.gateReq g = false ∧ y.gateOpen g = true ∧ y.clk.closing.testBit g = false ∧ only y [req, stat]) ∧
    (∀ run : Bool, g.val = 32 → x.clk.closing = 2 ^ 32 → x.gateOpen 32 = true → clear → s.mayWrite sd w = true → ∃ t,
      exec (.crossRun sd w run) s = .next t ∧ { (t.side sd).clk with held := [] } = x.clk ∧ (t.side sd).clk.held.length = 1 ∧
      { t.side sd with clk := x.clk } = x ∧ Elsewhere s t sd ∧
      Completes t sd (.gateSoftCloseTimeout sd g) fun y => y.gateOpen 32 = true ∧ y.clk.held = [] ∧ y.get F.XA_CTRL_RUN = run.toNat)) ∧
  (∀ (s : State) (sd : SideId) (w : Writer) (sel : Fin 32), let x := s.side sd
    s.mayWrite sd w = true → x.get F.CK_OBS_SEL ≠ sel.val → x.clk.obsSel ≠ sel.val →
    (x.obsRuns sel = true → x.obsRuns x.clk.obsSel = true → Completes s sd (.clkobsSelect sd w sel) fun y =>
      y.get F.CK_OBS_SEL = sel ∧ y.clk = { x.clk with obsSel := sel } ∧ y.get F.CK_MUX_STAT_OBS_SWITCHING = 0 ∧
      x.FieldsOnly { y with clk := x.clk } [F.CK_OBS_SEL, F.CK_MUX_STAT_OBS_SWITCHING]) ∧
    (x.obsRuns sel = false → Completes s sd (.clkobsSelect sd w sel) fun y =>
      y.get F.CK_OBS_SEL = sel ∧ y.get F.CK_XMON_STAT_MUX_REFUSED = 1 ∧ x.FieldsOnly y [F.CK_OBS_SEL, F.CK_XMON_STAT_MUX_REFUSED]) ∧
    (x.obsRuns sel = true → x.obsRuns x.clk.obsSel = false → Completes s sd (.clkobsSelect sd w sel) fun y =>
      y.get F.CK_OBS_SEL = sel ∧ y.get F.CK_MUX_STAT_OBS_SWITCHING = 1 ∧
      x.FieldsOnly y [F.CK_OBS_SEL, F.CK_MUX_STAT_OBS_SWITCHING]) ∧
    (x.flag F.CK_MUX_STAT_OBS_SWITCHING = true → x.obsRuns (x.get F.CK_OBS_SEL) = true → Completes s sd (.muxForcedSwitch sd true) fun y =>
      y.clk = { x.clk with obsSel := x.get F.CK_OBS_SEL } ∧ y.get F.CK_XMON_STAT_CK_FORCED_SWITCH = 1 ∧
      y.get F.CK_MUX_STAT_OBS_SWITCHING = 0 ∧
      x.FieldsOnly { y with clk := x.clk } [F.CK_XMON_STAT_CK_FORCED_SWITCH, F.CK_MUX_STAT_OBS_SWITCHING]) ∧
    Completes s sd (.clkobsDividerChange sd) fun y => y.clk = { x.clk with obsDiv := x.get F.CK_OBS_DIV } ∧ { y with clk := x.clk } = x)

/-! ### Stitch cores -/

/-- R68, R70, R108 to R110, Tables SI-4 to SI-6: in every enabled lane the multiply instructions add, subtract, load or negate the product of
sample and coefficient shifted by S, clamp into the accumulator, and step their pointers; TAP also writes its sample behind, MACR may load
or store a data register in parallel. -/
def Obligations.Multiplies : Prop :=
  ∀ (s : State) (sd : SideId) (k : Fin 32), let x := s.side sd
    let r := (x.cores[k]).r
    (∀ (m : FmtM) (tap : Bool), ∀ c ∈ (if tap then
          [(Instr.tap sd k m, FSel.add), (.taps sd k m, .sub), (.tapl sd k m, .load), (.tapn sd k m, .neg)]
        else [(.macmMac sd k m, .add), (.macmMsu sd k m, .sub), (.macmMpy sd k m, .load), (.macmMpyn sd k m, .neg)]),
      x.Issues k (if tap then .tap c.2 m else .macm c.2 m) →
      Completes s sd c.1 fun y =>
      let q := (y.cores[k]).regsBut r
        let va := x.mofAddr k r m.mofa
        let v := fun l => fselApply c.2 (r.a[m.acc][l]).toInt
          ((sampleOf (x.laneWord k m.mofa.sp va l)).toInt * (sampleOf (x.laneWord k m.mofb.sp (x.mofAddr k r m.mofb) l)).toInt * 2 ^ m.s.val)
        r.Accumulated q m.le m.acc v ∧ { q with a := r.a, ovf := r.ovf } = r.step2 m.mofa m.mofb ∧
        x.Accumulates y k q (clampedLanes m.le v) ∧
        if tap ∧ mofTapOk m.mofa = true then
          x.Stored y (x.vecAddr k .x (r.lowHalf m.mofa va)) m.le (fun l => wordOf (sampleOf (x.laneWord k .x va l)))
        else y.mem = x.mem) ∧
    ∀ o : FmtR, ∀ c ∈ [(Instr.macrMac sd k o, FSel.add), (.macrMsu sd k o, .sub), (.macrMpy sd k o, .load), (.macrMpyn sd k o, .neg)],
      x.Issues k (.macr c.2 o) →
      Completes s sd c.1 fun y =>
      let q := (y.cores[k]).regsBut r
        let word := fun l => sampleOf (x.laneWord k o.mof.sp (x.mofAddr k r o.mof) l)
        let v := fun l => fselApply c.2 (r.a[o.acc][l]).toInt
          ((r.v[o.da][l]).toInt * (if o.csel then word l else r.v[o.db][l]).toInt * 2 ^ o.s.val)
        r.Accumulated q o.le o.acc v ∧
        { q with a := r.a, ovf := r.ovf, v := r.v } = (if o.csel ∨ o.mdir = 1 ∨ o.mdir = 2 then r.step1 o.mof else r) ∧
        (if o.csel = false ∧ o.mdir = 1 then LanesTake o.le r.v[o.dm] q.v[o.dm] word ∧ ∀ d : Fin 8, d ≠ o.dm → q.v[d] = r.v[d]
          else q.v = r.v) ∧
        x.Accumulates y k q (clampedLanes o.le v) ∧
        if o.csel = false ∧ o.mdir = 2 ∧ x.mofWrites k o.mof = true then
          x.Stored y (x.vecAddr k o.mof.sp (x.mofAddr k r o.mof)) o.le (fun l => wordOf (r.v[o.dm][l]))
        else y.mem = x.mem

/-- R69, R72, R111, R114: the double-precision multiplies and the accumulator loads, from memory or from registers. -/
def Obligations.DoublesAndLoadsOfAccumulators : Prop :=
  ∀ (s : State) (sd : SideId) (k : Fin 32), let x := s.side sd
    let r := (x.cores[k]).r
    let word := fun (sp : Space) (v : BitVec 16) (l : Fin 4) => sampleOf (x.laneWord k sp v l)
    (∀ o : FmtD, ∀ c ∈ [(Instr.dmac sd k o, FSel.add), (.dmsu sd k o, .sub), (.dmpy sd k o, .load), (.dmpyn sd k o, .neg)],
      x.Issues k (.dmac c.2 o) →
      Completes s sd c.1 fun y =>
      let q := (y.cores[k]).regsBut r
        let va := x.mofAddr k r o.mofa
        let d := fun l => if o.dsrc then (word o.mofa.sp va l ++ word o.mofa.sp (r.lowHalf o.mofa va) l).toInt
          else (r.v[pairHigh o.n][l] ++ r.v[pairLow o.n][l]).toInt
        let v := fun l => fselApply c.2 (r.a[o.acc][l]).toInt
          (d l * (word o.mofb.sp (x.mofAddr k r o.mofb) l).toInt / 2 ^ 23 * 2 ^ o.s.val)
        r.Accumulated q o.le o.acc v ∧
        { q with a := r.a, ovf := r.ovf } = (if o.dsrc then r.step2 o.mofa o.mofb else r.step1 o.mofb) ∧
        x.Accumulates y k q (clampedLanes o.le v) ∧ y.mem = x.mem) ∧
    ∀ o : LdaF, ∀ c ∈ [(Instr.ada sd k o, FSel.add), (.sba sd k o, .sub), (.lda sd k o, .load), (.ldan sd k o, .neg)],
      x.Issues k (.lda c.2 o) →
      Completes s sd c.1 fun y =>
      let q := (y.cores[k]).regsBut r
        let va := x.mofAddr k r o.mof
        let n : Fin 4 := ⟨o.dr.val % 4, by omega⟩
        let d := fun l =>
          if o.src then
            if o.dbl then (word o.mof.sp va l ++ word o.mof.sp (r.lowHalf o.mof va) l).toInt else (word o.mof.sp va l).toInt * 2 ^ 23
          else if o.dbl then (r.v[pairHigh n][l] ++ r.v[pairLow n][l]).toInt else (r.v[o.dr][l]).toInt * 2 ^ 23
        let v := fun l => fselApply c.2 (r.a[o.acc][l]).toInt (d l)
        r.Accumulated q o.le o.acc v ∧ { q with a := r.a, ovf := r.ovf } = (if o.src then r.step1 o.mof else r) ∧
        x.Accumulates y k q (clampedLanes o.le v) ∧ y.mem = x.mem

/-- R112, R115, Table SI-8: the Format A instructions write the clamped result of their accumulators in every enabled lane, with OVF, Z and
N; function 7 is reserved and changes nothing. R70, R71: the overflow record of a core: no clamped lane changes nothing; the first one
writes the address and the lanes and raises ARITH, a later one sets MULTI; each counts. -/
def Obligations.AccumulatorArithmetic : Prop :=
  (∀ (s : State) (sd : SideId) (k : Fin 32) (o : FmtA), let x := s.side sd
    let r := (x.cores[k]).r
    let sh := (BitVec.ofNat 4 o.k.val).toInt
    (∀ c ∈ [((Instr.add sd k o, AFn.add), fun a b : Int => a + b), ((.sub sd k o, .sub), fun a b => a - b), ((.neg sd k o, .neg), fun a _ => -a),
        ((.abs sd k o, .abs), fun a _ => max a (-a)), ((.ash sd k o, .ash), fun a _ => a * 2 ^ (sh + 8).toNat / 2 ^ 8),
        ((.max sd k o, .max), fun a b => max a b), ((.min sd k o, .min), fun a b => min a b)],
      x.Issues k (.arith c.1.2 o) →
      Completes s sd c.1.1 fun y =>
      let q := (y.cores[k]).regsBut r
        let v := fun l => c.2 (r.a[o.aa][l]).toInt (r.a[o.ab][l]).toInt
        r.Accumulated q o.le o.ad v ∧ r.FlagsOf q o.le (fun l => (q.a[o.ad][l]).toInt) ∧
        { q with a := r.a, ovf := r.ovf, z := r.z, n := r.n } = r ∧ x.Accumulates y k q (clampedLanes o.le v) ∧ y.mem = x.mem) ∧
    (x.Issues k (.arith .reserved o) → Completes s sd (.accReservedFn sd k o) fun y => x.CoreIs y k ((x.cores[k]).issued r))) ∧
  (∀ (x : Side) (k : Fin 32) (pc : BitVec 14) (lanes : BitVec 4), let y := x.recordOvf k pc lanes
    (lanes = 0 → y = x) ∧
    (lanes ≠ 0 → y.get (F.SK_ARITH_CNT_OVF_COUNT k) = min (x.get (F.SK_ARITH_CNT_OVF_COUNT k) + 1) (2 ^ (F.SK_ARITH_CNT_OVF_COUNT k).len - 1) ∧
      (x.flag (F.SK_OVF_PC_VALID k) = true → y.get (F.SK_OVF_PC_MULTI k) = 1 ∧
        x.FieldsOnly y [F.SK_ARITH_CNT_OVF_COUNT k, F.SK_OVF_PC_MULTI k]) ∧
      (x.flag (F.SK_OVF_PC_VALID k) = false → y.get (F.SK_OVF_PC_PC k) = pc.toNat ∧ y.get (F.SK_OVF_PC_LANES k) = lanes.toNat ∧
        y.get (F.SK_OVF_PC_VALID k) = 1 ∧ x.Told y 3 k (leBytes 2 pc.toNat ++ leBytes 1 lanes.toNat) ∧
        x.FieldsOnly { y with fw := x.fw } [F.SK_ARITH_CNT_OVF_COUNT k, F.SK_OVF_PC_PC k, F.SK_OVF_PC_LANES k, F.SK_OVF_PC_VALID k])))

/-- R63, R102, R114: LD, LDW, MOV and CMOV write the enabled lanes of a data register or an accumulator and leave memory. -/
def Obligations.RegisterLoads : Prop :=
  ∀ (s : State) (sd : SideId) (k : Fin 32), let x := s.side sd
    let r := (x.cores[k]).r
    (∀ o : LdF, x.Issues k (.ld o) → Completes s sd (.ld sd k o) fun y =>
      let q := (y.cores[k]).regsBut r
      LanesTake o.le r.v[o.dr] q.v[o.dr] (fun l => sampleOf (x.laneWord k o.mof.sp (x.mofAddr k r o.mof) l)) ∧
      (∀ d : Fin 8, d ≠ o.dr → q.v[d] = r.v[d]) ∧ { q with v := r.v } = r.step1 o.mof ∧ x.CoreIs y k ((x.cores[k]).issued q)) ∧
    (∀ o : LdwF, o.dest = false → x.Issues k (.ldw o) → Completes s sd (.ldw sd k o) fun y =>
      let q := (y.cores[k]).regsBut r
      let w := fun l => (x.laneWord k o.mof.sp (x.mofAddr k r o.mof) l).toInt
      (∀ l, (q.a[o.acc][l]).toInt = if laneOn o.le l then w l * 2 ^ (23 - min o.k.val 8) else (r.a[o.acc][l]).toInt) ∧
      (∀ d : Fin 4, d ≠ o.acc → q.a[d] = r.a[d]) ∧ r.FlagsOf q o.le w ∧
      { q with a := r.a, z := r.z, n := r.n } = r.step1 o.mof ∧ x.CoreIs y k ((x.cores[k]).issued q)) ∧
    (∀ o : LdwF, o.dest = true → x.Issues k (.ldw o) → Completes s sd (.ldw sd k o) fun y =>
      let q := (y.cores[k]).regsBut r
      let w := fun l => roundHalfEven (x.laneWord k o.mof.sp (x.mofAddr k r o.mof) l).toInt (min o.k.val 8)
      let sat := hitLanes o.le (fun l => decide (w l < -(2 ^ 23) ∨ 2 ^ 23 - 1 < w l))
      (∀ l, (q.v[o.dr][l]).toInt = if laneOn o.le l then max (-(2 ^ 23)) (min (2 ^ 23 - 1) (w l)) else (r.v[o.dr][l]).toInt) ∧
      (∀ d : Fin 8, d ≠ o.dr → q.v[d] = r.v[d]) ∧ r.FlagsOf q o.le (fun l => (q.v[o.dr][l]).toInt) ∧ q.sat = r.sat ||| sat ∧
      { q with v := r.v, z := r.z, n := r.n, sat := r.sat } = r.step1 o.mof ∧
      y.cores[k] = (x.cores[k]).issued q ∧ (∀ j : Fin 32, j ≠ k → y.cores[j] = x.cores[j]) ∧ { y with cores := x.cores } = x.recordSat k sat) ∧
    (∀ o : MovF, x.Issues k (.mov o) → Completes s sd (.mov sd k o) fun y =>
      let q := (y.cores[k]).regsBut r
      LanesTake o.le r.v[o.dr] q.v[o.dr] (fun l => r.v[o.dr2][l]) ∧ (∀ d : Fin 8, d ≠ o.dr → q.v[d] = r.v[d]) ∧
      { q with v := r.v } = r ∧ x.CoreIs y k ((x.cores[k]).issued q)) ∧
    ∀ o : CmovF, x.Issues k (.cmov o) → Completes s sd (.cmov sd k o) fun y =>
      let q := (y.cores[k]).regsBut r
      let holds := fun l : Fin 4 => (o.cond = 0 ∧ r.z.getLsbD l = true) ∨ (o.cond = 1 ∧ r.z.getLsbD l = false) ∨
        (o.cond = 2 ∧ r.n.getLsbD l = true) ∨ (o.cond = 3 ∧ r.n.getLsbD l = false)
      (∀ l : Fin 4, q.v[o.dr][l] = if laneOn o.le l ∧ holds l then r.v[o.dr2][l] else r.v[o.dr][l]) ∧
      (∀ d : Fin 8, d ≠ o.dr → q.v[d] = r.v[d]) ∧ { q with v := r.v } = r ∧ x.CoreIs y k ((x.cores[k]).issued q)

/-- R73, R74, R114, R494: the stores and the rounding moves. A store writes the enabled lanes of the vector word that its operand names,
where the operand's region allows it; DSTA writes the low half beside it; each counts its saturated lanes. R73, R74: STA and DSTA round half
to even to 24 bits after a shift of K, or cut to 48 bits, and saturate. -/
def Obligations.StoresAndRoundingMoves : Prop :=
  (∀ (s : State) (sd : SideId) (k : Fin 32), let x := s.side sd
    let r := (x.cores[k]).r
    let put := fun (y : Side) (o : Mof) (le : Fin 16) (w : Fin 4 → BitVec 24) =>
      if x.mofWrites k o = true then x.Stored y (x.vecAddr k o.sp (x.mofAddr k r o)) le (fun l => wordOf (w l)) else y.mem = x.mem
    let done := fun (y : Side) (q : StitchRegs) (sat : BitVec 4) => y.cores[k] = (x.cores[k]).issued q ∧
      (∀ j : Fin 32, j ≠ k → y.cores[j] = x.cores[j]) ∧ { y with cores := x.cores, mem := x.mem } = x.recordSat k sat
    (∀ o : LdF, x.Issues k (.st o) → Completes s sd (.st sd k o) fun y =>
      put y o.mof o.le (fun l => r.v[o.dr][l]) ∧ done y (r.step1 o.mof) 0) ∧
    (∀ o : StaF, x.Issues k (.sta o) → Completes s sd (.sta sd k o) fun y =>
      let q := (y.cores[k]).regsBut r
      let w := fun l => store24 (r.a[o.acc][l]) (BitVec.ofNat 4 o.k.val).toInt
      put y o.mof o.le (fun l => (w l).1) ∧ r.FlagsOf q o.le (fun l => ((w l).1).toInt) ∧
      q.sat = r.sat ||| hitLanes o.le (fun l => (w l).2) ∧ { q with z := r.z, n := r.n, sat := r.sat } = r.step1 o.mof ∧
      done y q (hitLanes o.le (fun l => (w l).2))) ∧
    (∀ o : MvaF, x.Issues k (.mva o) → Completes s sd (.mva sd k o) fun y =>
      let q := (y.cores[k]).regsBut r
      let w := fun l => store24 (r.a[o.acc][l]) (BitVec.ofNat 4 o.k.val).toInt
      y.mem = x.mem ∧ LanesTake o.le r.v[o.dr] q.v[o.dr] (fun l => (w l).1) ∧ (∀ d : Fin 8, d ≠ o.dr → q.v[d] = r.v[d]) ∧
      r.FlagsOf q o.le (fun l => ((w l).1).toInt) ∧ q.sat = r.sat ||| hitLanes o.le (fun l => (w l).2) ∧
      { q with v := r.v, z := r.z, n := r.n, sat := r.sat } = r ∧ done y q (hitLanes o.le (fun l => (w l).2))) ∧
    (∀ o : DstaF, x.Issues k (.dsta o) → Completes s sd (.dsta sd k o) fun y =>
      let q := (y.cores[k]).regsBut r
      let w := fun l => store48 (r.a[o.acc][l]) (BitVec.ofNat 4 o.k.val).toInt
      let va := x.mofAddr k r o.mof
      let hi := x.vecAddr k o.mof.sp va
      let lo := x.vecAddr k o.mof.sp (r.lowHalf o.mof va)
      (if x.mofWrites k o.mof = true then
        (∀ (l : Fin 4) (i : Nat), laneOn o.le l = true → i < 4 →
          y.byte (lo + 4 * l.val + i) = (wordOf ((w l).1.extractLsb' 0 24)).extractLsb' (8 * i) 8 ∧
          (hi ≠ lo → y.byte (hi + 4 * l.val + i) = (wordOf ((w l).1.extractLsb' 24 24)).extractLsb' (8 * i) 8)) ∧
        ∀ a, (∀ (l : Fin 4) (i : Nat), laneOn o.le l = true → i < 4 → a ≠ lo + 4 * l.val + i ∧ a ≠ hi + 4 * l.val + i) →
          y.byte a = x.byte a
        else y.mem = x.mem) ∧
      r.FlagsOf q o.le (fun l => ((w l).1).toInt) ∧ q.sat = r.sat ||| hitLanes o.le (fun l => (w l).2) ∧
      { q with z := r.z, n := r.n, sat := r.sat } = r.step1 o.mof ∧ done y q (hitLanes o.le (fun l => (w l).2))) ∧
    ∀ o : DmvaF, x.Issues k (.dmva o) → Completes s sd (.dmva sd k o) fun y =>
      let q := (y.cores[k]).regsBut r
      let w := fun l => store48 (r.a[o.acc][l]) (BitVec.ofNat 4 o.k.val).toInt
      y.mem = x.mem ∧ LanesTake o.le r.v[pairHigh o.n] q.v[pairHigh o.n] (fun l => (w l).1.extractLsb' 24 24) ∧
      LanesTake o.le r.v[pairLow o.n] q.v[pairLow o.n] (fun l => (w l).1.extractLsb' 0 24) ∧
      (∀ d : Fin 8, d ≠ pairHigh o.n → d ≠ pairLow o.n → q.v[d] = r.v[d]) ∧ r.FlagsOf q o.le (fun l => ((w l).1).toInt) ∧
      q.sat = r.sat ||| hitLanes o.le (fun l => (w l).2) ∧ { q with v := r.v, z := r.z, n := r.n, sat := r.sat } = r ∧
      done y q (hitLanes o.le (fun l => (w l).2))) ∧
  (∀ (a : BitVec 56) (k : Int), -8 ≤ k → k ≤ 7 →
    (∃ q : Int, 2 * (a.toInt * 2 ^ (k + 8).toNat - q * 2 ^ 31).natAbs ≤ 2 ^ 31 ∧
      (2 * (a.toInt * 2 ^ (k + 8).toNat - q * 2 ^ 31).natAbs = 2 ^ 31 → q % 2 = 0) ∧
      (store24 a k).1.toInt = max (-(2 ^ 23)) (min (2 ^ 23 - 1) q) ∧ (store24 a k).2 = decide (q < -(2 ^ 23) ∨ 2 ^ 23 - 1 < q)) ∧
    (store48 a k).1.toInt = max (-(2 ^ 47)) (min (2 ^ 47 - 1) (a.toInt * 2 ^ (k + 8).toNat / 2 ^ 8)))

/-- R77, R101, R116 to R119, Tables SI-11 and SI-12: the shared registers, the flags, LOOP, JMP, NOP, EOR and a reserved opcode. -/
def Obligations.SharedRegistersAndFlow : Prop :=
  ∀ (s : State) (sd : SideId) (k : Fin 32), let x := s.side sd
    let c := x.cores[k]
    let r := c.r
    (∀ o : PsetF, x.Issues k (.pset o) → Completes s sd (.pset sd k o) fun y =>
      x.CoreIs y k (c.issued (r.putShared o.cls o.idx (BitVec.ofNat 16 o.imm.val)))) ∧
    (∀ o : PaddF, x.Issues k (.padd o) → Completes s sd (.padd sd k o) fun y =>
      x.CoreIs y k (c.issued { r with p := r.p.set o.idx (postModify r.p[o.idx] (BitVec.ofNat 16 o.imm.val).toInt r.l[o.idx]) })) ∧
    (∀ o : PmovF, x.Issues k (.pmov o) → Completes s sd (.pmov sd k o) fun y =>
      x.CoreIs y k (c.issued (match r.shared o.scls o.sidx with | some v => r.putShared o.cls o.idx v | none => r))) ∧
    (∀ m : Fin 8, x.Issues k (.clrf m) → Completes s sd (.clrf sd k m) fun y =>
      let q := (y.cores[k]).regsBut r
      q.ovf = (if m.val % 2 = 1 then 0 else r.ovf) ∧ q.sat = (if m.val / 2 % 2 = 1 then 0 else r.sat) ∧
      q.loopErr = (if m.val / 4 = 1 then false else r.loopErr) ∧ { q with ovf := r.ovf, sat := r.sat, loopErr := r.loopErr } = r ∧
      x.CoreIs y k (c.issued q)) ∧
    (∀ o : LoopF, x.Issues k (.loop o) → Completes s sd (.loop sd k o) fun y =>
      let n := if o.csrc then r.p[o.idx] else BitVec.ofNat 16 o.count.val
      let stop := BitVec.ofNat 14 o.stop.val
      x.CoreIs y k
        (if o.stop.val ≤ c.pc.toNat ∨ c.pc ∈ r.loopEnds then c.issued r
        else if n = 0 then c.went { c with pc := stop + 1 }
        else if 4 ≤ r.depth then c.issued { r with loopErr := true }
        else c.went { c with
          pc := c.pc + 1
          r := { r with
            inner := some (c.pc + 1, stop), lc := n
            stack := (r.inner.map (fun p => { start := p.1, stop := p.2, count := r.lc : LoopEntry })).toList ++ r.stack } })) ∧
    (∀ o : JmpF, x.Issues k (.jmp o) →
      let z := fun l : Fin 4 => r.z.getLsbD l
      let n := fun l : Fin 4 => r.n.getLsbD l
      let taken := o.cond = 0 ∨ (o.cond = 1 ∧ ∃ l, laneOn o.le l = true ∧ z l = true) ∨
        (o.cond = 2 ∧ o.le ≠ 0 ∧ ∀ l, laneOn o.le l = true → z l = true) ∨ (o.cond = 3 ∧ ∃ l, laneOn o.le l = true ∧ n l = true) ∨
        (o.cond = 4 ∧ o.le ≠ 0 ∧ ∀ l, laneOn o.le l = true → n l = true)
      (taken → Completes s sd (.jmp sd k o) fun y => x.CoreIs y k (c.went { c with pc := BitVec.ofNat 14 o.target.val })) ∧
      (¬taken → Completes s sd (.jmp sd k o) fun y => x.CoreIs y k (c.issued r))) ∧
    (x.Issues k .nop → Completes s sd (.nop sd k) fun y => x.CoreIs y k (c.issued r)) ∧
    (x.Issues k .eor → Completes s sd (.eor sd k) fun y => x.CoreIs y k { c.issued r with eorIssued := true }) ∧
    ∀ op : Fin 64, x.Issues k (.reserved op) → Completes s sd (.reservedOpcode sd k op) fun y => x.CoreIs y k (c.issued r)

/-- R77, R81: a pointer that lies in its circular buffer stays in it under any step, and moves by the step modulo the length; without a
length it moves by the step modulo 2^16. R82, R83, R120, R446: FLD and FST enter the far queue; one outside the group's banks is discarded
and sets FAR_ERR. The oldest entry completes: a load brings a vector word's samples, a store writes them. -/
def Obligations.PointersAndFarAccesses : Prop :=
  (∀ (p : BitVec 16) (m : Int) (len : BitVec 14),
    (len = 0 → (postModify p m len).toNat = (p.toNat + m) % 65536) ∧
    (len ≠ 0 → len.toNat ≤ 8192 → ∃ base size : Nat, base ≤ p.toNat ∧ p.toNat < base + size ∧ base % size = 0 ∧ len.toNat ≤ size ∧
      size < 2 * len.toNat ∧ base ≤ (postModify p m len).toNat ∧ (postModify p m len).toNat < base + len.toNat ∧
      ((postModify p m len).toNat - (base : Int) - (p.toNat - base + m)) % len.toNat = 0)) ∧
  (∀ (s : State) (sd : SideId) (k : Fin 32), let x := s.side sd
    let c := x.cores[k]
    (∀ (o : FarF) (ld : Bool), x.Issues k (if ld then .fld o else .fst o) →
      Completes s sd (if ld then .fld sd k o else .fst sd k o) fun y =>
        let t := c.r.farAddr o.j
        let bad := decide (12 ≤ t.1 ∨ x.bankOwnerOf t.1 ≠ 1 + k.val / 4 ∨ x.bankOn t.1 = false)
        y.cores[k] = { c.issued (if o.post then c.r.farStep o.j else c.r) with
          far := c.far ++ [{ load := ld, dr := o.dr, le := o.le, bank := t.1, addr := t.2, data := c.r.v[o.dr], discarded := bad }] } ∧
        (∀ j : Fin 32, j ≠ k → y.cores[j] = x.cores[j]) ∧
        if bad = true then y.get (F.SK_STAT_FAR_ERR k) = 1 ∧ x.FieldsOnly { y with cores := x.cores } [F.SK_STAT_FAR_ERR k]
        else { y with cores := x.cores } = x) ∧
    ∀ (f : FarAcc) (rest : List FarAcc), x.alive = true → x.gateOpen k = true → x.upsets = [] → c.far = f :: rest →
      Completes s sd (.farAccessComplete sd k) fun y =>
        (∀ j : Fin 32, j ≠ k → y.cores[j] = x.cores[j]) ∧ { y with cores := x.cores, mem := x.mem } = x ∧
        (f.load = true → y.mem = x.mem ∧ { y.cores[k] with r := c.r } = { c with far := rest, farWait := false } ∧
          LanesTake f.le c.r.v[f.dr] (y.cores[k]).r.v[f.dr]
            (fun l => if f.discarded then 0 else sampleOf (x.rtWord (0x800000 * f.bank + 16 * f.addr + 4 * l.val)))) ∧
        (f.load = false → y.cores[k] = { c with far := rest, farWait := false } ∧
          if f.discarded then y.mem = x.mem else x.Stored y (0x800000 * f.bank + 16 * f.addr) f.le (fun l => wordOf (f.data[l]))))

/-- R46, R79, R90, R95, R98: what the bits of SK_CTRL do: RUN makes the next row the first, HALT halts and resumes, STEP issues the
instruction at the pc of a halted core, CLR_HWM and CLR_FLAGS clear; a breakpoint halts the core that reaches it. R24, R26, R88, R90, R93:
on its row pulse a running core publishes the row before (complete after EOR, held and an overrun without), clears READY of its IN and SUM
regions, and starts at INIT or ENTRY with an empty loop stack; a core without RUN starts nothing. -/
def Obligations.CoreControlAndRowPulse : Prop :=
  (∀ (s : State) (sd : SideId) (w : Writer) (k : Fin 32), let x := s.side sd
    let c := x.cores[k]
    s.Writes sd w (F.SK_CTRL_RUN k).off →
    (∀ v : Bool, Completes s sd (.coreRun sd w k v) fun y => y.get (F.SK_CTRL_RUN k) = v.toNat ∧
      x.CoreAnd y k (if v && !x.flag (F.SK_CTRL_RUN k) then { c with firstRow := true, inRow := false, done := false } else c)
        [F.SK_CTRL_RUN k]) ∧
    (∀ v : Bool, x.debugOn = true → Completes s sd (.coreHalt sd w k v) fun y => y.get (F.SK_CTRL_HALT k) = v.toNat ∧
      x.CoreAnd y k { c with halted := v, brkPass := !v && c.halted } [F.SK_CTRL_HALT k]) ∧
    (x.debugOn = true → c.halted = true → x.coreActive k = true → x.upsets = [] → Completes s sd (.coreStep sd w k) fun y =>
      y = (x.set (F.SK_CTRL_STEP k) 1).issueOp k (decodeStitch (x.pmWord k c.pc)) ∧ (y.cores[k]).halted = true) ∧
    (x.debugOn = true → c.halted = false → Completes s sd (.coreStep sd w k) fun y => y = x.set (F.SK_CTRL_STEP k) 1) ∧
    (Completes s sd (.coreClearHwm sd w k) fun y => y.get (F.SK_CYC_HWM k) = 0 ∧ x.FieldsOnly y [F.SK_CYC_HWM k, F.SK_CTRL_CLR_HWM k]) ∧
    (Completes s sd (.coreClearFlags sd w k) fun y =>
      x.CoreAnd y k { c with r := { c.r with ovf := 0, sat := 0, loopErr := false } } [F.SK_CTRL_CLR_FLAGS k]) ∧
    (x.coreActive k = true → c.halted = false → x.debugOn = true → x.flag (F.SK_BRK_EN k) = true →
      x.get (F.SK_BRK_ADDR k) = c.pc.toNat → c.brkPass = false →
      Completes s sd (.breakpointHalt sd k) fun y => x.CoreIs y k { c with halted := true })) ∧
  (∀ (s : State) (sd : SideId) (k : Fin 32) (e : PulseEnv), let x := s.side sd
    let c := x.cores[k]
    let prev := (x.pulse.row + 2 ^ 64 - 1) % 2 ^ 64
    let started := { c with
      pc := BitVec.ofNat 14 (if c.firstRow then x.get (F.SK_INIT k) else x.get (F.SK_ENTRY k)), r := { c.r with inner := none, stack := [] }
      inRow := true, done := false, firstRow := false, eorIssued := false, stallOn := [], farWait := false, brkPass := false }
    let ready := fun (y : Side) => ∀ g, g < 8 → x.get (F.SK_REG_KIND k g) = 1 ∨ x.get (F.SK_REG_KIND k g) = 2 → y.get (F.SK_REG_READY k g) = 0
    let out := fun (y : Side) (held idle : Nat) (toggle : Bool) => ∀ g, g < 8 → x.get (F.SK_REG_KIND k g) = 3 →
      y.get (F.SK_REG_HELD k g) = held ∧ y.get (F.SK_REG_IDLE k g) = idle ∧ y.get (F.SK_REG_ROW k g) = prev % 65536 ∧
      y.get (F.SK_REG_PAGE k g) = (if toggle then (1 - x.get (F.SK_REG_PAGE k g)) % 2 else x.get (F.SK_REG_PAGE k g))
    (x.pulsing = false → ∀ i : Island, Completes s sd (.rowPulseReceipt sd i e) fun y => y = x) ∧
    (x.pulsing = true → x.gateOpen k = true → names x.pulse.mask k = false →
      (x.producing = true → x.flag (F.SK_CTRL_RUN k) = true →
        (c.done = true → Completes s sd (.rowPulseReceipt sd (.core k) e) fun y => y.ThenGauge fun z => ready z ∧ out z 0 0 true ∧
          x.CoreAnd { z with pages := x.pages } k started (regionFields k)) ∧
        (c.done = false → c.inRow = true → Completes s sd (.rowPulseReceipt sd (.core k) e) fun y => y.ThenGauge fun z =>
          ready z ∧ out z 1 0 false ∧ z.cores[k] = started ∧
          z.get (F.SK_OVR_CNT_COUNT k) = min (x.get (F.SK_OVR_CNT_COUNT k) + 1) (2 ^ (F.SK_OVR_CNT_COUNT k).len - 1) ∧
          z.get (F.SK_STAT_OVR k) ≠ 0) ∧
        (c.done = false → c.inRow = false → Completes s sd (.rowPulseReceipt sd (.core k) e) fun y => y.ThenGauge fun z =>
          ready z ∧ out z 0 1 false ∧ x.CoreAnd { z with pages := x.pages } k started (regionFields k))) ∧
      ((x.producing = false ∨ x.flag (F.SK_CTRL_RUN k) = false) →
        Completes s sd (.rowPulseReceipt sd (.core k) e) fun y => y.ThenGauge fun z => ready z ∧ out z 0 1 false ∧
          x.CoreAnd { z with pages := x.pages } k { c with inRow := false, done := false, eorIssued := false, stallOn := [] }
            (regionFields k))) ∧
    (x.pulsing = true → x.gateOpen k = true → names x.pulse.mask k = true → c.refill = false →
      Completes s sd (.rowPulseReceipt sd (.core k) e) fun y => y.ThenGauge fun z =>
        z.get (F.SK_CBANK_ACTIVE k) = (1 - x.get (F.SK_CBANK_ACTIVE k)) % 2 ∧ z.get (F.SK_CBANK_SWAP_ROW k) = x.pulse.row % 65536 ∧
        (z.cores[k]).refill = true ∧ names z.takes.ackDue k = true ∧ z.MemoryKept x) ∧
    (x.pulsing = true → x.gateOpen 32 = true → Completes s sd (.rowPulseReceipt sd .cross e) fun y => y.ThenGauge fun z =>
      z.cross.row = x.pulse.row ∧ z.cross.inRow = (x.producing && x.flag F.XA_CTRL_RUN) ∧ z.cross.done = false ∧ z.cores = x.cores) ∧
    (x.pulsing = true → x.gateOpen 33 = true → Completes s sd (.rowPulseReceipt sd .gauge e) fun y =>
      y.gauge.row = x.pulse.row ∧ y.gauge.running = x.flag F.PB_CTRL_RUN ∧ y.cores = x.cores) ∧
    (x.pulsing = true → x.awaitsRow = true → ∀ i : Island, islandTransmits i = true →
      Completes s sd (.rowPulseReceipt sd i e) fun y =>
        y.twin.blendWait = x.twin.blendWait ++ [(i, e)] ∧ { y with twin := { y.twin with blendWait := x.twin.blendWait } } = x))

/-- R28, R47, R85, R87, R92, R94, R124, R159, R181: announcements reach their regions, refills copy the active bank but for the words written
since the swap, EOR retires with its cycle count, and an acknowledgement is noted in its Take. -/
def Obligations.RowWork : Prop :=
  ∀ (s : State) (sd : SideId), let x := s.side sd
    x.alive = true →
    (∀ (k : Fin 32) (g : Fin 8) (row : Nat) (m : Fin 3) (rest : List (Nat × Nat × Nat)), x.gateOpen k = true →
      x.pages.due = (8 * k.val + g.val, row, m.val) :: rest →
      Completes s sd (.publicationAnnounce sd ⟨8 * k.val + g.val, by omega⟩) fun y =>
        y.get (F.SK_REG_READY k g) = 1 ∧ y.get (F.SK_REG_ROW k g) = row % 65536 ∧ y.get (F.SK_REG_HELD k g) = (decide (m = 1)).toNat ∧
        y.get (F.SK_REG_IDLE k g) = (decide (m = 2)).toNat ∧
        y.get (F.SK_REG_PAGE k g) = (if m = 0 then (1 - x.get (F.SK_REG_PAGE k g)) % 2 else x.get (F.SK_REG_PAGE k g)) ∧
        y.pages = { x.pages with due := rest } ∧
        x.CoreAnd { y with pages := x.pages } k { x.cores[k] with stallOn := (x.cores[k]).stallOn.filter (fun r => r ≠ g.val) }
          [F.SK_REG_READY k g, F.SK_REG_ROW k g, F.SK_REG_HELD k g, F.SK_REG_IDLE k g, F.SK_REG_PAGE k g]) ∧
    (∀ (row m : Nat) (rest : List (Nat × Nat × Nat)), x.gateOpen 32 = true → x.pages.due = (256, row, m) :: rest →
      Completes s sd (.publicationAnnounce sd 256) fun y => y.cross.feedRow = some row ∧
        y.cross.feeds = (if m = 0 then x.cross.feedNext else x.cross.feeds) ∧ y.pages = { x.pages with due := rest } ∧
        { y with pages := x.pages, cross := { y.cross with feedRow := x.cross.feedRow, feeds := x.cross.feeds } } = x) ∧
    (∀ k : Fin 32, x.gateOpen k = true → (x.cores[k]).refill = true → x.get (F.SK_CBANK_ACTIVE k) < 2 → x.upsets = [] →
      Completes s sd (.cRefillDone sd k) fun y =>
        x.Copied y (cBank k (x.get (F.SK_CBANK_ACTIVE k))) (cBank k (1 - x.get (F.SK_CBANK_ACTIVE k))) 0x10000
          (fun o => (x.cores[k]).refillWritten.contains (o / 16)) ∧
        x.CoreIs { y with mem := x.mem } k { x.cores[k] with refill := false, refillWritten := [] }) ∧
    (x.gateOpen 33 = true → x.gauge.refill = true → x.active < 2 → x.upsets = [] → Completes s sd (.patchbayRefillDone sd) fun y =>
      x.Copied y (selBase x.active) (selBase (1 - x.active)) 0x10000 (fun o => x.gauge.written.contains (o / 4)) ∧
      y.get F.PB_STAT_REFILL = 0 ∧ y.gauge = { x.gauge with refill := false, written := [] } ∧
      x.FieldsOnly { y with mem := x.mem, gauge := x.gauge } [F.PB_STAT_REFILL]) ∧
    (∀ (k : Fin 32) (n : Nat), n < 65536 → x.clocked = true → x.gateOpen k = true → (x.cores[k]).inRow = true →
      (x.cores[k]).eorIssued = true → (∀ f ∈ (x.cores[k]).far, f.load = true) →
      Completes s sd (.eorRetire sd k n) fun y => y.get (F.SK_CYC_LAST k) = n ∧
        y.get (F.SK_CYC_HWM k) = max n (x.get (F.SK_CYC_HWM k)) ∧ y.get (F.SK_OVR_RUN_RUN k) = 0 ∧
        x.CoreAnd y k { x.cores[k] with
            inRow := false, done := true, eorIssued := false, snap := (x.cores[k]).r, snapRow := x.pulse.row
            snapBank := x.get (F.SK_CBANK_ACTIVE k) }
          [F.SK_CYC_LAST k, F.SK_CYC_HWM k, F.SK_OVR_RUN_RUN k]) ∧
    ∀ u : Fin 40, names x.takes.ackDue u = true → Completes s sd (.takeAck sd u) fun y =>
      names y.takes.ackDue u = false ∧
      (∀ q : Fin 8, y.takes.queue[q] = (x.takes.queue[q]).map (fun t =>
        if t.state = 4 ∧ t.row = some x.row ∧ names t.mask u = true then { t with acked := t.acked ||| 2 ^ u.val } else t)) ∧
      { y with takes := { y.takes with queue := x.takes.queue, ackDue := x.takes.ackDue } } = x

/-- R15, R40, R276 to R278: at a row boundary a Side whose counter runs takes the next row number, and its counter stands one row after the
last boundary; the first boundary of the counter is row 0. While no Rejoin is under way, the other Side and memory keep what they hold, and
of the host region only the heartbeat cells change. R126, R127, R130, R160: the Cross array completes its row: each sum that is not in a
ramp is the exact sum of products over the feeds, rounded half to even at 19 bits and saturated to 32; and the RUN bits of the Cross array
and the Patchbay. -/
def Obligations.RowBoundaryAndCrossRow : Prop :=
  (∀ (s : State) (sd : SideId) (missed : Bool), let x := s.side sd
    x.tm.partnerStep = none → x.tm.step = none → x.tm.align = none → x.tm.resume = none → x.fw.held = [] →
    x.awaitsRow = false → s.rejoinSide = none →
    (x.pulsing = true → ∃ t, exec (.rowBoundary sd missed) s = .next t ∧
      (x.tm.started = true → (t.side sd).row = (x.row + 1) % 2 ^ 64 ∧
        (t.side sd).counter = wrapCounter (x.tm.base + rowUnits x.rate)) ∧
      (x.tm.started = false → (t.side sd).row = 0 ∧ (t.side sd).counter = 0) ∧
      (t.side sd).pulse.row = (t.side sd).row ∧ (t.side sd).mem = x.mem ∧ (t.side sd).tm.started = true ∧
      t.side sd.other = s.side sd.other ∧ s.host.FieldsOnly t.host [F.HP_SEAM_HB_COUNT sd.num, F.HP_SEAM_HB_MODE sd.num] ∧
      t.pending = s.pending) ∧
    (x.clocked = false → Completes s sd (.rowBoundary sd missed) fun y => y = x)) ∧
  (∀ (s : State) (sd : SideId), let x := s.side sd
    (∀ n : Nat, n < 65536 → x.clocked = true → x.gateOpen 32 = true → x.cross.inRow = true → x.cross.wasIdle = false →
      x.cross.feedRow = some x.cross.row →
      (∀ i, i < x.sums → x.ramping i = false) → x.cross.refill = [] → x.cross.collapse = [] → x.upsets = [] →
      Completes s sd (.crossRowComplete sd n) fun y =>
        (∀ i, i < x.sums → (Sparse.get (fun _ => 0#32) y.cross.work i).toInt =
          max (-(2 ^ 31)) (min (2 ^ 31 - 1) (roundHalfEven (x.exactSum (x.get (F.XA_ROLE_LIVE i)) i) 19))) ∧
        y.cross = { x.cross with inRow := false, done := true, refill := [], collapse := [], written := [], work := y.cross.work } ∧
        y.get F.XA_CYC_LAST = n ∧ y.get F.XA_CYC_HWM = max n (x.get F.XA_CYC_HWM) ∧ y.get F.XA_STAT_IN_ROW = 0 ∧
        y.get F.XA_STAT_REFILL = 0 ∧ y.get F.XA_STAT_COLLAPSE = 0 ∧
        { y with mem := x.mem, regs := x.regs, cross := x.cross, fw := x.fw } = x ∧ (x.cross.deliver = [] → y.mem = x.mem)) ∧
    ∀ (w : Writer) (v : Bool),
      (s.Writes sd w F.XA_CTRL_RUN.off → Completes s sd (.crossRun sd w v) fun y => y.get F.XA_CTRL_RUN = v.toNat ∧
        (v = true → x.FieldsOnly y [F.XA_CTRL_RUN]) ∧
        (v = false → y.get F.XA_STAT_IN_ROW = 0 ∧ y.get F.XA_STAT_REFILL = 0 ∧ y.get F.XA_STAT_COLLAPSE = 0 ∧
          y.cross = { x.cross with wasIdle := true } ∧
          x.FieldsOnly { y with cross := x.cross } [F.XA_CTRL_RUN, F.XA_STAT_IN_ROW, F.XA_STAT_REFILL, F.XA_STAT_COLLAPSE])) ∧
      (s.Writes sd w F.PB_CTRL_RUN.off → Completes s sd (.patchbayRun sd w v) fun y =>
        y.get F.PB_CTRL_RUN = v.toNat ∧ x.FieldsOnly y [F.PB_CTRL_RUN]))

/-! ### Memory banks, the Swatch engine, Frog, the secure bank -/

/-- R443, R444: a write of a bank's STATE starts a change, one of 3 is discarded; the change ends with CUR at STATE, and a bank that comes
to Off holds zero. R452 to R458, Table MM-4, Table PW-4: a march runs over the macros of idle banks and is refused otherwise; a macro that
passes leaves the run, zero after March C-; one that fails is noted, and repaired only with REPAIR; the end gives RESULT, and the event or
the mode. -/
def Obligations.BanksAndMarches : Prop :=
  (∀ (s : State) (sd : SideId) (b : Fin 52), let x := s.side sd
    (∀ (w : Writer) (v : Fin 4), s.mayWrite sd w = true →
      Completes s sd (.bankStateWrite sd w b v) fun y =>
        (v = 3 → y = x) ∧ (v ≠ 3 → y.get (F.MM_BANK_STATE b) = v ∧
          y.get (F.MM_BANK_CUR b) = (if x.get (F.MM_BANK_CUR b) = v then v.val else 3) ∧
          x.FieldsOnly y [F.MM_BANK_STATE b, F.MM_BANK_CUR b])) ∧
    (x.alive = true → x.get (F.MM_BANK_CUR b) = 3 → x.get (F.MM_BANK_STATE b) < 4 →
      Completes s sd (.bankStateChangeDone sd b) fun y =>
        y.get (F.MM_BANK_CUR b) = x.get (F.MM_BANK_STATE b) ∧
        (x.get (F.MM_BANK_STATE b) = 2 → x.Zeroed y (bankRange b).1 (bankRange b).2) ∧ (x.get (F.MM_BANK_STATE b) ≠ 2 → y.mem = x.mem) ∧
        x.FieldsOnly { y with mem := x.mem, upsets := x.upsets } [F.MM_BANK_CUR b])) ∧
  (∀ (s : State) (sd : SideId), let x := s.side sd
    x.alive = true →
    (∀ (w : Writer) (bank : Fin 64) (all kind repair : Bool), s.mayWrite sd w = true →
      let unit := if all then 255 else bank.val
      (x.swatchMay unit = true → (repair && kind) = false → Completes s sd (.swatchGo sd w bank all kind repair) fun y =>
        y.swatch.map (fun r => (r.kind, r.repair, r.second, r.result, r.spares, r.unit, r.inMode)) =
          some (kind.toNat, repair, [], 0, 0, unit, false) ∧
        (∀ b ∈ swatchBanks unit, ∀ i, i < (bankMacros b).2 → (bankMacros b).1 + i ∈ (y.swatch.map SwatchRun.left).getD []) ∧
        y.get F.MM_SWATCH_STAT_BUSY = 1 ∧ y.get F.MM_STAT_SWATCH = 1 ∧ y.get F.MM_SWATCH_STAT_REPAIRS = 0 ∧ y.mem = x.mem) ∧
      (x.swatchMay unit = false ∨ (repair && kind) = true → Completes s sd (.swatchGo sd w bank all kind repair) fun y =>
        y.swatch = x.swatch ∧ y.get F.MM_SWATCH_STAT_RESULT = 3 ∧
        x.FieldsOnly y [F.MM_SWATCH_CTRL_BANK, F.MM_SWATCH_CTRL_ALL, F.MM_SWATCH_CTRL_KIND, F.MM_SWATCH_CTRL_REPAIR, F.MM_SWATCH_CTRL_GO,
          F.MM_SWATCH_STAT_RESULT])) ∧
    (∀ (r : SwatchRun) (m : Fin 649), x.swatch = some r → r.testing.contains m.val = true →
      (Completes s sd (.swatchMacroDone sd m []) fun y => y.get (F.MM_MACRO_LAST_FAIL m) = 0 ∧
        y.swatch = some { r with left := r.left.erase m, second := r.second.erase m } ∧
        (r.kind = 0 → x.Zeroed y (macroRange m).1 (macroRange m).2) ∧ (r.kind ≠ 0 → y.mem = x.mem)) ∧
      ∀ f : Nat × Nat × Nat, f.1 < 65536 → r.repair = false → r.second.contains m.val = false → x.flag F.MM_SWATCH_FAIL_VALID = false →
        Completes s sd (.swatchMacroDone sd m [f]) fun y => y.get (F.MM_MACRO_LAST_FAIL m) = 1 ∧ y.get F.MM_SWATCH_FAIL_VALID = 1 ∧
          y.get F.MM_SWATCH_FAIL_MACRO = m ∧ y.swatch = some { r with left := r.left.erase m, second := r.second.erase m, result := 2 }) ∧
    ∀ r : SwatchRun, x.swatch = some r → r.left = [] → r.result < 4 →
      (r.inMode = false → Completes s sd (.swatchRunDone sd) fun y => y.swatch = none ∧ y.get F.MM_SWATCH_STAT_BUSY = 0 ∧
        y.get F.MM_SWATCH_STAT_RESULT = r.result ∧ y.mode = x.mode ∧ y.mem = x.mem ∧
        x.Told y 0x1A r.unit (leBytes 1 r.result ++ leBytes 1 (min r.spares 255))) ∧
      (r.inMode = true → r.result ≠ 2 → Completes s sd (.swatchRunDone sd) fun y => y.swatch = none ∧ y.mode = .castOn ∧ y.mem = x.mem) ∧
      (r.inMode = true → r.result = 2 → x.mode = .swatch → Completes s sd (.swatchRunDone sd) fun y => x.Halted y 4))

/-- R455, R459, R460, Table PW-4: Frog leaves every memory byte zero and every bank's record at reset, and goes to Cast-on or, with the
MTEST strap, to Swatch; TAMPER_N low for 50 ns wipes the secure bank and the session, below 10 ns nothing happens. R474, R499: the watchdog
is enabled once and for all, restarted by a KICK, and halts the Side with cause 5; a fatal fault of firmware halts it with cause 6. -/
def Obligations.TamperFrogAndHalts : Prop :=
  (∀ (s : State) (sd : SideId), let x := s.side sd
    (x.mode = .frog →
      (x.flag F.PW_STRAP_MTEST = false → Completes s sd (.frogComplete sd) fun y => x.Moved y .castOn ∧ y.mem = [] ∧ y.upsets = [] ∧
        y.get F.MM_STAT_FROG = 0 ∧ (∀ b, b < 52 → y.get (F.MM_BANK_CUR b) = 0 ∧ y.get (F.MM_BANK_VALID b) = 0 ∧ y.get (F.MM_BANK_CE_CNT b) = 0) ∧
        { y with mode := x.mode, mem := x.mem, upsets := x.upsets, regs := x.regs } = x) ∧
      (x.flag F.PW_STRAP_MTEST = true → Completes s sd (.frogComplete sd) fun y => y.mode = .swatch ∧ y.mem = [] ∧ y.upsets = [] ∧
        y.get F.MM_STAT_SWATCH = 1 ∧
        { y with mode := x.mode, mem := x.mem, upsets := x.upsets, regs := x.regs, swatch := x.swatch } = x)) ∧
    (x.mode ≠ .dark →
      (∀ ns : Nat, 50 ≤ ns → Completes s sd (.tamperAssert sd ns) fun y => x.Zeroed y secureBase 0x10000 ∧ y.fw = { x.fw with session := none } ∧
        y.get F.MM_SEC_STAT_TAMPERED = 1 ∧ y.get F.MM_SEC_STAT_TAMPER_N = 0 ∧
        x.FieldsOnly { y with mem := x.mem, upsets := x.upsets, fw := x.fw } [F.MM_SEC_STAT_TAMPERED, F.MM_SEC_STAT_TAMPER_N]) ∧
      Completes s sd (.tamperRelease sd) fun y => y.get F.MM_SEC_STAT_TAMPER_N = 1 ∧ x.FieldsOnly y [F.MM_SEC_STAT_TAMPER_N]) ∧
    ∀ ns : Nat, ns < 10 → Completes s sd (.tamperAssert sd ns) fun y => y = x) ∧
  (∀ (s : State) (sd : SideId), let x := s.side sd
    (∀ w : Writer, s.mayWrite sd w = true →
      (x.flag F.PW_WDOG_EN = false → Completes s sd (.watchdogEnable sd w) fun y => y.get F.PW_WDOG_EN = 1 ∧
        y.clk = { x.clk with wdog := 4800 * x.get F.CK_XMON_CNT_CAL } ∧ x.FieldsOnly { y with clk := x.clk } [F.PW_WDOG_EN, F.PW_WDOG_KICK]) ∧
      (x.flag F.PW_WDOG_EN = true → Completes s sd (.watchdogKick sd w) fun y => y.get F.PW_WDOG_KICK = 1 ∧
        y.clk = { x.clk with wdog := 4800 * x.get F.CK_XMON_CNT_CAL } ∧ x.FieldsOnly { y with clk := x.clk } [F.PW_WDOG_KICK])) ∧
    (x.alive = true → x.mode ≠ .halt → x.flag F.PW_WDOG_EN = true → Completes s sd (.watchdogExpiry sd) fun y =>
      x.Halted y 5 ∧ y.fw.stopped = true ∧ { y.fw with stopped := x.fw.stopped } = x.fw) ∧
    (4 ≤ x.mode.code → x.mode ≠ .halt → Completes s sd (.firmwareFatalFault sd) fun y => x.Halted y 6 ∧ y.fw = x.fw))

/-! ### Boot -/

/-- R390, R413, R470 to R472, R475, Table PW-11: on entry to Cast-on the boot code takes the ring as it stands, loads the secure bank, claims
the boot flash master and reads the directory; firmware is started, the second copy tried, or no firmware runs; a boot Pattern is
loaded or refused with nothing changed. -/
def Obligations.BootSequence : Prop :=
  ∀ (s : State) (sd : SideId), let x := s.side sd
    x.mode = .castOn → s.host.held = false →
    (∀ d : List Byte, x.get F.PW_BOOT_STAGE = 0 → x.flag F.PW_BOOT_FLASH_ABSENT = false → x.fuses.lc ≠ 3 →
      x.flag F.MM_SEC_STAT_TAMPERED = false → s.host.get F.HP_BF_OWN_OWNER = 0 →
      ∃ t, exec (.castOnEntry sd d) s = .next t ∧ (t.side sd).get F.MM_SEC_STAT_LOADED = 1 ∧
        (t.side sd).bytes secureBase 64 = leBytes 32 x.fuses.hashFw ++ leBytes 32 x.fuses.hashPat ∧
        t.host.get (F.HP_MB_IN_CONS_IDX sd.num) = s.host.get (F.HP_MB_IN_PROD_IDX sd.num) % 128 ∧
        (t.side sd).fw.evtSeq = (x.fw.evtSeq + 1) % 2 ^ 32 ∧
        (directoryGood d = true → (t.side sd).get F.PW_BOOT_STAGE = 2 ∧ (t.side sd).fw.boot = fitTo 64 0 d ∧
          t.host.get F.HP_BF_OWN_OWNER = flashCode sd) ∧
        (directoryGood d = false → (t.side sd).get F.PW_BOOT_STAGE = 1 ∧ (t.side sd).get F.PW_BOOT_FLASH_ABSENT = 1 ∧
          t.host.get F.HP_BF_OWN_OWNER = 0) ∧
        t.side sd.other = s.side sd.other ∧ (t.side sd).mode = .castOn ∧ (t.side sd).cores = x.cores ∧
        s.host.FieldsOnly t.host [F.HP_MB_IN_CONS_IDX sd.num, F.HP_BF_OWN_OWNER, F.HP_BF_CFG_DIV]) ∧
    (∀ image : List Byte, x.get F.PW_BOOT_STAGE = 2 → s.host.get F.HP_BF_OWN_OWNER = flashCode sd →
      let second := x.flag F.PW_BOOT_FW_COPY
      let b := image.take (imgU x.fw.boot (if second then 0x14 else 0x0C) 4)
      ∃ t, exec (.firmwareImageReadDone sd image) s = .next t ∧ t.side sd.other = s.side sd.other ∧
        s.host.FieldsOnly t.host [F.HP_BF_OWN_OWNER] ∧
        (x.firmwareResult b = 0 → (t.side sd).get F.PW_BOOT_STAGE = 4 ∧ (t.side sd).get F.PW_BOOT_FW_RESULT = 0 ∧
          (t.side sd).fw = { x.fw with build := Config.fwBuild b } ∧ t.host.get F.HP_BF_OWN_OWNER = 0 ∧
          x.FieldsOnly { t.side sd with fw := x.fw } [F.PW_BOOT_STAGE, F.PW_BOOT_FW_RESULT]) ∧
        (x.firmwareResult b ≠ 0 → second = false → (t.side sd).get F.PW_BOOT_FW_COPY = 1 ∧ t.host.get F.HP_BF_OWN_OWNER = flashCode sd ∧
          x.FieldsOnly (t.side sd) [F.PW_BOOT_FW_COPY]) ∧
        (x.firmwareResult b ≠ 0 → second = true → (t.side sd).get F.PW_BOOT_STAGE = 3 ∧
          (t.side sd).get F.PW_BOOT_FW_RESULT = x.firmwareResult b ∧ t.host.get F.HP_BF_OWN_OWNER = 0 ∧
          x.FieldsOnly (t.side sd) [F.PW_BOOT_STAGE, F.PW_BOOT_FW_RESULT, F.PW_BOOT_FW_COPY])) ∧
    ∀ image : List Byte, x.get F.PW_BOOT_STAGE = 4 → x.fw.pattern = none → x.fw.image = none →
      imgU x.fw.boot (0x1C + 8 * sd.num) 4 ≠ 0 → s.host.get F.HP_BF_OWN_OWNER = 0 →
      let b := fitTo (imgU x.fw.boot (0x1C + 8 * sd.num) 4) 0 image
      ∃ t, exec (.bootPatternLoad sd image) s = .next t ∧
        (x.imageCheck b ≠ none → t.side sd = x ∧ t.side sd.other = s.side sd.other ∧ s.host.FieldsOnly t.host [F.HP_BF_OWN_OWNER]) ∧
        let l := (imageSections b).1
        (x.imageCheck b = none → x.banksOn (patternBanks b l) = true →
          (t.side sd).fw.pattern = some { header := b.take 64, latency := (bodies l 10).headD [], objects := (bodies l 9).headD [] } ∧
          (t.side sd).get F.PW_BOOT_STAGE = 5)

/-! ### Watchdog and life cycle -/

/-- R476 to R479: a life-cycle change asked for with the key is accepted into both Sides or refused with a cause; when it ends the fuses
hold the new state and both Sides reset with LC_CHANGE. R478, R479: the end of a life-cycle change: the state and the key hashes in the
fuses, and the resets. -/
def Obligations.LifeCycle : Prop :=
  (∀ s : State, s.side0.fuses.change = none → s.side1.fuses.change = none →
    let begun := fun (t : State) (target : Nat) => (∀ sd : SideId,
        (t.side sd).fuses = { (s.side sd).fuses with change := some { target := target, recovery := s.mismatchHalt } } ∧
        (t.side sd).get F.PW_LC_STAT_RESULT = 1) ∧ HostKept s t ∧ t.pending = s.pending
    (∀ (sd : SideId) (target : Fin 4), (s.side sd).alive = true → (s.side sd).fuses.lc ≤ 1 →
      (s.lcCause target = 0 → ∃ t, exec (.lifeCycleChangeRequest sd target 0x7C1E) s = .next t ∧ begun t target) ∧
      (s.lcCause target ≠ 0 → Completes s sd (.lifeCycleChangeRequest sd target 0x7C1E) fun y =>
        y.get F.PW_LC_STAT_RESULT = 3 ∧ y.get F.PW_LC_STAT_CAUSE = s.lcCause target ∧
        (s.side sd).FieldsOnly y [F.PW_LC_CMD_TARGET, F.PW_LC_CMD_KEY, F.PW_LC_STAT_RESULT, F.PW_LC_STAT_CAUSE]) ∧
      ∀ key : BitVec 16, key ≠ 0x7C1E → Completes s sd (.lifeCycleChangeRequest sd target key) fun y =>
        (s.side sd).FieldsOnly y [F.PW_LC_CMD_TARGET, F.PW_LC_CMD_KEY]) ∧
    (s.lcCause 3 = 0 → ∃ t, exec .jtagLcRetire s = .next t ∧ begun t 3) ∧
    (s.lcCause 3 ≠ 0 → ∃ t, exec .jtagLcRetire s = .next t ∧ HostKept s t ∧ t.pending = s.pending ∧ ∀ sd : SideId,
      (t.side sd).get F.PW_LC_STAT_RESULT = 3 ∧ (t.side sd).get F.PW_LC_STAT_CAUSE = s.lcCause 3 ∧
      (s.side sd).FieldsOnly (t.side sd) [F.PW_LC_STAT_RESULT, F.PW_LC_STAT_CAUSE])) ∧
  (∀ s : State, let c (target : Nat) : Option LcChange := some { target := target, recovery := false }
    s.side0.mode ≠ .dark → s.side1.mode ≠ .dark →
    (s.side0.fuses.change = c 3 → s.side1.fuses.change = c 3 → ∃ t, exec .lifeCycleChangeDone s = .next t ∧ ∀ sd : SideId,
      (t.side sd).fuses = { lc := 3, hashFw := 0, hashPat := 0, change := none } ∧ (t.side sd).mode = .reset ∧
      (t.side sd).clk.since.testBit 5 = true ∧ (t.side sd).fw = Firmware.reset) ∧
    (s.side0.fuses.change = c 2 → s.side1.fuses.change = c 2 → ∃ t, exec .lifeCycleChangeDone s = .next t ∧ ∀ sd : SideId,
      (t.side sd).fuses.lc = 2 ∧ (t.side sd).fuses.change = none ∧ (t.side sd).mode = .reset ∧ (t.side sd).clk.since.testBit 5 = true ∧
      (t.side sd).fuses.hashFw = (if (s.side sd).fuses.hashFw = 0 then (s.side sd).stagedFw else (s.side sd).fuses.hashFw) ∧
      (t.side sd).fuses.hashPat = (if (s.side sd).fuses.hashPat = 0 then (s.side sd).stagedPat else (s.side sd).fuses.hashPat)))

/-! ### Twin operation -/

/-- R209 to R212, R214: a heartbeat with a good CRC over a link that is up tells the partner's mode and, where both Sides compare, the row
check once the Side has its own checksum: equal values raise TW_MATCH, different ones clear it and record the divergence; until then the
partner's checksum is kept; a bad CRC only counts. R240, R241, R243, R244: the end of a mirror pass of Rejoin leads to a capture, whose
comparison counts the pass, gives the pages that differ and leads to the final pass, to a further one or, after 64, to a failure; the end of
the wait starts the checking phase. -/
def Obligations.HeartbeatsAndRejoin : Prop :=
  (∀ (s : State) (sd : SideId), let x := s.side sd; let y := s.side sd.other
    ∀ hb : Heartbeat, y.twin.hbOut = some hb → s.linkUp = true →
    let sent := fun (t : State) => t.side sd.other = { y with twin := { y.twin with hbOut := none } } ∧ HostKept s t ∧ t.pending = s.pending
    let m := (hb.row + 2 ^ 64 - 1) % 2 ^ 64
    let own := x.twin.chk m
    let peer := if hb.valid then some hb.chk else none
    let took := fun (z : Side) (peers : List (Nat × Option Nat)) (l : List Fld) =>
      z.twin = { x.twin with heard := some (hb.row, hb.mode), peers := peers } ∧
      z.get F.TW_STAT_PARTNER_MODE = hb.mode % 16 ∧ x.FieldsOnly { z with twin := x.twin, fw := x.fw } (F.TW_STAT_PARTNER_MODE :: l)
    let checked := fun (z : Side) (l : List Fld) =>
      took z x.twin.peers ([F.TW_CHK_ROW, F.TW_CHK_OWN, F.TW_CHK_PEER, F.TW_MATCH] ++ l) ∧
      z.get F.TW_CHK_ROW = m % 2 ^ 32 ∧ z.get F.TW_CHK_OWN = own.getD 0 % 2 ^ 32 ∧ z.get F.TW_CHK_PEER = peer.getD 0 % 2 ^ 32
    (∃ t, exec (.heartbeatReceive sd false) s = .next t ∧ sent t ∧
      (t.side sd).get F.TW_LINK_ERR = min (x.get F.TW_LINK_ERR + 1) 65535 ∧ x.FieldsOnly (t.side sd) [F.TW_LINK_ERR]) ∧
    (x.rejoining = false → (∀ p ∈ x.twin.peers, x.hasOwn p.1 = false) →
      (compares x y = false → ∃ t, exec (.heartbeatReceive sd true) s = .next t ∧ sent t ∧ took (t.side sd) x.twin.peers [] ∧
        (t.side sd).fw = x.fw) ∧
      (compares x y = true → x.hasOwn m = false → ∃ t, exec (.heartbeatReceive sd true) s = .next t ∧ sent t ∧
        took (t.side sd) (x.twin.peers ++ [(m, peer)]) [] ∧ (t.side sd).fw = x.fw) ∧
      (compares x y = true → x.hasOwn m = true → own = peer → own ≠ none → ∃ t, exec (.heartbeatReceive sd true) s = .next t ∧ sent t ∧
        checked (t.side sd) [] ∧ (t.side sd).get F.TW_MATCH = min (x.get F.TW_MATCH + 1) 65535 ∧ (t.side sd).fw = x.fw) ∧
      (compares x y = true → x.hasOwn m = true → own ≠ peer → x.flag F.TW_STAT_DIVERGE = false →
        ∃ t, exec (.heartbeatReceive sd true) s = .next t ∧ sent t ∧
        checked (t.side sd) [F.TW_STAT_DIVERGE, F.TW_DIV_CNT_COUNT, F.TW_DIV_ROW_LO, F.TW_DIV_ROW_HI] ∧
        (t.side sd).get F.TW_MATCH = 0 ∧ (t.side sd).get F.TW_STAT_DIVERGE = 1 ∧
        (t.side sd).get64 F.TW_DIV_ROW_LO F.TW_DIV_ROW_HI = m ∧
        (t.side sd).get F.TW_DIV_CNT_COUNT = min (x.get F.TW_DIV_CNT_COUNT + 1) 65535 ∧ x.Told (t.side sd) 8 0 (leBytes 8 m)))) ∧
  (∀ (s : State) (sd : SideId), let x := s.side sd; let y := s.side sd.other
    (x.passRuns = true → s.linkUp = true → (∀ p ∈ passPages x y, p ∈ x.twin.sent) →
      ∃ t, exec (.rejoinPassComplete sd) s = .next t ∧ t.side sd = { x with twin := { x.twin with capRow := none, sent := [], passEnd := true } } ∧
        t.side sd.other = { y with twin := { y.twin with capRow := none } } ∧ HostKept s t ∧ t.pending = s.pending) ∧
    (x.passRuns = false ∨ s.linkUp = false → Completes s sd (.rejoinPassComplete sd) fun z => z = x) ∧
    (∀ (other : Sparse Nat) (n : Nat), let d := pagesDiffer x.twin.captured other
      let z := x.compareCaptures other n
      x.rejoining = true → x.twin.passEnd = true → x.get F.TW_MIR_STATE = 1 ∨ x.get F.TW_MIR_STATE = 2 →
        z.get F.TW_MIR_DIFF = d.length % 2 ^ 20 ∧ z.get F.TW_MIR_PASS = min (x.get F.TW_MIR_PASS + 1) 64 ∧
        z.get F.TW_MIR_STATE = (if d.length ≤ x.get F.TW_MIR_FINAL_MAX then 3 else 2) ∧ z.twin.differ = d ∧ z.twin.passEnd = false ∧
        (d.length ≤ x.get F.TW_MIR_FINAL_MAX → z.twin.finalRow = some (n + 1)) ∧
        (63 ≤ x.get F.TW_MIR_PASS → x.twin.failDue = none → z.twin.failDue = some 1) ∧
        x.FieldsOnly { z with twin := x.twin } [F.TW_MIR_DIFF, F.TW_MIR_PASS, F.TW_MIR_STATE]) ∧
    (x.mode = .rework → x.get F.TW_MIR_STATE = 4 → x.get F.TW_MIR_WAIT = 0 → Completes s sd (.rejoinWaitEnd sd) fun z =>
      z.get F.TW_MIR_STATE = 5 ∧ z.get F.TW_MATCH = 0 ∧ z.twin = { x.twin with differ := [], peers := [] } ∧
      x.FieldsOnly { z with twin := x.twin } [F.TW_MIR_STATE, F.TW_MATCH]))

/-- R213, R216, R217, R220, R221, Table TW-4: the judgement of the link and of the Seam path count silent rows; a Follow that takes over asks
the Seam for a SEIZE when both are silent for TIMEOUT; the Lead's poll of the token; liveness. -/
def Obligations.TwinPaths : Prop :=
  ∀ (s : State) (sd : SideId), let x := s.side sd
    let good := x.twin.heard.any (fun h => decide (h.1 = x.row) && x.hears h.2)
    let silent := min (x.get F.TW_SILENT_LINK + 1) 255
    let only := fun (z : Side) (l : List Fld) => x.FieldsOnly { z with twin := x.twin } l
    (x.inTwin = true → 0 < x.get F.TW_CTRL_TIMEOUT →
      (good = true → Completes s sd (.linkPathJudgement sd) fun z =>
        z.get F.TW_SILENT_LINK = 0 ∧ z.twin.heardRun = x.twin.heardRun + 1 ∧ z.twin.req = x.twin.req ∧ only z [F.TW_SILENT_LINK]) ∧
      (good = false → silent < x.get F.TW_CTRL_TIMEOUT → Completes s sd (.linkPathJudgement sd) fun z =>
        z.get F.TW_SILENT_LINK = silent ∧ z.twin = { x.twin with heardRun := 0 } ∧ only z [F.TW_SILENT_LINK]) ∧
      (good = false → x.get F.TW_CTRL_TIMEOUT ≤ silent → x.seamHeard = false → x.mode = .follow → x.takesOver = true →
        x.twin.seized = false → x.twin.req = none → Completes s sd (.linkPathJudgement sd) fun z =>
          z.get F.TW_SILENT_LINK = silent ∧ z.twin = { x.twin with heardRun := 0, req := some .seize } ∧ only z [F.TW_SILENT_LINK]) ∧
      (s.host.held = false → s.host.get (F.HP_SEAM_HB_COUNT sd.other.num) ≠ x.twin.seamCount →
        x.hears (s.host.get (F.HP_SEAM_HB_MODE sd.other.num)) = true → x.linkHeard = true →
        Completes s sd (.seamPathRead sd true) fun z =>
          z.get F.TW_SILENT_SEAM = 0 ∧ z.twin.seamCount = s.host.get (F.HP_SEAM_HB_COUNT sd.other.num) ∧ z.twin.req = x.twin.req ∧
          only z [F.TW_SILENT_SEAM]) ∧
      (min (x.get F.TW_SILENT_SEAM + 1) 255 < x.get F.TW_CTRL_TIMEOUT → x.linkHeard = true →
        Completes s sd (.seamPathRead sd false) fun z =>
          z.get F.TW_SILENT_SEAM = min (x.get F.TW_SILENT_SEAM + 1) 255 ∧ z.twin = x.twin ∧ only z [F.TW_SILENT_SEAM])) ∧
    (x.mode = .lead → s.host.held = false →
      let owner := s.host.get F.HP_SEAM_TOKEN_OWNER
      (Completes s sd (.leadTokenPoll sd true) fun z =>
        z.get F.TW_TOKEN_OWNER = owner % 4 ∧ z.get F.TW_TOKEN_EPOCH = s.host.get F.HP_SEAM_TOKEN_EPOCH % 65536 ∧
        z.get F.TW_STAT_TOKEN = (decide (owner = sd.num)).toNat ∧ only z [F.TW_TOKEN_OWNER, F.TW_TOKEN_EPOCH, F.TW_STAT_TOKEN] ∧
        (owner = 3 → z.twin = { x.twin with req := some .grant }) ∧ (owner = sd.num → z.twin = x.twin) ∧
        (owner ≠ 3 → owner ≠ sd.num → z.twin = { x.twin with deposed := true })) ∧
      Completes s sd (.leadTokenPoll sd false) fun z => z.twin = { x.twin with deposed := true } ∧ { z with twin := x.twin } = x) ∧
    (∀ w : Writer, s.mayWrite sd w = true → Completes s sd (.twinLiveRefresh sd w) fun z =>
      z.get F.TW_LIVE_LIVE = 1 ∧ z.get F.TW_LIVE_REFRESH = 1 ∧ x.FieldsOnly z [F.TW_LIVE_LIVE, F.TW_LIVE_REFRESH]) ∧
    Completes s sd (.twinRefreshExpiry sd) fun z => z.get F.TW_LIVE_LIVE = 0 ∧ x.FieldsOnly z [F.TW_LIVE_LIVE]

/-- R187, R205, R234, R235, R237, R242, R303: what crosses the Twin Link: the blend of one sample at a time with the weight of R235, a stream
row with a bad CRC, its loss, the mirror writes of a pass, the row of a floated Take and the Lead's step plan. -/
def Obligations.TwinLinkTraffic : Prop :=
  ∀ (s : State) (sd : SideId), let x := s.side sd; let y := s.side sd.other
    (∀ l f : EmitRow, let m := (x.row + 2 ^ 64 - 1) % 2 ^ 64
      x.awaitsRow = true → s.linkUp = true → x.pages.emitRow m = some l → y.streamRow x.handRow m = some f →
      let n := x.get F.TW_HAND_LEN
      let w := (x.row + n - x.handRow + 1) * 2 ^ 23 / n
      let v := fun (m : Sparse (BitVec 24)) (c : Nat) => Sparse.get (fun _ => 0#24) m c
      let mixed := fun (a b : Sparse (BitVec 24)) (c : Nat) =>
        BitVec.ofInt 24 (roundHalfEven (((2 ^ 23 - w : Nat) : Int) * (v a c).toInt + w * (v b c).toInt) 23)
      (ThenBlends s sd (.blendStreamReceive ⟨sd, true⟩) fun u => u.side sd.other = y ∧ u.host = s.host ∧ u.pending = s.pending ∧
        (∃ o : EmitRow, (u.side sd).pages = { x.pages with emitted := o :: x.pages.emitted.filter (fun e => e.row ≠ m) } ∧ o.row = m ∧
          ∀ c : Nat, v o.tdm c = mixed l.tdm f.tdm c ∧ v o.flow c = mixed l.flow f.flow c ∧ v o.skein c = mixed l.skein f.skein c) ∧
        (u.side sd).twin = { x.twin with blendWf := w, blended := some m } ∧
        { u.side sd with pages := x.pages, twin := x.twin } = x) ∧
      Completes s sd (.blendStreamReceive ⟨sd, false⟩) fun z =>
        z.get F.TW_LINK_ERR = min (x.get F.TW_LINK_ERR + 1) 65535 ∧ x.FieldsOnly z [F.TW_LINK_ERR]) ∧
    (x.awaitsRow = true → y.mode = .rework → y.blending = true →
      ThenBlends s sd (.blendStreamMissing sd) fun u => let z := u.side sd
        z.get F.TW_HAND_STATE = 5 ∧ z.get F.TW_STAT_BLEND_ABORT = 1 ∧
        x.Told z 0xF 0 (leBytes 8 x.row ++ leBytes 4 x.twin.blendWf) ∧
        x.FieldsOnly { z with fw := x.fw } [F.TW_HAND_STATE, F.TW_STAT_BLEND_ABORT] ∧
        (u.side sd.other).get F.TW_HAND_STATE = 5 ∧ y.FieldsOnly (u.side sd.other) [F.TW_HAND_STATE] ∧ u.host = s.host ∧
        u.pending = s.pending) ∧
    (∀ p : BitVec 20,
      (x.passRuns = false ∨ s.linkUp = false ∨ inPass x y p.toNat = false → Completes s sd (.mirrorWrite sd p) fun z => z = x) ∧
      (x.passRuns = true → s.linkUp = true → inPass x y p.toNat = true →
        let sent := fun (z : Side) => z.twin = { x.twin with sent := p.toNat :: x.twin.sent }
        let takesAs := fun (z : Side) (l : List Fld) => ∀ f ∈ l, z.get f = y.get f
        (x.PlainBytes (4096 * p.toNat) 4096 → y.PlainBytes (4096 * p.toNat) 4096 → Completes s sd (.mirrorWrite sd p) fun z => sent z ∧
          (∀ a, 4096 * p.toNat ≤ a → a < 4096 * p.toNat + 4096 → z.byte a = y.byte a) ∧ x.KeptOutside z (4096 * p.toNat) 4096 ∧
          { z with mem := x.mem, twin := x.twin } = x) ∧
        (∀ k : Fin 32, p.toNat = 0xB100 + 16 * k.val → Completes s sd (.mirrorWrite sd p) fun z => sent z ∧
          z.cores[k] = { x.cores[k] with
            r := (y.cores[k]).r, refill := (y.cores[k]).refill, refillWritten := (y.cores[k]).refillWritten } ∧
          (∀ j : Fin 32, j ≠ k → z.cores[j] = x.cores[j]) ∧ takesAs z (F.SK_CBANK_ACTIVE k :: regionFields k) ∧
          { z with regs := x.regs, cores := x.cores, twin := x.twin } = x) ∧
        (p = 0xB070 → Completes s sd (.mirrorWrite sd p) fun z => sent z ∧
          z.takes = { x.takes with
            queue := y.takes.queue, kept := y.takes.kept, slips := y.takes.slips, loader := y.takes.loader, heard := y.takes.heard
            arms := y.takes.arms } ∧
          takesAs z (F.TK_NEXT_NUM :: (List.range 128).flatMap (fun n => [F.TK_CUE_STATE n, F.TK_CUE_LEN n, F.TK_CUE_CURVE n])) ∧
          { z with regs := x.regs, takes := x.takes, twin := x.twin } = x) ∧
        (p = 0xB080 → Completes s sd (.mirrorWrite sd p) fun z => sent z ∧
          z.cross = { x.cross with starts := y.cross.starts, latch := y.cross.latch } ∧
          takesAs z ((List.range 1024).flatMap (fun i => [F.XA_ROLE_LIVE i, F.XA_ROLE_TARGET i, F.XA_ROLE_STAGING i])) ∧
          { z with regs := x.regs, cross := x.cross, twin := x.twin } = x) ∧
        (p = 0xB090 → Completes s sd (.mirrorWrite sd p) fun z => sent z ∧ z.gauge = { x.gauge with meters := y.gauge.meters } ∧
          takesAs z [F.PB_STAT_ACTIVE] ∧ { z with regs := x.regs, gauge := x.gauge, twin := x.twin } = x) ∧
        (p = 0xB000 → Completes s sd (.mirrorWrite sd p) fun z => sent z ∧ z.fw = { x.fw with held := y.fw.held } ∧
          z.net = { x.net with macs := y.net.macs, chStatus := y.net.chStatus } ∧
          z.tm = { x.tm with word := y.tm.word, ppt := y.tm.ppt, v := y.tm.v } ∧ z.cores = x.cores ∧ z.takes = x.takes ∧
          takesAs z ((List.range 32).flatMap (fun h => [F.AP_CFG_CUR_CFG_CUR h, F.AP_MASK_CUR_MASK_CUR h]))))) ∧
    (s.linkUp = true → x.mode = .follow →
      (∀ (num row : Nat) (rest : List (Nat × Nat)) (q : Fin 8) (k : Take), y.takes.rowsSent = (num, row) :: rest →
        x.entryOf num = some q → x.takes.queue[q] = some k → k.row = none → k.waits = false → k.cue = none → x.fw.held = [] →
        x.row + 3 ≤ row → (names k.mask 32 = true → x.crossAt row = false) →
        ∃ t, exec (.floatedTakeRowReceive sd) s = .next t ∧ (t.side sd).takes.queue[q] = some { k with row := some row, planned := row } ∧
          (∀ j : Fin 8, j ≠ q → (t.side sd).takes.queue[j] = x.takes.queue[j]) ∧
          { t.side sd with takes := { (t.side sd).takes with queue := x.takes.queue } } = x ∧
          t.side sd.other = { y with takes := { y.takes with rowsSent := rest } } ∧ HostKept s t ∧ t.pending = s.pending) ∧
      ∀ p : Nat × Int, y.tm.stepOut = some p → ∃ t, exec (.twinStepPlanReceive sd) s = .next t ∧
        t.side sd = { x with tm := { x.tm with partnerStep := some p } } ∧
        t.side sd.other = { y with tm := { y.tm with stepOut := none } } ∧ HostKept s t ∧ t.pending = s.pending)

/-! ### Cue loader and meter frames -/

/-- R167, R168, R174, R192, R193: the loader takes up the Cue at the head of its queue and loads the Cross descriptor of its Take; it carries
out the records that no earlier Take defers; the Gauge engine's frame of a group that is due is captured, or dropped and counted. -/
def Obligations.CueLoaderAndFrames : Prop :=
  ∀ (s : State) (sd : SideId), let x := s.side sd
    (∀ (j : LoaderJob) (rest : List LoaderJob), x.clocked = true → x.takes.loader = j :: rest →
      (j.started = false → Completes s sd (.cueLoaderStart sd) fun z =>
        z.takes = { x.takes with loader := { j with started := true, records := x.slotRecords j.slot } :: rest } ∧
        (names (x.cueMask j.slot) 32 = false → { z with takes := x.takes } = x) ∧
        ∀ q : Fin 8, x.entryOf j.num = some q → names (x.cueMask j.slot) 32 = true →
          z.get (F.XA_DESC_LEN (8 + q.val)) = x.get (F.TK_CUE_LEN j.slot) ∧
          z.get (F.XA_DESC_CURVE (8 + q.val)) = x.get (F.TK_CUE_CURVE j.slot) ∧
          (∀ w, w < 32 → z.get (F.XA_MASK (32 * (8 + q.val) + w)) = leVal (x.bytes (cueBase j.slot + 4 * w) 4)) ∧
          x.FieldsOnly { z with takes := x.takes } (F.XA_DESC_LEN (8 + q.val) :: F.XA_DESC_CURVE (8 + q.val) ::
            (List.range 32).map (fun w => F.XA_MASK (32 * (8 + q.val) + w)))) ∧
      (∀ (a : BitVec 32) (v : BitVec 32), j.started = true → j.records = [(a.toNat, [v.toNat])] → x.PlainBytes a.toNat 4 →
        (x.deferred j.num a.toNat = true → Completes s sd (.cueLoaderDone sd) fun z => z = x) ∧
        (x.deferred j.num a.toNat = false → x.takeList.all (fun t => !t.waits) = true →
          Completes s sd (.cueLoaderDone sd) fun z => x.Wrote z a.toNat (leBytes 4 v.toNat) ∧
            z.takes = { x.takes with loader := rest } ∧ { z with mem := x.mem, takes := x.takes } = x))) ∧
    ∀ g : Fin 8, let drop := x.frameDropped g
      let due := fun (h : Nat) => x.get (F.PB_GRP_EN h) ≠ 0 ∧ x.get (F.PB_GRP_PERIOD h) ≠ 0 ∧ x.gauge.row % x.get (F.PB_GRP_PERIOD h) = 0
      let buf := x.get (F.PB_GRP_SEQ g) % 2
      let frame := x.meterFrame (s.host.get F.HP_ID_DEVID) sd.num g x.gauge.row
      x.clocked = true → x.gateOpen 33 = true → x.gauge.captureDue = true → due g → (∀ h : Fin 8, h ≠ g → ¬due h) →
      Completes s sd (.meterFrameCapture sd) fun z =>
        z.gauge.captureDue = false ∧ z.get (F.PB_GRP_SEQ g) = (x.get (F.PB_GRP_SEQ g) + 1) % 2 ^ 32 ∧
        (drop = true → z.get (F.PB_GRP_LOST g) = min (x.get (F.PB_GRP_LOST g) + 1) 65535 ∧
          z.gauge = { x.gauge with captureDue := false } ∧ z.dma = x.dma ∧ x.FieldsOnly { z with mem := x.mem, gauge := x.gauge } [F.PB_GRP_SEQ g, F.PB_GRP_LOST g]) ∧
        (drop = false → z.get (F.PB_GRP_LOST g) = 0 ∧ z.bytes (frameBase g buf) frame.length = frame ∧
          z.gauge = { x.gauge with captureDue := false, frames := x.gauge.frames ++ [(g.val, buf, frame.length, x.get (F.PB_GRP_CHANNEL g))] } ∧
          { z with regs := x.regs, mem := x.mem, gauge := x.gauge, dma := x.dma } = x)

/-! ### The Tension loop and time -/

/-- R281 to R287, R290, R291, R294: a measurement, folded into the period of a PHASE candidate, is stored with its candidate: C2, C3 and C6
give what they formed from their last edge or block, every other one what arrives. The mean of a millisecond's measurements of the selected
one is the phase error of an update; the bandwidth is at most a tenth of the measurement rate. The first qualification ends free run and a
switch sets SWITCHED; the loss of the last qualified candidate brings free run at FW_NOM; the settle interval and the hold-off end. -/
def Obligations.TimeCandidates : Prop :=
  ∀ (s : State) (sd : SideId) (c : Fin 8), let x := s.side sd
    let quiet := ∀ k : Fin 8, x.qualified k = false
    let own := c = 2 ∨ c = 3 ∨ c = 6
    let formed := x.tm.edges.find? (fun p => decide (p.1 = c.val))
    let marks := [F.TM_CAND_E_LO c, F.TM_CAND_E_HI c, F.TM_CAND_FREQ c, F.TM_CAND_AGE c, F.TM_CAND_UPDATES c, F.TM_CAND_PRESENT c]
    let stored := fun (y : Side) (e freq : Int) => y.get64 (F.TM_CAND_E_LO c) (F.TM_CAND_E_HI c) = ofSigned 64 (x.foldE c e) ∧
      y.get (F.TM_CAND_FREQ c) = ofSigned 32 freq ∧ y.get (F.TM_CAND_AGE c) = 0 ∧ y.get (F.TM_CAND_PRESENT c) = 1 ∧
      y.get (F.TM_CAND_UPDATES c) = (x.get (F.TM_CAND_UPDATES c) + 1) % 65536
    let tm := { x.tm with
      ages := (c.val, 0) :: x.tm.ages.filter (fun a => a.1 ≠ c.val)
      edges := if own then x.tm.edges.filter (fun p => !decide (p.1 = c.val)) else x.tm.edges }
    let live := [F.TM_STAT_LOCK, F.TM_STAT_LOST, F.TM_STAT_SWITCHED, F.TM_STAT_FREERUN, F.TM_STAT_REF_SPLIT, F.TM_STICKY_LOCK_S,
      F.TM_STICKY_LOST_S, F.TM_STICKY_SWITCHED_S, F.TM_STICKY_FREERUN_S, F.TM_STICKY_REF_SPLIT_S, F.TM_STAT_HOLDOFF,
      F.TM_STAT_STEP_USED, F.TW_STAT_ALIGNED]
    x.clocked = true →
    (∀ e : Int, -(2 ^ 15 * 10 ^ 9) ≤ x.foldE 6 e ∧ x.foldE 6 e < 2 ^ 15 * 10 ^ 9 ∧ (e - x.foldE 6 e) % (2 ^ 16 * 10 ^ 9) = 0) ∧
    x.bandwidth ≤ x.measureRate / 10 ∧
    (quiet → x.flag F.TM_STAT_REF_SPLIT = false → ∀ (e freq : Int) (last : Bool),
      (∀ m : Int, (¬own → m = e) → (own → formed = some (c.val, m)) → Completes s sd (.candidateMeasurement sd c e freq last) fun y =>
        stored y m freq ∧ y.tm = tm ∧ x.FieldsOnly { y with tm := x.tm } marks) ∧
      (own → formed = none → Completes s sd (.candidateMeasurement sd c e freq last) fun y => y = x) ∧
      ∀ w : Writer, s.mayWrite sd w = true → Completes s sd (.measurementPush sd w c freq last) fun y =>
        y.get F.TM_MEAS_PUSH_CAND = c ∧
        (c = 0 ∨ c = 1 ∨ c = 7 → stored y (toSigned 64 (x.get64 F.TM_MEAS_LO F.TM_MEAS_HI)) freq ∧ y.tm = tm ∧
          x.FieldsOnly { y with tm := x.tm } (F.TM_MEAS_PUSH_CAND :: marks)) ∧
        (¬(c = 0 ∨ c = 1 ∨ c = 7) → x.FieldsOnly y [F.TM_MEAS_PUSH_CAND])) ∧
    (∀ e freq m : Int, (¬own → m = e) → (own → formed = some (c.val, m)) →
      x.selects c = true → x.qualified c = true → (∀ k : Fin 8, k ≠ c → x.qualified k = false) → c ≠ 2 → c ≠ 5 →
      x.flag (F.TM_CAND_EN c) = true → x.get (F.TM_CAND_CLASS c) ≠ 255 → freq.natAbs ≤ 250000000 → x.flag F.TM_STAT_REF_SPLIT = false →
      x.flag F.TM_STAT_LOST = false → x.flag F.TM_STAT_LOCK = false → x.tm.lockRun < 15 →
      let sum := x.tm.acc + x.foldE c m
      let mean := roundQuot sum (x.tm.accN + 1)
      (Completes s sd (.candidateMeasurement sd c e freq false) fun y => stored y m freq ∧
        y.tm = { tm with acc := sum, accN := x.tm.accN + 1 } ∧ x.FieldsOnly { y with tm := x.tm } marks) ∧
      Completes s sd (.candidateMeasurement sd c e freq true) fun y => stored y m freq ∧
        y.get64 F.TM_PHASE_LO F.TM_PHASE_HI = ofSigned 64 mean ∧ y.tm.acc = 0 ∧ y.tm.accN = 0 ∧
        y.tm.lockRun = (if mean.natAbs ≤ x.get F.TM_CTRL_LOCK_THR * 65536 then x.tm.lockRun + 1 else 0) ∧ y.get F.TM_STAT_LOCK = 0 ∧
        (x.flag F.TM_CTRL_OPEN = true → y.tm.v = x.tm.v) ∧
        (x.flag F.TM_CTRL_OPEN = false → (y.tm.v : Int) = max 0 (y.tm.est + max (-(fwNom x.rate * x.get F.TM_CTRL_SLEW / 10 ^ 6 : Int))
          (min (fwNom x.rate * x.get F.TM_CTRL_SLEW / 10 ^ 6 : Int) (Config.loopCorrection y.bandwidth x.tm.est x.tm.v mean)))) ∧
        { y with regs := x.regs, tm := x.tm } = x) ∧
    (x.candFit (s.side sd.other).rate c = true →
      (x.flag F.TM_STAT_FREERUN = true → x.flag F.TM_CAP_CTRL_SWITCHES = false → Completes s sd (.candidateQualify sd c) fun y =>
        y.get (F.TM_CAND_QUAL c) = 1 ∧ y.get F.TM_STAT_FREERUN = 0 ∧ y.get F.TM_STAT_SEL = c ∧ y.get F.TM_STAT_SWITCHED = 1 ∧
        y.get F.TM_STAT_LOST = 0 ∧ y.get F.TM_STAT_LOCK = 0 ∧ y.get F.TM_STAT_PREV = x.get F.TM_STAT_SEL ∧
        x.FieldsOnly { y with fw := x.fw, tm := x.tm, col := x.col } (F.TM_CAND_QUAL c :: F.TM_STAT_SEL :: F.TM_STAT_PREV :: live)) ∧
      (x.flag F.TM_STAT_FREERUN = false → Completes s sd (.candidateQualify sd c) fun y => y.get (F.TM_CAND_QUAL c) = 1 ∧ y.tm = x.tm ∧
        x.FieldsOnly { y with fw := x.fw, col := x.col } [F.TM_CAND_QUAL c, F.TM_STAT_REF_SPLIT, F.TM_STICKY_REF_SPLIT_S])) ∧
    (x.qualified c = true →
      ((∀ k : Fin 8, k ≠ c → x.qualified k = false) → x.flag F.TM_STAT_FREERUN = false → Completes s sd (.candidateLoss sd c) fun y =>
        y.get (F.TM_CAND_QUAL c) = 0 ∧ y.get (F.TM_CAND_PRESENT c) = 0 ∧ y.get F.TM_STAT_FREERUN = 1 ∧ y.get F.TM_STAT_LOST = 1 ∧
        y.get F.TM_STAT_LOCK = 0 ∧ y.tm.v = fwNom x.rate ∧ y.tm.est = fwNom x.rate ∧
        x.FieldsOnly { y with fw := x.fw, tm := x.tm, col := x.col } ([F.TM_CAND_QUAL c, F.TM_CAND_PRESENT c, F.TM_FW_CUR_LO, F.TM_FW_CUR_HI,
          F.TM_STAT_FW_CLAMP, F.TM_STICKY_FW_CLAMP_S] ++ live)) ∧
      ((∃ k : Fin 8, k ≠ c ∧ x.qualified k = true) → x.selects c = true → Completes s sd (.candidateLoss sd c) fun y =>
        y.get (F.TM_CAND_QUAL c) = 0 ∧ y.get (F.TM_CAND_PRESENT c) = 0 ∧ y.get F.TM_STAT_LOST = 1 ∧ y.get F.TM_STAT_LOCK = 0 ∧
        y.tm = x.tm ∧ x.FieldsOnly { y with fw := x.fw, col := x.col } ([F.TM_CAND_QUAL c, F.TM_CAND_PRESENT c] ++ live))) ∧
    (x.flag F.TM_STAT_SWITCHED = true → Completes s sd (.settleTimeout sd) fun y => y.get F.TM_STAT_SWITCHED = 0 ∧
      y.get F.TM_STAT_HOLDOFF = 1 ∧
      x.FieldsOnly { y with fw := x.fw, col := x.col } [F.TM_STAT_SWITCHED, F.TM_STICKY_SWITCHED_S, F.TM_STAT_HOLDOFF]) ∧
    Completes s sd (.holdoffExpiry sd) fun y => y.get F.TM_STAT_HOLDOFF = 0 ∧ x.FieldsOnly y [F.TM_STAT_HOLDOFF]

/-- R272, R273, R295 to R297: a software word and a PPT write take effect at once, or are held while a millisecond runs; the loop opens with
its word as it stands and closes again from it; the word in use is the chosen one with PPT, within 250 ppm of FW_NOM. -/
def Obligations.Steering : Prop :=
  ∀ (s : State) (sd : SideId) (w : Writer), let x := s.side sd
    let word := [F.TM_FW_CUR_LO, F.TM_FW_CUR_HI, F.TM_STAT_FW_CLAMP, F.TM_STICKY_FW_CLAMP_S]
    let inUse := fun (y : Side) =>
      let nom : Int := fwNom y.rate
      let raw : Int := (if y.flag F.TM_CTRL_OPEN then (y.tm.word : Int) else y.tm.v) + roundQuot (nom * y.tm.ppt) (10 ^ 12)
      let span : Int := nom * 250 / 10 ^ 6
      ((y.get64 F.TM_FW_CUR_LO F.TM_FW_CUR_HI : Nat) : Int) = max (nom - span) (min (nom + span) raw) ∧
      (y.flag F.TM_STAT_FW_CLAMP = true ↔ raw ≤ nom - span ∨ nom + span ≤ raw)
    (s.mayWrite sd w = true →
      (∀ hi : BitVec 16, let v := hi.toNat * 2 ^ 32 + x.get F.TM_FW_LO
        (x.tm.steerBusy = false → Completes s sd (.softwareWordLoad sd w hi) fun y =>
          y.get F.TM_FW_HI_FW_HI = hi.toNat ∧ y.tm = { x.tm with word := v, steerBusy := true } ∧ inUse y ∧
          x.FieldsOnly { y with tm := x.tm } (F.TM_FW_HI_FW_HI :: word)) ∧
        (x.tm.steerBusy = true → Completes s sd (.softwareWordLoad sd w hi) fun y =>
          y.get F.TM_FW_HI_FW_HI = hi.toNat ∧ y.tm = { x.tm with held := some (true, (v : Int)) } ∧
          (x.tm.held ≠ none → y.get F.TM_STICKY_FW_DEFERRED = 1) ∧
          (x.tm.held = none → y.get F.TM_STICKY_FW_DEFERRED = x.get F.TM_STICKY_FW_DEFERRED) ∧
          x.FieldsOnly { y with tm := x.tm } [F.TM_FW_HI_FW_HI, F.TM_STICKY_FW_DEFERRED])) ∧
      (∀ v : BitVec 32,
        (x.tm.steerBusy = false → Completes s sd (.pptWrite sd w v) fun y => y.get F.TM_PPT = v.toNat ∧
          y.tm = { x.tm with ppt := v.toInt, steerBusy := true } ∧ inUse y ∧ x.FieldsOnly { y with tm := x.tm } (F.TM_PPT :: word)) ∧
        (x.tm.steerBusy = true → Completes s sd (.pptWrite sd w v) fun y => y.get F.TM_PPT = v.toNat ∧
          y.tm = { x.tm with held := some (false, v.toInt) } ∧ x.FieldsOnly { y with tm := x.tm } [F.TM_PPT, F.TM_STICKY_FW_DEFERRED])) ∧
      (x.flag F.TM_CTRL_OPEN = false → Completes s sd (.loopOpen sd w) fun y => y.get F.TM_CTRL_OPEN = 1 ∧
        y.tm = { x.tm with word := x.tm.v, episode := false, lockRun := 0, missRun := 0 } ∧ y.get F.TM_STAT_LOCK = 0 ∧
        y.get F.TM_STAT_STEP_USED = 0 ∧ inUse y ∧ x.FieldsOnly { y with tm := x.tm, fw := x.fw, col := x.col }
          ([F.TM_CTRL_OPEN, F.TM_STAT_STEP_USED, F.TM_STAT_LOCK, F.TM_STICKY_LOCK_S] ++ word)) ∧
      (x.flag F.TM_CTRL_OPEN = true → x.flag F.TM_STAT_FREERUN = false → Completes s sd (.loopClose sd w) fun y =>
        y.get F.TM_CTRL_OPEN = 0 ∧ y.tm = { x.tm with v := x.tm.word, est := x.tm.word, episode := true, lockRun := 0, missRun := 0 } ∧
        inUse y ∧ x.FieldsOnly { y with tm := x.tm } ([F.TM_CTRL_OPEN, F.TM_STAT_STEP_USED] ++ word))) ∧
    (x.clocked = true →
      (∀ v : Nat, x.tm.held = some (true, (v : Int)) → Completes s sd (.steeringDeferredApply sd) fun y =>
        y.tm = { x.tm with held := none, word := v, steerBusy := true } ∧ inUse y ∧ x.FieldsOnly { y with tm := x.tm } word) ∧
      (∀ v : Int, x.tm.held = some (false, v) → Completes s sd (.steeringDeferredApply sd) fun y =>
        y.tm = { x.tm with held := none, ppt := v, steerBusy := true } ∧ inUse y ∧ x.FieldsOnly { y with tm := x.tm } word) ∧
      (x.tm.held = none → Completes s sd (.steeringDeferredApply sd) fun y => y = { x with tm := { x.tm with steerBusy := false } }))

/-- R280, R299, R301, R303, R307, R308, R310, R311: a snapshot of the counter and the row; a step is planned for the fourth row on, or refused with its
reason; the capture FIFO is popped and a port's frame sync armed; the next time trigger acts at its target. -/
def Obligations.TimeServices : Prop :=
  ∀ (s : State) (sd : SideId) (w : Writer), let x := s.side sd
    (s.mayWrite sd w = true →
      (∀ cycles : Nat, let at' := if x.clocked && x.tm.started then x.edgeAt cycles else x.counter
        let edge := x.rowStart + cycles * mediaUnits x.rate
        let ns := at' / 225792
        (x.clocked && x.tm.started = true → x.counter ≤ edge → edge < x.rowEnd → at' = edge) ∧
        ((∀ p ∈ x.tm.pulses, at' < p.2) → Completes s sd (.timeSnapshot sd w cycles) fun y =>
          y.counter = max x.counter at' ∧ y.get F.TM_SNAP_NS = ns % 10 ^ 9 ∧
          y.get F.TM_SNAP_SEC_LO + 2 ^ 32 * y.get F.TM_SNAP_SEC_HI_SEC = ns / 10 ^ 9 % 2 ^ 48 ∧
          y.get F.TM_SNAP_SEC_HI_FRAC = at' % 225792 * 65536 / 225792 ∧ y.get64 F.TM_SNAP_ROW_LO F.TM_SNAP_ROW_HI = x.row % 2 ^ 64 ∧
          x.FieldsOnly { y with counter := x.counter } [F.TM_SNAP_SNAP, F.TM_SNAP_NS, F.TM_SNAP_SEC_LO, F.TM_SNAP_SEC_HI_SEC,
            F.TM_SNAP_SEC_HI_FRAC, F.TM_SNAP_ROW_LO, F.TM_SNAP_ROW_HI])) ∧
      (∀ (c : Capture) (rest : List Capture), x.tm.captures = c :: rest → Completes s sd (.capturePop sd w) fun y =>
        y.tm = { x.tm with captures := rest } ∧ y.get F.TM_CAP_STAT_COUNT = rest.length % 128 ∧
        (∀ i : Fin 8, y.get (F.TM_CAP_HEAD i) = ((rest.head?.map Capture.words).getD []).getD i 0 % 2 ^ 32) ∧
        (w = .firmware → x.Told y 0x15 0 (c.words.flatMap (leBytes 4))) ∧ (w = .host → y.fw = x.fw) ∧
        x.FieldsOnly { y with tm := x.tm, fw := x.fw } (F.TM_CAP_POP_POP :: F.TM_CAP_STAT_COUNT :: (List.range 8).map F.TM_CAP_HEAD)) ∧
      (∀ ports : BitVec 16, Completes s sd (.frameSyncCaptureArm sd w ports) fun y => y.get F.TM_CAP_FS = ports.toNat ∧
        y.tm = { x.tm with fsArmed := x.tm.fsArmed ||| ports.toNat } ∧ x.FieldsOnly { y with tm := x.tm } [F.TM_CAP_FS]) ∧
      (x.clocked = true →
        let asked := fun (d : Option Int) (v : Nat) (y : Side) =>
          (v = 1 → y.get F.TM_STEP_STAT_RESULT = 1 ∧
            (x.mode = .lead → y.tm.step = some { row := x.row + 4, d := some (d.getD (rowsIn x.selE x.rate)) } ∧
              y.tm.stepOut = some (x.row + 4, d.getD (rowsIn x.selE x.rate))) ∧
            (x.mode ≠ .lead → y.tm.step = some { row := x.row + 4, d := d } ∧ y.tm.stepOut = x.tm.stepOut) ∧
            (x.tm.episode = true → y.get F.TM_STAT_STEP_USED = 1) ∧
            { y.tm with step := x.tm.step, stepOut := x.tm.stepOut } = x.tm) ∧
          (v ≠ 1 → y.get F.TM_STEP_STAT_RESULT = v ∧ y.get F.TM_STICKY_STEP_REFUSED = 1 ∧ y.tm = x.tm) ∧
          x.FieldsOnly { y with tm := x.tm } [F.TM_STEP_CMD, F.TM_STEP_STAT_RESULT, F.TM_STAT_STEP_USED, F.TM_STICKY_STEP_REFUSED]
        (Completes s sd (.stepFromRef sd w) (asked none (x.stepVerdict true))) ∧
        Completes s sd (.stepSeconds sd w)
          (asked (some (toSigned 32 (x.get F.TM_STEP_ARG) * rateHz x.rate)) (x.stepVerdict false))) ∧
      (x.clocked = false →
        (Completes s sd (.stepFromRef sd w) fun y => y.get F.TM_STEP_CMD = 1 ∧ x.FieldsOnly y [F.TM_STEP_CMD]) ∧
        Completes s sd (.stepSeconds sd w) fun y => y.get F.TM_STEP_CMD = 2 ∧ x.FieldsOnly y [F.TM_STEP_CMD])) ∧
    ∀ n : Fin 32, let t := x.trigTarget n
      let act := x.get (F.TM_TRIG_ACTION n)
      let pin := x.get (F.TM_TRIG_TARGET n) % 16
      x.nextTrig = some n.val → x.clocked = true → x.tm.started = true → x.gateOpen 37 = true → t < x.rowEnd →
      x.flag (F.TM_TRIG_REPEAT n) = false → 1 ≤ act → act ≤ 4 → (∀ p ∈ x.tm.pulses, t < p.2) →
      Completes s sd (.triggerFire sd) fun y =>
        x.BitIs y F.AP_GPIO_OUT pin (decide (act = 1 ∨ act = 4 ∨ (act = 3 ∧ x.bit F.AP_GPIO_OUT pin = false))) ∧
        y.tm.pulses = (if act = 4 then (pin, max x.counter t + x.get (F.TM_TRIG_WIDTH n) * 225792) :: x.tm.pulses.filter (fun p => p.1 ≠ pin)
          else x.tm.pulses) ∧
        y.get (F.TM_TRIG_FIRES n) = (x.get (F.TM_TRIG_FIRES n) + 1) % 2 ^ 32 ∧ y.get (F.TM_TRIG_EN n) = 0 ∧ y.counter = max x.counter t ∧
        (t < x.counter → y.get (F.TM_TRIG_LATE n) = 1 ∧ y.get F.TM_STICKY_TRIG_LATE = 1) ∧
        (x.counter ≤ t → n.val ∉ x.tm.armed → y.get (F.TM_TRIG_LATE n) = x.get (F.TM_TRIG_LATE n)) ∧
        x.FieldsOnly { y with counter := x.counter, tm := { y.tm with pulses := x.tm.pulses } }
          [F.AP_GPIO_OUT, F.TM_TRIG_FIRES n, F.TM_TRIG_EN n, F.TM_TRIG_LATE n, F.TM_STICKY_TRIG_LATE]

/-! ### Audio ports -/

/-- R325 to R327: a half that starts takes MASTER, BRIDGE and its timing from the shadow and waits for the next media-clock edge; one that
runs is stopped at the end of its frame; APPLY and a Take's instant A make the rest of the shadow current. -/
def Obligations.TdmHalves : Prop :=
  ∀ (s : State) (sd : SideId) (w : Writer) (h : Fin 32), let x := s.side sd
    let start := fun j => decide (j = 17 ∨ j = 18)
    let shadow := Regs.word x.regs (F.AP_CFG_WIDTH h).off
    let applied := fun (y : Side) (k : Fin 32) =>
      BitsFrom (x.cfgCur k) (Regs.word x.regs (F.AP_CFG_WIDTH k).off) (y.cfgCur k) (fun j => !start j) ∧
      y.get (F.AP_MASK_CUR_MASK_CUR k) = x.get (F.AP_MASK_MASK k) % 2 ^ 32 ∧
      (k.val % 2 = 1 ∨ x.isMaster k = true → y.timingCur k = x.timingCur k) ∧
      (k.val % 2 = 0 → x.isMaster k = false → BitsFrom (x.timingCur k) (x.timingShadow k) (y.timingCur k) (fun j => decide (16 ≤ j ∧ j < 27)))
    let cur := fun (k : Fin 32) => [F.AP_CFG_CUR_CFG_CUR k, F.AP_MASK_CUR_MASK_CUR k, F.AP_TIMING_CUR_TIMING_CUR k]
    (s.Writes sd w (F.AP_CTRL_EN h).off →
      (∀ cycles : Nat, x.halfRuns h = false → Completes s sd (.tdmHalfStart sd w h cycles) fun y =>
        y.get (F.AP_CTRL_EN h) = 1 ∧ y.get (F.AP_HSTAT_RUNNING h) = 1 ∧ y.get (F.AP_FRAME_FRAME h) = 0 ∧
        BitsFrom (x.cfgCur h) shadow (y.cfgCur h) start ∧ y.timingCur h = x.timingShadow h % 2 ^ 32 ∧
        x.HalfIs y h { Half.reset with started := some ((cycles * mediaUnits x.rate : Nat) : Int), cfg := y.cfgCur h, mask := x.get (F.AP_MASK_CUR_MASK_CUR h) }
          [F.AP_CTRL_EN h, F.AP_HSTAT_RUNNING h, F.AP_FRAME_FRAME h, F.AP_CFG_CUR_CFG_CUR h, F.AP_TIMING_CUR_TIMING_CUR h]) ∧
      (Completes s sd (.tdmHalfStop sd w h) fun y => y.get (F.AP_CTRL_EN h) = 0 ∧
        x.HalfIs y h (if x.halfRuns h then { x.half h with stopping := true } else x.half h) [F.AP_CTRL_EN h]) ∧
      ∀ t : Nat, Completes s sd (.tdmApply sd w h t) fun y => applied y h ∧
        x.HalfIs y h (if x.halfRuns h then { x.half h with pend := (x.half h).pend ++ [((t : Int), y.cfgCur h, x.get (F.AP_MASK_MASK h))] } else x.half h)
          (F.AP_CTRL_APPLY h :: cur h)) ∧
    (x.gateOpen 37 = true → (x.half h).stopping = true → Completes s sd (.tdmHalfStopped sd h) fun y => y.get (F.AP_HSTAT_RUNNING h) = 0 ∧
      x.HalfIs y h { x.half h with stopping := false, started := none, pend := [], got := (0, 0), sent := [], spill := [] }
        [F.AP_HSTAT_RUNNING h] ∧
      ∀ k : Nat, y.dataPad h k = (if x.released ∨ x.arrTwin ∨ (x.cfgCur h).testBit 20 = false then none else some false)) ∧
    (x.gateOpen 37 = true → x.pulsing = true → x.ports.shadowDue = true → (∀ k : Fin 32, x.halfRuns k = false) →
      Completes s sd (.portShadowApply sd) fun y => (∀ k : Fin 32, applied y k) ∧ y.ports = { x.ports with shadowDue := false } ∧
        y.takes = { x.takes with ackDue := x.takes.ackDue ||| 2 ^ 34 } ∧
        x.FieldsOnly { y with ports := x.ports, takes := x.takes } ((List.finRange 32).flatMap cur))

/-- R314 to R316, R318, R320, R322: a frame of a slave half without error: a receive half takes each slot that its mask names bit by bit at
its width and place, zero in the others, for its input row; a transmit half sends the row's samples rounded to the width, most significant
bit first, its idle level outside its slots and in those that its mask leaves out. A frame of less than 64 bit clocks is no frame: the clock
is absent. -/
def Obligations.TdmFrames : Prop :=
  ∀ (s : State) (sd : SideId) (p : Fin 16) (f : TdmFrame), let x := s.side sd
    let ready := fun (h : Fin 32) => x.framing h = true ∧ x.isMaster h = false ∧ x.isBridged h = false ∧ (x.half h).started = none ∧
      (x.half h).pend = [] ∧ x.get (F.AP_FRAME_FRAME h) % 32 ≠ 0 ∧ (x.half h).got = (0, 0) ∧ 64 ≤ f.bits ∧ f.bits = x.frameBits h
    let counted := fun (y : Side) (h : Fin 32) => y.get (F.AP_FRAME_FRAME h) = (x.get (F.AP_FRAME_FRAME h) + 1) % 2 ^ 32 ∧
      y.get (F.AP_HSTAT_MEAS_BITS h) = f.bits ∧ y.get (F.AP_HSTAT_CLK_PRESENT h) = (decide (f.bits ≤ 1088)).toNat
    let fields := fun (h : Fin 32) => [F.AP_FRAME_FRAME h, F.AP_HSTAT_MEAS_BITS h, F.AP_HSTAT_CLK_PRESENT h]
    let absent := fun (y : Side) (h : Fin 32) => y.get (F.AP_HSTAT_CLK_PRESENT h) = 0 ∧ y.get (F.AP_HSTAT_MEAS_BITS h) = f.bits ∧
      x.FieldsOnly y [F.AP_HSTAT_MEAS_BITS h, F.AP_HSTAT_CLK_PRESENT h]
    let rx := halfOf p false
    let tx := halfOf p true
    (let cfg := (x.half rx).cfg
      let at' := if cfg.testBit 16 then f.last.fall else f.last.rise
      let level := fun (j : Nat) => ((f.line[j]?).map (fun b => if cfg.testBit 16 then b.2 else b.1)).getD false
      ready rx → 0 ≤ at' + 4 * mediaUnits x.rate → at' + 4 * mediaUnits x.rate < rowUnits x.rate → x.tm.fsArmed.testBit p = false →
      offsetBits cfg + slotCount cfg * widthBits cfg ≤ f.line.length →
      Completes s sd (.tdmReceiveFrame sd p f.fs f.last f.clock f.bits f.line) fun y => counted y rx ∧
        (∀ k : Fin 32, let v := Sparse.get (fun _ => 0#24) y.pages.portIn (x.row % 2 ^ 64 * 65536 + p.val * 32 + k)
          (k.val < slotCount cfg → (y.half rx).last[k.val]? = some v) ∧
          ∀ i, i < 24 → v.getMsbD i = (decide (k.val < slotCount cfg) && (x.half rx).mask.testBit k && decide (i < widthBits cfg) &&
            level (offsetBits cfg + k.val * widthBits cfg + i))) ∧
        x.HalfIs { y with pages := x.pages } rx { x.half rx with got := (1, 0), last := (y.half rx).last } (fields rx) ∧
        { y.pages with portIn := x.pages.portIn } = x.pages) ∧
    (let cfg := (x.half tx).cfg
      let fs := if cfg.testBit 15 then f.fs.fall else f.fs.rise
      let w := widthBits cfg
      let idle := if cfg.testBit 19 then some false else none
      let bits := fun (k : Nat) => slotBits w (Sparse.get (fun _ => 0#24) x.pages.tdmOut (p.val * 32 + k))
      ready tx → 8 * mediaUnits x.rate ≤ fs → Completes s sd (.tdmTransmitFrame sd p f.fs f.clock f.bits) fun y => counted y tx ∧
        (∀ j, j < f.bits → let k := (j - offsetBits cfg) / w
          (y.half tx).sent[j]? = some (if j < offsetBits cfg then ((x.half tx).spill[j]?).getD idle
            else if k < slotCount cfg ∧ (x.half tx).mask.testBit k then some ((bits k).1.testBit (w - 1 - (j - offsetBits cfg) % w))
            else idle)) ∧
        (y.get (F.AP_HSTAT_NARROW_SAT tx) = 1 ∨
          ∀ k : Fin 32, k.val < slotCount cfg → (x.half tx).mask.testBit k = true → (bits k).2 = false) ∧
        x.HalfIs y tx { x.half tx with got := (1, 0), sent := (y.half tx).sent, spill := (y.half tx).spill }
          (F.AP_HSTAT_NARROW_SAT tx :: fields tx)) ∧
    (x.framing rx = true → x.isMaster rx = false → (x.half rx).started = none → f.bits < 64 →
      Completes s sd (.tdmReceiveFrame sd p f.fs f.last f.clock f.bits f.line) fun y => absent y rx) ∧
    (x.framing tx = true → x.isMaster tx = false → (x.half tx).started = none → f.bits < 64 →
      Completes s sd (.tdmTransmitFrame sd p f.fs f.clock f.bits) fun y => absent y tx)

/-- R203, R281, R310, R315, R328, R329, R333, R335, R336: the width of a slot in both directions; the pads that Follow and Rework release; a bridge channel locks with its ratio and loses lock; the
decimators' buffer slips; WCLK_IN comes and goes; an edge on a GPIO input that outlasts the deglitch time is captured. -/
def Obligations.PortEvents : Prop :=
  (∀ v : BitVec 24, (slotBits 24 v).1 = v.toNat ∧ slotSample 24 v.toNat = v ∧ slotSample 32 (slotBits 32 v).1 = v ∧ (slotBits 24 v).2 = false ∧
    (v.toInt ≤ 8388479 → ((slotSample 16 (slotBits 16 v).1).toInt - v.toInt).natAbs ≤ 128)) ∧
  ∀ (s : State) (sd : SideId), let x := s.side sd
    let seen := fun (c t : Nat) =>
      (c, -(((x.rowStart + t) * 65536 / 225792 : Nat) : Int)) :: x.tm.edges.filter (fun p => p.1 ≠ c)
    (x.mode = .follow ∨ x.mode = .rework → (∀ g, x.gpioDriven g = none) ∧
      ∀ (h : Fin 32) (k t : Nat), x.dataPad h k = none ∧ x.clockPads h t = (none, none) ∧ x.wclkPad t = none) ∧
    (x.gateOpen 37 = true →
    (∀ c : Fin 128,
      (∀ ratio : BitVec 32, x.pulsing = true → x.flag (F.AP_BR_EN c) = true → x.bridgeReady c = true →
        Completes s sd (.bridgeLock sd c ratio) fun y => y.get (F.AP_BR_LOCK c) = 1 ∧
          (x.flag (F.AP_BR_KIND c) = true → y.get (F.AP_BR_RATIO c) = ratio.toNat ∧
            x.FieldsOnly y [F.AP_BR_LOCK c, F.AP_BR_RATIO c]) ∧
          (x.flag (F.AP_BR_KIND c) = false → x.FieldsOnly y [F.AP_BR_LOCK c])) ∧
      (x.flag (F.AP_BR_LOCK c) = true → x.bridgeSilent c = true → Completes s sd (.bridgeUnlock sd c) fun y => y.get (F.AP_BR_LOCK c) = 0 ∧
        y.get (F.AP_BR_UNLOCK c) = 1 ∧ y.get F.AP_STAT_BR_UNLOCK = 1 ∧ y.bridgeOut c = 0 ∧
        x.FieldsOnly y [F.AP_BR_LOCK c, F.AP_BR_UNLOCK c, F.AP_STAT_BR_UNLOCK])) ∧
    (x.pulsing = true → x.ports.pdmOn = true → x.flag F.AP_PDM_CFG_CLK_OUT = false → Completes s sd (.pdmSlip sd) fun y =>
      y.get F.AP_PDM_STAT_SLIP = 1 ∧ y.get F.AP_PDM_STAT_SLIP_CNT = min (x.get F.AP_PDM_STAT_SLIP_CNT + 1) 65535 ∧
      x.FieldsOnly y [F.AP_PDM_STAT_SLIP, F.AP_PDM_STAT_SLIP_CNT]) ∧
    (x.alive = true →
      (∀ t : Nat, Completes s sd (.wordClockEdge ⟨sd, t⟩) fun y => y.get F.AP_WCLK_IN_PRESENT = 1 ∧ y.tm = { x.tm with edges := seen 2 t } ∧
        x.FieldsOnly { y with tm := x.tm } [F.AP_WCLK_IN_PRESENT]) ∧
      (Completes s sd (.wordClockAbsent sd) fun y => y.get F.AP_WCLK_IN_PRESENT = 0 ∧ x.FieldsOnly y [F.AP_WCLK_IN_PRESENT]) ∧
      ∀ (g : Fin 16) (rising : Bool) (held t : Nat), let code := if rising then 1 else 2
        let wanted := x.get F.TM_CAP_GPIO / 4 ^ g.val % 4
        let edges := if g = 0 ∧ rising = true then seen 6 t else x.tm.edges
        (held < x.deglitch g → Completes s sd (.gpioEdge sd g rising held t) fun y => x.BitIs y F.AP_GPIO_IN g (!rising) ∧
          x.FieldsOnly y [F.AP_GPIO_IN]) ∧
        (x.deglitch g ≤ held → x.bit F.AP_GPIO_DIR g = false → x.clocked = true → x.tm.captures.length < 64 →
          (∀ n, n < 128 → x.get (F.TK_CUE_STATE n) ≠ 2) → Completes s sd (.gpioEdge sd g rising held t) fun y =>
            x.BitIs y F.AP_GPIO_IN g rising ∧
            (wanted = code ∨ wanted = 3 → y.tm = { x.tm with
                edges := edges
                captures := x.tm.captures ++
                  [{ kind := 1, index := g, data := code, num := 0, time := wrapCounter ((x.rowStart : Int) + t), row := x.row }] } ∧
              x.FieldsOnly { y with tm := x.tm } (F.AP_GPIO_IN :: F.TM_CAP_STAT_COUNT :: (List.range 8).map F.TM_CAP_HEAD)) ∧
            (wanted ≠ code → wanted ≠ 3 → y.tm = { x.tm with edges := edges } ∧ x.FieldsOnly { y with tm := x.tm } [F.AP_GPIO_IN]))))

/-! ### Network and Shemas -/

/-- R282, R305, R306, R343 to R345, R347, R352, R353, R357: an Ethernet port comes up and goes down; frames are counted, dropped, answered and taken: a
media packet leaves its flow's samples by their rows; the loss of the Announce messages; a queued frame leaves its queue, a
media packet once its shaper's credit lets it; the refresh of an armed buffer's address. -/
def Obligations.EthernetPorts : Prop :=
  ∀ (s : State) (sd : SideId) (p : Fin 2), let x := s.side sd
    let queued := fun (y : Side) (q : Fin 2) (k ref dst : Nat) => y.net.txq[q].map (fun f => (f.queue, f.kind, f.ref, f.dst)) =
      x.net.txq[q].map (fun f => (f.queue, f.kind, f.ref, f.dst)) ++ [(1, k, ref, dst)]
    x.gateOpen 38 = true →
    (x.pulsing = true → x.bit F.CK_SERPLL_LOCK (p.val + 1) = true → 0 < x.serRate p → x.serRate p < 4 → x.flag (F.NW_PORT_UP p) = false →
      Completes s sd (.ethLinkUp sd p) fun y => y.get (F.NW_PORT_UP p) = 1 ∧ y.get (F.NW_PORT_RATE p) = x.serRate p ∧
        y.get F.NW_STAT_LINK_CHG = 1 ∧ x.Told y 0x16 p [1] ∧
        y.get (F.TM_TSC_ING p) = ((tscOf (x.serRate p) (x.flag (F.NW_PORT_FEC p))).1 + x.net.ports[p].ingAdd) % 2 ^ 32 ∧
        y.get (F.TM_TSC_EGR p) = ((tscOf (x.serRate p) (x.flag (F.NW_PORT_FEC p))).2 + x.net.ports[p].egrAdd) % 2 ^ 32 ∧
        x.FieldsOnly { y with fw := x.fw } [F.NW_PORT_UP p, F.NW_PORT_RATE p, F.NW_STAT_LINK_CHG, F.TM_TSC_ING p, F.TM_TSC_EGR p]) ∧
    (x.flag (F.NW_PORT_UP p) = true → x.net.txq[p] = [] → Completes s sd (.ethLinkDown sd p) fun y => y.get (F.NW_PORT_UP p) = 0 ∧
      y.get (F.NW_PORT_DOWNS p) = min (x.get (F.NW_PORT_DOWNS p) + 1) 255 ∧ y.get F.NW_STAT_LINK_CHG = 1 ∧ x.Told y 0x16 p [0] ∧
      x.FieldsOnly { y with fw := x.fw } [F.NW_PORT_UP p, F.NW_PORT_DOWNS p, F.NW_STAT_LINK_CHG]) ∧
    (x.clocked = true → Completes s sd (.ptpAnnounceTimeout sd p) fun y => y.get (F.TM_CAND_CLASS p) = 0xFF ∧ y.qualified p = false ∧
      y.net.ports[p] = { x.net.ports[p] with foreign := [], sync := none } ∧ (∀ q : Fin 2, q ≠ p → y.net.ports[q] = x.net.ports[q]) ∧
      ((∀ c : Fin 8, x.qualified c = false) → x.flag F.TM_STAT_REF_SPLIT = false →
        x.FieldsOnly { y with net := { y.net with ports := x.net.ports } } [F.TM_CAND_CLASS p])) ∧
    (x.ethOn p = true → ∀ (len t : Nat) (freq : Int) (last : Bool),
      let took := fun (y : Side) => y.get (F.NW_PORT_RX_FRAMES p) = (x.get (F.NW_PORT_RX_FRAMES p) + 1) % 2 ^ 32
      (∀ (ok : Bool) (f : EthFrame), (ok = false ∨ 1522 < len ∨ f = .ipv6 ∨ f = .fragment) →
        Completes s sd (.ethFrameReceive sd p ok len t freq last f) fun y => took y ∧
          y.get (F.NW_PORT_RX_DROP p) = min (x.get (F.NW_PORT_RX_DROP p) + 1) (2 ^ 32 - 1) ∧
          x.FieldsOnly y [F.NW_PORT_RX_FRAMES p, F.NW_PORT_RX_DROP p]) ∧
      (64 ≤ len → len ≤ 1522 → ∀ (sender mac : Nat), x.net.ports[p].addr ≠ 0 → x.answers = true →
        Completes s sd (.ethFrameReceive sd p true len t freq last (.arpRequest x.net.ports[p].addr sender mac)) fun y => took y ∧
          queued y p 7 0 sender ∧ x.FieldsOnly { y with net := { y.net with txq := x.net.txq } } [F.NW_PORT_RX_FRAMES p]) ∧
      ∀ (f : Fin 128) (src sport pt ssrc ts : Nat) (payload : List Byte), let w := x.flowWord f
        let b := if p.val = 1 then 9 else 5
        let n := x.flowChannels f
        let k := x.flowP f
        let size := sampleBytes (x.flowFormat f)
        let o := nearestRow x.row ((ts + 2 ^ 32 - w 4) % 2 ^ 32)
        let r := shiftRow k o
        x.upsets = [] → 64 ≤ len → len ≤ 1522 → x.flowsOn 0 128 = [f.val] → (x.flowLegs f).testBit p = true → w (b + 1) = 0 → x.flowF f (b + 2) 16 16 = 0 →
        x.flowF f 0 12 7 = 0 → w 3 = 0 → payload.length = n * k * size → o ≤ x.row + 2 * k + x.flowOMax f →
        Completes s sd (.ethFrameReceive sd p true len t freq last (.media (w b) src (x.flowF f (b + 2) 0 16) sport pt ssrc ts payload))
          fun y => took y ∧ y.net.got = (f.val, r) :: x.net.got ∧ y.flowWord f 19 = ts % 2 ^ 32 ∧
            y.flowWord f (b / 8 + 15) = (x.flowWord f (b / 8 + 15) + 1) % 2 ^ 32 ∧ x.KeptOutside y (flowBase f) 128 ∧
            (∀ j, j < k → ∀ c, c < n → x.row ≤ r + j + x.flowO f → x.net.have f (r + j) k = false →
              Sparse.get (fun _ => 0#24) y.pages.netIn ((r + j) * 65536 + f.val * 64 + c) =
                recvSample (x.flowFormat f) (payload.drop ((j * n + c) * size))) ∧
            x.FieldsOnly { y with mem := x.mem, net := { y.net with got := x.net.got }, pages := { y.pages with netIn := x.pages.netIn } }
              [F.NW_PORT_RX_FRAMES p]) ∧
    (∀ (t : Nat) (f : TxFrame), x.pulsing = true → x.ethOn p = true → (∀ g ∈ x.net.txq[p], x.lets g = true) →
      nextTx x.net.txq[p] = some f →
      let z := x.shape p (x.rowStart + t)
      let port := z.net.ports[p]
      let left := fun (y : Side) => y.get (F.NW_PORT_TX_FRAMES p) = (x.get (F.NW_PORT_TX_FRAMES p) + 1) % 2 ^ 32 ∧
        y.net.txq[p] = x.net.txq[p].erase f ∧ y.net.sent[p] = some f ∧
        (∀ q : Fin 2, q ≠ p → y.net.ports[q] = x.net.ports[q] ∧ y.net.txq[q] = x.net.txq[q] ∧ y.net.sent[q] = x.net.sent[q]) ∧
        { y.net with ports := x.net.ports, txq := x.net.txq, sent := x.net.sent } = x.net
      let e := x.stamp t + x.get (F.TM_TSC_EGR p)
      (f.kind = 2 → Completes s sd (.ethFrameTransmit sd p t) fun y => left y ∧
        y.net.ports[p] = { port with
          req := ((f.ref, e) :: port.req).take 8, stamps := ((1, f.ref, x.stamp t, e) :: port.stamps).take 16 } ∧
        x.FieldsOnly { y with net := x.net } [F.NW_PORT_TX_FRAMES p]) ∧
      (5 ≤ f.kind → Completes s sd (.ethFrameTransmit sd p t) fun y => left y ∧ y.net.ports[p] = port ∧
        x.FieldsOnly { y with net := x.net } [F.NW_PORT_TX_FRAMES p]) ∧
      (f.kind = 1 → 0 ≤ port.credit → f.ref < 256 → x.upsets = [] → Completes s sd (.ethFrameTransmit sd p t) fun y => left y ∧
        y.flowWord f.ref 19 = f.stamp % 2 ^ 32 ∧ y.flowWord f.ref (15 + p.val) = (x.flowWord f.ref (15 + p.val) + 1) % 2 ^ 32 ∧
        y.net.ports[p] = (z.shaped p f).net.ports[p] ∧ x.KeptOutside y (flowBase f.ref) 128 ∧
        x.FieldsOnly { y with net := x.net, mem := x.mem } [F.NW_PORT_TX_FRAMES p]) ∧
      ((∀ g ∈ x.net.txq[p], g.kind = 1) → port.credit < 0 → Completes s sd (.ethFrameTransmit sd p t) fun y => y = z)) ∧
    ∀ b : Fin 256, x.answers = true → (∀ q : Fin 2, x.flag (F.NW_PORT_UP q) = true) → x.armedBuffers = [b.val] →
      groupMac (x.bufVal b 0 4) = none → Completes s sd (.arpRefresh sd) fun y =>
        (∀ q : Fin 2, queued y q 6 b (x.nextHop q (x.bufVal b 0 4))) ∧ { y with net := { y.net with txq := x.net.txq } } = x

/-- R359, R360, R362, R364, R366: a link takes the peer of its 16th HELLO; a good frame delivers the blocks of the skeins that wait for
their row; a skein without a block (whose reader in the Gauge island waited for it), a silent link and cells without an acknowledgement. -/
def Obligations.ShemasLinks : Prop :=
  ∀ (s : State) (sd : SideId) (l : Fin 4), let x := s.side sd
    let k := x.shemas.links[l]
    let linkIs := fun (y : Side) (c : Link) => y.shemas.links[l] = c ∧ (∀ j : Fin 4, j ≠ l → y.shemas.links[j] = x.shemas.links[j])
    let rest := fun (y : Side) (fs : List Fld) => x.FieldsOnly { y with shemas := { y.shemas with links := x.shemas.links } } fs
    x.linksOn = true →
    (∀ (dev : Fin 64) (side : Fin 2) (link : Fin 4) (rate : Fin 8) (sees : Bool),
      let peer := fun (y : Side) => y.get (F.SH_LINK_PEER_DEVID l) = dev ∧ y.get (F.SH_LINK_PEER_SIDE l) = side ∧
        y.get (F.SH_LINK_PEER_LINK l) = link ∧
        rest y [F.SH_LINK_STATE l, F.SH_LINK_PEER_DEVID l, F.SH_LINK_PEER_SIDE l, F.SH_LINK_PEER_LINK l]
      x.shState l = 1 →
      (k.hellos < 15 ∨ sees = false → Completes s sd (.shemasHelloReceive sd l dev side link rate sees) fun y => peer y ∧
        y.shState l = 1 ∧ linkIs y { k with hellos := k.hellos + 1 }) ∧
      (15 ≤ k.hellos → sees = true → Completes s sd (.shemasHelloReceive sd l dev side link rate sees) fun y => peer y ∧
        y.shState l = (if dev.val = s.host.get F.HP_ID_DEVID then 4 else if rate.val ≠ x.rate then 3 else 2) ∧
        linkIs y { Link.reset with hellos := 16 })) ∧
    (∀ (t : Nat) (f : RowFrame) (freq : Int) (last : Bool), x.linkCarries l = true →
      (f.hcrcOk = false → Completes s sd (.rowFrameReceive sd l t f freq last) fun y =>
        y.get (F.SH_LINK_CRC_ERR l) = min (x.get (F.SH_LINK_CRC_ERR l) + 1) 65535 ∧ x.FieldsOnly y [F.SH_LINK_CRC_ERR l]) ∧
      (f.hcrcOk = true → f.cells = [] → x.gauge.waits = none → k.sentAt = [] → k.unacked = [] → k.resend = [] → s.host.relay = [] →
        (f.skeins = [] → Completes s sd (.rowFrameReceive sd l t f freq last) fun y =>
          y.get (F.SH_LINK_PEER_KEEPALIVE l) = f.keepalive.toNat ∧
          linkIs y { k with heard := true, credit := f.credit, rxPrev := some (f.row, (x.stamp t % 2 ^ 64).toNat) } ∧
          rest y [F.SH_LINK_PEER_KEEPALIVE l]) ∧
        (∀ (b : SkeinBlock) (n : Fin 16), let i := 32 * l.val + n.val
          f.skeins = [b] → b.skein = n.val → b.crcOk = true → x.shState l = 2 → f.row = x.row → x.skeinOn i = true →
          b.channels = x.skeinF i 0 12 8 + 1 → b.words.length = b.channels → b.hops = x.skeinF i 0 20 4 → x.skeinTaken i f.row = false →
          x.skeinF i 0 7 1 = 0 → (∀ a : Fin 4, a ≠ l → x.skeinOn (32 * a.val + n.val) = false) → x.pages.shemas = [] →
          Completes s sd (.rowFrameReceive sd l t f freq last) fun y => y.skeinTaken i f.row = true ∧
            y.skeinF i 1 0 32 = (x.skeinF i 1 0 32 + 1) % 2 ^ 32 ∧
            (∀ c : Nat, c < b.channels → some (Sparse.get (fun _ => 0#24) y.pages.shemasIn (f.row * 65536 + l.val * 4096 + n.val * 256 + c)) = b.words[c]?) ∧
            x.FieldsOnly { y with shemas := x.shemas, pages := { y.pages with shemasIn := x.pages.shemasIn, mark := x.pages.mark } }
              [F.SH_LINK_PEER_KEEPALIVE l]))) ∧
    (∀ n : Fin 16, let i := 32 * l.val + n.val
      let m := (x.row + 2 ^ 64 - 1) % 2 ^ 64
      x.skeinOn i = true → x.skeinTaken i m = false → Completes s sd (.skeinMissed sd l n) fun z => z.ThenGauge fun y => y.skeinTaken i m = true ∧
        y.skeinF i 2 0 16 = min (x.skeinF i 2 0 16 + 1) 65535 ∧
        { y with shemas := { y.shemas with skeins := x.shemas.skeins, taken := x.shemas.taken }, pages := { y.pages with mark := x.pages.mark } } = x) ∧
    (x.linkCarries l = true →
      (4 ≤ k.missRun → (∀ m ∈ s.host.relay, m.via ≠ some (sd, l.val)) → Completes s sd (.shemasLinkLoss sd l) fun y => y.shState l = 1 ∧
        y.get (F.SH_LINK_DOWNS l) = min (x.get (F.SH_LINK_DOWNS l) + 1) 255 ∧ y.get F.SH_STAT_LINK_CHG = 1 ∧
        x.Told y 0x17 l [1] ∧ linkIs y Link.reset ∧ rest { y with fw := x.fw } [F.SH_LINK_STATE l, F.SH_LINK_DOWNS l, F.SH_STAT_LINK_CHG]) ∧
      let old := k.unacked.filter (fun c => decide (c.1 + 4 ≤ x.row))
      old ≠ [] → Completes s sd (.controlCellResend sd l) fun y =>
        y.get (F.SH_LINK_RESENT l) = min (x.get (F.SH_LINK_RESENT l) + old.length) (2 ^ 32 - 1) ∧
        linkIs y { k with resend := k.resend ++ old.map Prod.snd, unacked := k.unacked.filter (fun c => !decide (c.1 + 4 ≤ x.row)) } ∧
        rest y [F.SH_LINK_RESENT l])

/-! ### The Side fabric and the DMA engine -/

/-- R424, R426, R427, R430, R431: a request below its bounds is granted: a write burst reaches X or C memory, a read burst brings its bytes,
an address without a target brings DECERR, and it is outstanding until its response; a request at its master's bound waits; a response
leaves, and an error enters the error record; a master's reset closes what it had outstanding. -/
def Obligations.FabricTransactions : Prop :=
  ∀ (s : State) (sd : SideId) (m : Fin 12) (env : BusEnv), let x := s.side sd
    let counted := fun (y : Side) (n : Nat) (w : Bool) => (y.fab.out.filter (fun t => t.master = n ∧ t.write = w)).length
    let counts := (List.range 12).flatMap (fun k => [F.FB_M_RD_OUT k, F.FB_M_WR_OUT k, F.FB_M_RD_PEAK k, F.FB_M_WR_PEAK k])
    let recorded := [F.FB_STAT_ERR, F.FB_STAT_MULTI, F.FB_ERR_INFO_MASTER, F.FB_ERR_INFO_TARGET, F.FB_ERR_INFO_RESP, F.FB_ERR_INFO_WRITE,
      F.FB_ERR_INFO_VALID, F.FB_ERR_ADDR, F.FB_ERR_CNT_COUNT]
    let tallied := fun (y : Side) => ∀ k : Fin 12, y.get (F.FB_M_RD_OUT k) = counted y k false % 32 ∧
      y.get (F.FB_M_WR_OUT k) = counted y k true % 32 ∧
      y.get (F.FB_M_RD_PEAK k) = max (counted y k false) (x.get (F.FB_M_RD_PEAK k)) % 32 ∧
      y.get (F.FB_M_WR_PEAK k) = max (counted y k true) (x.get (F.FB_M_WR_PEAK k)) % 32
    x.alive = true → x.fab.wait = [] →
    (∀ (q : FabReq) (a : BitVec 32), let n := 32 * (q.beats.val + 1)
      let tx : FabTx := { master := m, id := q.id, write := q.write, target := fabTarget a.toNat, addr := a.toNat, beat := 0, resp := 0, data := [] }
      let granted := fun (y : Side) (t : FabTx) => y.fab = { x.fab with out := x.fab.out ++ [t], turn := (m.val + 1) % 12 } ∧ tallied y ∧
        x.FieldsOnly { y with mem := x.mem, fab := x.fab } counts
      q.master = m → q.id.val < masterIds m → q.dest = .space a → q.narrow = false → a.toNat % 32 = 0 → a.toNat % 4096 + n ≤ 4096 →
      (m.val = 11 → x.debugOn = true) → x.closingAt a.toNat = false →
      (∀ t ∈ x.fab.out, t.master = m.val → t.id = q.id.val → t.target = fabTarget a.toNat) →
      (16 ≤ counted x m q.write → Completes s sd (.fabricRequest sd q none env) fun y => y = { x with fab := { x.fab with wait := [q] } }) ∧
      (counted x m q.write < 16 → x.fab.out.length < 176 →
        (x.PlainBytes a.toNat n → m.val ∈ (targetMasters (fabTarget a.toNat)).1 →
          (q.write = true → m.val ∉ (targetMasters (fabTarget a.toNat)).2 → q.data.length = n → q.strobes = List.replicate n true → q.collide = [] →
            Completes s sd (.fabricRequest sd q none env) fun y => x.Wrote y a.toNat q.data ∧ granted y tx) ∧
          (q.write = false → Completes s sd (.fabricRequest sd q none env) fun y => y.mem = x.mem ∧
            granted y { tx with data := (List.range n).map (fun i => x.byte (a.toNat + i)) })) ∧
        (fabTarget a.toNat = 31 → q.write = true → Completes s sd (.fabricRequest sd q none env) fun y => y.mem = x.mem ∧
          granted y { tx with resp := 3 }))) ∧
    (∀ (id : Fin 16) (stalled : Nat) (t : FabTx), x.fab.out.find? (fun u => u.master = m.val ∧ u.id = id.val) = some t → m.val ≠ 2 ∨ t.resp = 0 →
      let left := fun (y : Side) => y.fab.out = x.fab.out.erase t ∧ y.fab.lastResp = t :: x.fab.lastResp.filter (fun u => u.master ≠ m) ∧ tallied y
      Completes s sd (.fabricResponse sd m id stalled env) fun y => left y ∧ x.FieldsOnly { y with fab := x.fab } (counts ++ recorded) ∧
        (t.resp ≤ 1 → ∀ f ∈ recorded, y.get f = x.get f) ∧
        (2 ≤ t.resp → x.flag F.FB_STAT_ERR = false → y.get F.FB_STAT_ERR = 1 ∧ y.get F.FB_ERR_INFO_MASTER = m ∧
          y.get F.FB_ERR_INFO_TARGET = (if t.resp = 3 then 31 else t.target % 32) ∧ y.get F.FB_ERR_INFO_RESP = t.resp % 8 ∧
          y.get F.FB_ERR_INFO_WRITE = (if t.write then 1 else 0) ∧ y.get F.FB_ERR_INFO_VALID = 1 ∧
          y.get F.FB_ERR_ADDR = (t.addr + 32 * t.beat) % 2 ^ 32 ∧ y.get F.FB_STAT_MULTI = x.get F.FB_STAT_MULTI ∧
          y.get F.FB_ERR_CNT_COUNT = x.get F.FB_ERR_CNT_COUNT) ∧
        (2 ≤ t.resp → x.flag F.FB_STAT_ERR = true → y.get F.FB_STAT_MULTI = 1 ∧
          y.get F.FB_ERR_CNT_COUNT = min (x.get F.FB_ERR_CNT_COUNT + 1) 65535 ∧
          ∀ f ∈ recorded, f ≠ F.FB_STAT_MULTI → f ≠ F.FB_ERR_CNT_COUNT → y.get f = x.get f)) ∧
    Completes s sd (.masterReset sd m none env) fun y => y.fab = { x.fab with out := x.fab.out.filter (fun t => t.master ≠ m) } ∧ tallied y ∧
      y.get F.FB_STAT_RST_CLOSE = (if counted x m false = 0 then x.get F.FB_STAT_RST_CLOSE else 1) ∧
      x.FieldsOnly { y with fab := x.fab } (F.FB_STAT_RST_CLOSE :: counts)

/-- R433, R438, R439: a request sets the latch of its line, or is lost and counted; a software request is firmware's, or the host's in Maker
and Open; the engine parks a lent channel that stays halted; a write of REC_CONS that does not pass REC_WR frees its records. R432, R434,
R435: the engine starts the job of the lowest channel that is ready and moves its bytes; when they have moved, or the next transfer's
request stays away, it writes the record of Table FB-5 and is idle again. JOBS counts the jobs that were completed (the model's reading, log
entry 66). -/
def Obligations.DmaEngine : Prop :=
  (∀ (s : State) (sd : SideId), let x := s.side sd
    let pend := fun (l : Nat) => if l < 32 then (F.DMA_PEND_LO, l) else (F.DMA_PEND_HI, l - 32)
    let lost := fun (y : Side) (l : Nat) => y.get F.DMA_LOST_COUNT = min (x.get F.DMA_LOST_COUNT + 1) 65535 ∧ y.get F.DMA_STAT_LOST = 1 ∧
      y.get F.DMA_LOST_VALID = (if x.flag F.DMA_LOST_VALID then x.get F.DMA_LOST_VALID else 1) ∧
      y.get F.DMA_LOST_LINE = (if x.flag F.DMA_LOST_VALID then x.get F.DMA_LOST_LINE else l)
    let losses := [F.DMA_LOST_COUNT, F.DMA_STAT_LOST, F.DMA_LOST_VALID, F.DMA_LOST_LINE]
    (∀ (l : Fin 48) (src : BitVec 32) (len : Fin 16777216), x.clocked = true → x.dma.job = none →
      let n := if len.val = 0 then 2 ^ 24 else len.val
      (x.bit (pend l).1 (pend l).2 = false → Completes s sd (.dmaRequest sd l src len) fun y => x.BitIs y (pend l).1 (pend l).2 true ∧
        y.dma = { x.dma with headers := if x.dma.headers.any (fun h => h.1 = l) then x.dma.headers else x.dma.headers ++ [(l.val, src.toNat, n)] } ∧
        x.FieldsOnly { y with dma := x.dma } [(pend l).1]) ∧
      (x.bit (pend l).1 (pend l).2 = true → Completes s sd (.dmaRequest sd l src len) fun y => lost y l ∧ x.FieldsOnly y losses)) ∧
    (∀ (w : Writer) (c : Fin 16), let p := pend (48 + c.val)
      (s.mayWrite sd w = false → Completes s sd (.dmaSoftwareRequest sd w c) fun y => y = x) ∧
      (s.mayWrite sd w = true → Completes s sd (.dmaSoftwareRequest sd w c) fun y => y.get F.DMA_SWREQ_CH = c ∧
        (x.bit p.1 p.2 = false → x.BitIs y p.1 p.2 true ∧ x.FieldsOnly y [F.DMA_SWREQ_CH, p.1]) ∧
        (x.bit p.1 p.2 = true → lost y (48 + c.val) ∧ x.FieldsOnly y (F.DMA_SWREQ_CH :: losses)))) ∧
    (∀ (c : Fin 16) (j : DmaJob), x.alive = true → x.dma.job = some j → j.ch = c →
      (x.flag (F.DMA_CH_LENT c) = true → x.flag (F.DMA_CH_HALTED c) = true → x.flag F.DMA_STAT_HALTED = true →
        Completes s sd (.dmaChannelPark sd c) fun y => y.get (F.DMA_CH_PARKED c) = 1 ∧ y.get F.DMA_STAT_HALTED = 0 ∧ y.get F.DMA_STAT_BUSY = 0 ∧
          y.dma = { x.dma with job := none, parked := x.dma.parked ++ [j] } ∧
          x.FieldsOnly { y with dma := x.dma } [F.DMA_CH_PARKED c, F.DMA_STAT_HALTED, F.DMA_STAT_BUSY]) ∧
      (x.flag (F.DMA_CH_LENT c) = false → Completes s sd (.dmaChannelPark sd c) fun y => y = x)) ∧
    ∀ (w : Writer) (c : Fin 16) (v : BitVec 16), let k := (v.toNat + 65536 - x.get (F.DMA_CH_REC_CONS c)) % 65536
      let held := (x.get (F.DMA_CH_REC_WR c) + 65536 - x.get (F.DMA_CH_REC_CONS c)) % 65536
      x.alive = true → (w = .host → s.host.open = true ∧ (x.flag (F.DMA_CH_LENT c) = true ∨ x.fuses.lc ≤ 1)) → x.get (F.DMA_CH_REC_CONS c) < 65536 →
      (held < k → Completes s sd (.dmaRecordConsume sd w c v) fun y => y = x) ∧
      (k ≤ held → x.dma.records.Nodup → Completes s sd (.dmaRecordConsume sd w c v) fun y => y.get (F.DMA_CH_REC_CONS c) = v.toNat ∧
        y.dma.records.filter (fun r => r.1 = c.val) = (x.dma.records.filter (fun r => r.1 = c.val)).drop k ∧
        y.dma.records.filter (fun r => r.1 ≠ c.val) = x.dma.records.filter (fun r => r.1 ≠ c.val) ∧
        x.FieldsOnly { y with dma := { y.dma with records := x.dma.records } } [F.DMA_CH_REC_CONS c])) ∧
  (∀ (s : State) (sd : SideId) (c : Fin 16), let x := s.side sd
    let pend := fun (l : Nat) => if l < 32 then (F.DMA_PEND_LO, l) else (F.DMA_PEND_HI, l - 32)
    x.clocked = true → x.flag F.DMA_STAT_HALTED = false →
    (∀ l src len : Nat, let dst := x.get64 (F.DMA_CH_DST_LO c) (F.DMA_CH_DST_HI c)
      x.flag F.DMA_CTRL_EN = true → x.flag F.DMA_STAT_BUSY = false → x.flag (F.DMA_CH_EN c) = true → x.jobHeader c l = some (src, len) →
      x.flag (F.DMA_CH_HALTED c) = false → x.pendingLine c = some l → (∀ d : Fin 16, d < c → x.ready d = none) → (∀ j ∈ x.dma.parked, j.ch ≠ c) →
      x.recFull c = false → x.flag (F.DMA_CH_HOSTDST c) = false → x.get (F.DMA_CH_DATA_LEN c) = 0 → 0 < len →
      len ≤ 32 * (x.get (F.DMA_CH_BURST c) + 1) → src % 32 = 0 → dst % 32 = 0 → src % 4096 + len ≤ 4096 → dst % 4096 + len ≤ 4096 →
      x.PlainBytes src ((len + 31) / 32 * 32) → x.PlainBytes dst len →
      Completes s sd (.dmaJobStart sd) fun y => x.Wrote y dst ((List.range len).map (fun i => x.byte (src + i))) ∧
        y.get F.DMA_STAT_BUSY = 1 ∧ y.get F.DMA_STAT_CH = c ∧ y.get (F.DMA_CH_ACTIVE c) = 1 ∧ y.get (F.DMA_CH_FULL c) = 0 ∧
        y.get (F.DMA_CH_DONE_BYTES c) = len ∧ x.BitIs y (pend l).1 (pend l).2 false ∧
        y.dma = { x.dma with
          job := some { ch := c, line := l, src := src, len := len, dst := dst, toHost := false, off := 0, next := 1, skipped := false, retry := false },
          headers := x.dma.headers.filter (fun h => h.1 ≠ l) } ∧
        x.FieldsOnly { y with mem := x.mem, dma := x.dma } (F.DMA_STAT_BUSY :: F.DMA_STAT_CH :: F.DMA_CH_ACTIVE c :: F.DMA_CH_DONE_BYTES c ::
          (pend l).1 :: (List.range 16).map F.DMA_CH_FULL)) ∧
    ∀ j : DmaJob, x.dma.job = some j → j.ch = c → 4 ≤ j.line → j.line < 64 →
      let at' := x.get64 (F.DMA_CH_REC_BASE_LO c) (F.DMA_CH_REC_BASE_HI c) + 16 * (x.get (F.DMA_CH_REC_WR c) % x.get (F.DMA_CH_REC_COUNT c))
      let fb5 := fun (status : Nat) => leBytes 4 (c.val + 16 * status + 256 * j.line + 65536 * x.get (F.DMA_CH_SEQ c)) ++
        leBytes 4 (if x.get (F.DMA_CH_DATA_LEN c) = 0 then 0 else j.off) ++ leBytes 4 (x.get (F.DMA_CH_DONE_BYTES c)) ++ leBytes 4 x.row
      let ended := fun (y : Side) (status : Nat) => y.get (F.DMA_CH_REC_WR c) = (x.get (F.DMA_CH_REC_WR c) + 1) % 65536 ∧
        y.get (F.DMA_CH_SEQ c) = (x.get (F.DMA_CH_SEQ c) + 1) % 65536 ∧ y.get F.DMA_STAT_BUSY = 0 ∧ y.get (F.DMA_CH_ACTIVE c) = 0 ∧
        y.get (F.DMA_CH_JOBS c) = (if status = 2 then x.get (F.DMA_CH_JOBS c) else (x.get (F.DMA_CH_JOBS c) + 1) % 2 ^ 32) ∧
        y.get (F.DMA_CH_ABANDONED c) = (if status = 2 then 1 else x.get (F.DMA_CH_ABANDONED c)) ∧
        y.dma = { x.dma with job := none, records := x.dma.records ++
          [(c.val, x.get (F.DMA_CH_SEQ c), if x.get (F.DMA_CH_DATA_LEN c) = 0 then 0 else j.off, true)] } ∧
        x.FieldsOnly { y with mem := x.mem, dma := x.dma, col := x.col } [F.DMA_CH_REC_WR c, F.DMA_CH_SEQ c, F.DMA_STAT_BUSY,
          F.DMA_CH_ACTIVE c, F.DMA_CH_JOBS c, F.DMA_CH_ABANDONED c]
      (x.jobMoved j = true → let status := if j.skipped then 1 else 0
        (x.flag (F.DMA_CH_HOSTDST c) = false → x.PlainBytes at' 16 → at' % 16 = 0 →
          Completes s sd (.dmaJobComplete sd) fun y => x.Wrote y at' (fb5 status) ∧ ended y status) ∧
        (x.flag (F.DMA_CH_HOSTDST c) = true → s.host.masters = true → ∃ t, exec (.dmaJobComplete sd) s = .next t ∧
          t.side sd.other = s.side sd.other ∧ t.pending = s.pending ∧ t.host.memWrite = some (at', fb5 status) ∧
          (t.side sd).mem = x.mem ∧ ended (t.side sd) status)) ∧
      (x.jobMoved j = false → x.bit (pend j.line).1 (pend j.line).2 = false → x.flag (F.DMA_CH_HOSTDST c) = false → x.PlainBytes at' 16 →
        at' % 16 = 0 → Completes s sd (.dmaJobAbandon sd) fun y => x.Wrote y at' (fb5 2) ∧ ended y 2))

/-! ### Ibelle -/

/-- R402, R404 to R409, R413 (Table IB-2): firmware takes a message in every class in the same way: it checks version, device, length, CRC,
Side, class, opcode, session, mode, Twin and the payload's length in this order, and the first check that fails gives the reply's status;
nothing but the reply then changes. A message for another device goes to the relay. A reply that fits one slot is one message with the
request's class, opcode, SEQ and session. (That a command processes the message at the ring's front even when one of the checks before the
opcode fails, and LAST_SEQ includes it, is the model's reading: log entry 79.) R408, R412, R417 to R419, R466, R469, R473: SYS NOP, INFO,
the session, RUN and BIND_OFF for a row at least 4 rows on, RESET_SIDE; EVT ACK clears a record's flags, ATTN gives an event its line, LOST
tells of lost events. -/
def Obligations.ChecksAndSystemMessages : Prop :=
  (∀ (s : State) (c : Instr) (sd : SideId) (cls op : Nat), messageCode c = some (sd, cls, op) →
    let x := s.side sd
    let m := s.front sd
    let tag := s.frontTag sd % 4
    let here := (m.sel = sd.num ∧ tag ≠ 1) ∨ (m.sel = 2 ∧ tag ≠ 0) ∨ m.sel = 3
    let free := (m.cls = 1 ∧ m.op ≤ 2) ∨ m.cls = 0x10
    let sum := if m.len = 0 then 0 else crc32 m.payload
    (s.ringFront sd = none ∨ x.serves = false → ∃ t, exec c s = .next t ∧ Unchanged s t) ∧
    (s.ringFront sd ≠ none → x.serves = true →
      (m.version ≠ 2 → Refuses s sd c 0x01 0) ∧
      (m.version = 2 → m.devid % 64 ≠ s.host.get F.HP_ID_DEVID → s.host.routeFull (m.devid % 64) = false → ∃ t, exec c s = .next t ∧
        t.side sd = { x with fw := { x.fw with lastSeq := m.seq } } ∧ t.side sd.other = s.side sd.other ∧
        t.host.get (F.HP_MB_IN_CONS_IDX sd.num) = (s.host.get (F.HP_MB_IN_CONS_IDX sd.num) + 1) % 128 ∧
        t.host.relay.map (fun r => (r.dest, r.src, r.sel, r.bytes)) = s.host.relay.map (fun r => (r.dest, r.src, r.sel, r.bytes)) ++
          [(.route (m.devid % 64), s.host.get F.HP_ID_DEVID, m.sel, ((s.ringFront sd).elim [] Prod.fst).take (32 + min m.len 4064))]) ∧
      (m.version = 2 → m.devid % 64 = s.host.get F.HP_ID_DEVID →
        (4064 < m.len → Refuses s sd c 0x02 0) ∧
        (m.len ≤ 4064 → m.crc ≠ sum → Refuses s sd c 0x03 0) ∧
        (m.len ≤ 4064 → m.crc = sum → ¬here → Refuses s sd c 0x04 0) ∧
        (m.len ≤ 4064 → m.crc = sum → here →
          (opcodes m.cls = 0 → Refuses s sd c 0x05 0) ∧
          (opcodes m.cls ≠ 0 → m.op = 0 ∨ opcodes m.cls < m.op → Refuses s sd c 0x06 0) ∧
          (1 ≤ m.op → m.op ≤ opcodes m.cls →
            (m.sel = 3 → hostOpcode m.cls m.op = false → Refuses s sd c 0x04 0) ∧
            (m.sel ≠ 3 → m.cls = 0x0C → 3 ≤ m.op → Refuses s sd c 0x04 0) ∧
            ((m.sel = 3 ∧ hostOpcode m.cls m.op = true) ∨ (m.sel ≠ 3 ∧ ¬(m.cls = 0x0C ∧ 3 ≤ m.op)) → m.cls = cls → m.op = op →
              (x.fuses.lc = 3 → ¬free → Refuses s sd c 0x08 0) ∧
              (x.fuses.lc = 2 → ¬free → ¬(m.cls = 1 ∧ m.op = 3) → x.fw.session ≠ some m.session → Refuses s sd c 0x07 0) ∧
              (free ∨ x.fuses.lc ≤ 1 ∨ (x.fuses.lc = 2 ∧ ((m.cls = 1 ∧ m.op = 3) ∨ x.fw.session = some m.session)) →
                (x.takesClass m.cls = false ∨ x.takesOpcode m.cls m.op = false → Refuses s sd c 0x09 x.mode.code) ∧
                (x.takesClass m.cls = true → x.takesOpcode m.cls m.op = true →
                  (x.twinOnly m = true → Refuses s sd c 0x0A 0) ∧
                  (x.twinOnly m = false → m.lenOk = false → Refuses s sd c 0x02 0)))))))) ∧
    ∀ (code detail : Nat) (payload : List Byte) (via : Option Nat) (reset : Option SideId), payload.length ≤ 4064 →
      let r : Msg := { m with version := 2, devid := 0, sel := 0, flags := 1, len := payload.length, crc := 0, payload := payload }
      m.replies code detail payload via reset = [{ event := false, via := via, reset := reset, msg := { r with status := code + 256 * detail } }]) ∧
  (∀ (s : State) (sd : SideId), let x := s.side sd
    let m := s.front sd
    let planned := fun (y : Side) (c : RoleChange) => y = { x with twin := { x.twin with plans := x.twin.plans ++ [(m.u 0 8, c)] } }
    (s.Takes sd 1 1 → Carries s sd (.sysNop sd) [] fun y => y = x) ∧
    (∀ p, x.fw.pattern = some p → s.Takes sd 1 2 → Carries s sd (.sysInfo sd) (leBytes 1 2 ++ leBytes 1 x.mode.code ++
      leBytes 1 (x.get F.PW_MODE_ARR) ++ leBytes 1 x.fuses.lc ++ leBytes 4 x.fw.build ++ leBytes 8 (leVal ((p.header.drop 8).take 8)) ++
      leBytes 4 m.seq ++ leBytes 4 x.fw.evtSeq ++ leBytes 8 x.row) fun y => y = x) ∧
    (s.Takes sd 1 3 →
      let nonce := m.payload.take 16
      let tag := (sha256 (nonce ++ leBytes 1 (s.host.get F.HP_ID_DEVID))).take 8
      ∃ sig : List Byte, sig.length = 64 ∧ Carries s sd (.sysSessionOpen sd) (tag ++ sig) fun y =>
        y = { x with fw := { x.fw with session := some (leVal tag) } }) ∧
    (s.Takes sd 1 4 → Carries s sd (.sysSessionClose sd) [] fun y => y = { x with fw := { x.fw with session := none } }) ∧
    ((s.Takes sd 1 5 → x.unitBanksOn = true →
        (x.row + 4 ≤ m.u 0 8 → Carries s sd (.sysRun sd) [] fun y => planned y .run) ∧
        (m.u 0 8 < x.row + 4 → Refuses s sd (.sysRun sd) 0x12 0)) ∧
      (s.Takes sd 1 6 →
        (x.row + 4 ≤ m.u 0 8 → Carries s sd (.sysBindOff sd) [] fun y => planned y .bindOff) ∧
        (m.u 0 8 < x.row + 4 → Refuses s sd (.sysBindOff sd) 0x12 0))) ∧
    (s.Takes sd 1 7 → ∀ n : Fin 2, m.u 0 1 = n.val →
      Answers s sd (.sysResetSide sd) 0 0 [] (some (if n = 0 then .s0 else .s1)) [] fun _ y => y = x) ∧
    (s.Takes sd 0x11 1 →
      (∀ l, recordFlags (m.u 0 2) (m.u 2 2) = some l →
        (x.flag (l.headD F.PW_MODE_PREV) = true → Carries s sd (.evtAck sd) [] fun y => (∀ f ∈ l, y.get f = 0) ∧ x.FieldsOnly y l) ∧
        (x.flag (l.headD F.PW_MODE_PREV) = false → Carries s sd (.evtAck sd) [] fun y => y = x)) ∧
      (recordFlags (m.u 0 2) (m.u 2 2) = none → Refuses s sd (.evtAck sd) 0x0D 0)) ∧
    (s.Takes sd 0x11 2 → 1 ≤ m.u 0 2 → m.u 0 2 ≤ 0x1C → m.u 2 1 < 32 ∨ m.u 2 1 = 0xFF → Carries s sd (.evtAttn sd) [] fun y =>
      (∀ k, Sparse.get (fun _ => 0xFF) y.fw.lines k = if k = m.u 0 2 then m.u 2 1 else Sparse.get (fun _ => 0xFF) x.fw.lines k) ∧
      { y with fw := { y.fw with lines := x.fw.lines } } = x) ∧
    (s.Takes sd 0x11 3 → Carries s sd (.evtLost sd) (leBytes 4 x.fw.lost ++ leBytes 1 (if x.fw.evtLost then 1 else 0) ++ leBytes 3 0) fun y =>
      y = if m.u 0 1 % 2 = 1 then { x with fw := { x.fw with lost := 0, evtLost := false } } else x))

/-- R44, R58, R412, R469, R475: PAT BEGIN opens a load and takes a Side in Ready to Cast-on; DATA brings bytes; END checks the image and loads the
Pattern, or starts the firmware, or refuses it and changes nothing; INFO and LATENCY tell of the loaded Pattern. -/
def Obligations.ImageMessages : Prop :=
  ∀ (s : State) (sd : SideId) (flash : List Byte), let x := s.side sd
    let m := s.front sd
    let loads := fun (y : Side) => y.fw.image.map (fun i => (i.kind, i.src, i.len, i.flashAddr))
    let data := fun (y : Side) (k : Nat) => Sparse.get (fun _ => none) (y.fw.image.elim [] ImageLoad.data) k
    (s.Takes sd 2 1 → let kind := m.u 0 1
      let src := m.u 1 1
      let len := m.u 4 4
      let opened := fun (y : Side) => loads y = some (kind, src, len, m.u 8 4) ∧
        (∀ k, k < len → data y k = if src = 0 then none else some (flash.getD k 0))
      (1 < kind ∨ 1 < src ∨ len = 0 → Refuses s sd (.patBegin sd flash) 0x0D 0) ∧
      (kind ≤ 1 → src ≤ 1 → len ≠ 0 →
        (x.mode ≠ .ready → Carries s sd (.patBegin sd flash) [] fun y => opened y ∧ { y with fw := { y.fw with image := x.fw.image } } = x) ∧
        (x.mode = .ready → ∃ t, exec (.patBegin sd flash) s = .next t ∧ t.side sd.other = s.side sd.other ∧ t.pending = s.pending ∧
          (t.side sd).fw.outQ = (x.raise 1 sd.num [4, 5]).fw.outQ ++ m.replies 0 0 [] (s.frontVia sd) none ∧ opened (t.side sd) ∧
          x.Moved (t.side sd) .castOn ∧ (t.side sd).RowStopped ∧ (t.side sd).fw.pattern = none ∧ (t.side sd).mem = x.mem ∧
          (t.side sd).row = x.row ∧ (t.side sd).fuses = x.fuses))) ∧
    (s.Takes sd 2 2 → (x.fw.image = none → Refuses s sd (.patData sd) 0x0D 0) ∧
      ∀ i : ImageLoad, let off := m.u 0 4
        let new := m.payload.drop 4
        x.fw.image = some i →
        (i.len < off + new.length → Refuses s sd (.patData sd) 0x0D 0) ∧
        (off + new.length ≤ i.len → Carries s sd (.patData sd) [] fun y => loads y = loads x ∧
          (∀ k, data y k = if off ≤ k ∧ k < off + new.length then new[k - off]? else data x k) ∧
          { y with fw := { y.fw with image := x.fw.image } } = x)) ∧
    (s.Takes sd 2 3 → (x.fw.image = none → Refuses s sd (.patEnd sd) 0x0D 0) ∧
      ∀ i : ImageLoad, let b := i.bytes
        x.fw.image = some i →
        (i.kind ≠ 1 → match x.imageCheck b with
          | some n => Refuses s sd (.patEnd sd) 0x15 n
          | none => x.upsets = [] → x.clk.held = [] → let l := (imageSections b).1
            if x.banksOn (patternBanks b l) then
              ∃ t, exec (.patEnd sd) s = .next t ∧ t.side sd.other = s.side sd.other ∧ t.pending = s.pending ∧
                (∃ told, (t.side sd).fw.outQ = told ++ m.replies 0 0 ((b.drop 8).take 8) (s.frontVia sd) none) ∧
                (t.side sd).fw.pattern = some { header := b.take 64, latency := (bodies l 10).headD [], objects := (bodies l 9).headD [] } ∧
                (t.side sd).fw.image = none ∧ (t.side sd).rate = imgU b 6 1 ∧ (t.side sd).get F.PW_BOOT_STAGE = 5 ∧
                (t.side sd).mode = x.mode ∧ (t.side sd).row = x.row ∧ (t.side sd).fuses = x.fuses ∧
                (x.mode = .castOn → (t.side sd).fw.readyDue = true)
            else Refuses s sd (.patEnd sd) 0x11 0) ∧
        ∀ p : Pattern, i.kind = 1 → x.fw.pattern = some p → if x.firmwareResult b ≠ 0 then Refuses s sd (.patEnd sd) 0x15 2
          else Carries s sd (.patEnd sd) (leBytes 8 (leVal ((p.header.drop 8).take 8))) fun y => y.fw = { x.fw with image := none, build := Config.fwBuild b } ∧
            (if 4 ≤ x.get F.PW_BOOT_STAGE then y.regs = x.regs
              else y.get F.PW_BOOT_STAGE = 4 ∧ y.get F.PW_BOOT_FW_RESULT = 0 ∧ x.FieldsOnly { y with fw := x.fw } [F.PW_BOOT_STAGE, F.PW_BOOT_FW_RESULT]) ∧
            { y with fw := x.fw, regs := x.regs } = x) ∧
    (s.Takes sd 2 4 → (x.fw.pattern = none → Refuses s sd (.patInfo sd) 0x0D 0) ∧
      ∀ p : Pattern, x.fw.pattern = some p → p.header.length = 64 → Carries s sd (.patInfo sd) p.header fun y => y = x) ∧
    (s.Takes sd 2 5 → ∀ p : Pattern, let first := m.u 0 2
      x.fw.pattern = some p →
      (first % 1024 ≠ 0 ∨ 16384 ≤ first → Refuses s sd (.patLatency sd) 0x0D 0) ∧
      (first % 1024 = 0 → first < 16384 → p.latency.length = 8 + 65536 →
        Carries s sd (.patLatency sd) (p.latency.take 8 ++ (p.latency.drop (8 + 4 * first)).take 4096) fun y => y = x))

/-- R135, R174, R326, R348, R356, R409, R411: the messages whose writes are bound to Takes: the words that their items give, the refusal of an
item, the refusal of a TB that names no such Take; words for a unit that a queued Take names are held for it, the others are written. -/
def Obligations.ShadowMessages : Prop :=
  ∀ (s : State) (sd : SideId), let x := s.side sd
    let m := s.front sd
    let tb := m.u 0 4
    let waits := fun (u : Nat) => ((x.takes.queue.toList.filterMap id).filter (fun t => t.mask.testBit u && decide (t.state ≠ 4))).map Take.num
    let gain := fun (i v : Nat) => (0x07800000 + 4 * i, v)
    (∀ q ∈ [(Instr.objWrite sd, 3, 1), (.xpStage sd, 4, 1), (.xpStageRow sd, 4, 2), (.portHalfCfg sd, 0xA, 1), (.netFlowTake sd, 0xB, 3)],
      s.Takes sd q.2.1 q.2.2 →
      (∀ code detail, s.compile sd m = some (.refused code detail) → Refuses s sd q.1 code detail) ∧
      ∀ l, s.compile sd m = some (.words l) →
        (tb ≠ 0 → (∀ w ∈ l, unitOf w.1 ≠ none) → l ≠ [] → (∀ t ∈ x.takeList, t.num ≠ tb) → Refuses s sd q.1 0x0F 0) ∧
        ∀ u, (∀ w ∈ l, unitOf w.1 = some u) → tb = 0 → waits u ≠ [] → Carries s sd q.1 [] fun y =>
          y = { x with fw := { x.fw with held := x.fw.held ++ l.map (fun w => { after := waits u, take := 0, addr := w.1, value := w.2 }) } }) ∧
    (m.cls = 3 → m.op = 1 → ∀ h v, m.u 4 4 = 1 → m.u 8 8 = h → m.u 16 4 = v →
      (s.handleOk sd m.sel h = false → s.compile sd m = some (.refused 0x0C 0)) ∧
      (s.handleOk sd m.sel h = true → hClass h = 3 → hAttr h = 2 → s.compile sd m = some (.words [gain (hIndex h) v])) ∧
      (s.handleOk sd m.sel h = true → hClass h = 4 → hAttr h = 1 → s.compile sd m =
        if x.selectionOk (hIndex h) v then some (.words [(0x0A010000 + 4 * hIndex h, v)]) else some (.refused 0x0E 0))) ∧
    (m.cls = 4 → m.op = 1 → 1 ≤ m.u 4 4 → m.u 4 4 ≤ 507 → (∀ i, i < m.u 4 4 → m.u (8 + 8 * i) 4 < 2 ^ 20 ∧ m.u (8 + 8 * i) 4 % 1024 < x.sums) →
      s.compile sd m = some (.words ((List.range (m.u 4 4)).map (fun i => gain (m.u (8 + 8 * i) 4) (m.u (12 + 8 * i) 4))))) ∧
    (m.cls = 4 → m.op = 2 → 1 ≤ m.u 8 2 → m.u 8 2 ≤ 1013 → m.u 4 2 < 1024 → m.u 6 2 + m.u 8 2 ≤ x.sums →
      s.compile sd m = some (.words ((List.range (m.u 8 2)).map (fun i => gain (1024 * m.u 4 2 + m.u 6 2 + i) (m.u (12 + 4 * i) 4))))) ∧
    (s.Takes sd 4 1 → ∀ i v p, m.u 4 4 = 1 → m.u 8 4 = i → m.u 12 4 = v → i < 2 ^ 20 → i % 1024 < x.sums → tb = 0 → waits 32 = [] →
      x.physWord (gain i v).1 = some p → x.gatedAt (gain i v).1 = false → x.writeResp (gain i v).1 false = 0 → x.closingAt (gain i v).1 = false → x.upsets = [] → x.cross.refill = [] →
      Carries s sd (.xpStage sd) [] fun y => x.Wrote y p (leBytes 4 (v % 2 ^ 24)) ∧ { y with mem := x.mem } = x) ∧
    (s.Takes sd 0xA 1 → ∀ (n : Fin 16) (d : Fin 2), let h : Fin 32 := ⟨2 * n.val + d.val, by omega⟩
      let at' := 0x30100 + 0x40 * h.val
      m.u 4 1 = n.val → m.u 5 1 = d.val → tb = 0 → waits 34 = [] → x.gateOpen 37 = true → x.clk.closing.testBit 37 = false → halfCfgOk (m.u 8 4) (x.timingShadow h % 4096) = true →
      Carries s sd (.portHalfCfg sd) [] fun y => x.FieldsOnly y ((fieldsAt at').map (fun r => r.at at') ++ (fieldsAt (at' + 4)).map (fun r => r.at (at' + 4))) ∧
        y.get (F.AP_CFG_MASTER h) = x.get (F.AP_CFG_MASTER h) % 2 ∧ y.get (F.AP_CFG_BRIDGE h) = x.get (F.AP_CFG_BRIDGE h) % 2 ∧
        (∀ r ∈ fieldsAt at', r.acc = .rw → r.lo ≠ 17 → r.lo ≠ 18 → y.get (r.at at') = m.u 8 4 / 2 ^ r.lo % 2 ^ r.len) ∧
        (∀ r ∈ fieldsAt (at' + 4), r.acc = .rw → y.get (r.at (at' + 4)) = m.u 12 4 / 2 ^ r.lo % 2 ^ r.len)) ∧
    (s.Takes sd 0xB 3 → ∀ i : Fin 256, m.u 4 2 = i.val → m.u 8 1 ≤ 63 → m.u 9 1 ≤ 7 → m.u 10 1 ≤ 7 → (i.val < 128 → m.u 12 2 ≤ x.flowOMax i) →
      s.compile sd m = some (.words ([(0, m.u 8 1 * 2 ^ 19), (4, m.u 12 2 * 2 ^ 16), (32, m.u 9 1 * 4096), (48, m.u 10 1 * 4096), (52, m.u 16 4), (56, m.u 20 4)].map
        (fun w => (0x09F90000 + 0x80 * i.val + w.1, w.2)))))

/-- R36, R46, R173, R410, R412, R420: OBJ DESCRIBE and CLEAR_HWM, XP DESC, READ OBJECT, RANGE and LIST: the record of a register
object or of a table in memory comes with the row; a handle that names no object in use is refused. -/
def Obligations.ObjectMessages : Prop :=
  ∀ (s : State) (sd : SideId), let x := s.side sd
    let m := s.front sd
    let h := m.u 0 8
    let ok := s.handleOk sd m.sel h
    let i := hIndex h
    let a := hAttr h
    let regs : Option (Nat × Nat) := match hClass h with
      | 0x006 => if i < 32 then some (0x30100 + 0x40 * i, 16) else none
      | 0x009 => if a = 0 then some (0x71000 + 0x20 * i, 8) else none
      | 0x00A => some (0x20100 + 0x20 * i, 8)
      | 0x00B => some (if a = 0 then (0x100000 + 0x10000 * i, 32) else (0x100000 + 0x10000 * i + 0x100 * a, 64))
      | 0x00C => some (0xC0100 + 0x10 * i, 4)
      | 0x00D => some (0xB0100 + 0x40 * i, 16)
      | 0x010 => some (4 * i, 1)
      | _ => none
    let table : Option (Nat × Nat) := match hClass h with
      | 0x005 => some (if a = 0 then 0x0A070000 + 32 * i else 0x0A050000 + 32 * i, 8)
      | 0x007 => some (if a = 0 then 0x09F80000 + 0x80 * i else 0x09F90000 + 0x80 * i, 24)
      | 0x009 => if a = 65536 then some (0x09000000 + 0x10000 * i, 64) else none
      | _ => none
    (s.Takes sd 3 2 → let p := x.param (hClass h) i (a % 65536)
      if ok = true ∧ mapped (hClass h) = true ∧ p.isSome = true then ∀ q, p = some q → Carries s sd (.objDescribe sd) (leBytes 1 q.1 ++
          leBytes 1 q.2.1 ++ leBytes 2 q.2.2.1 ++ leBytes 2 q.2.2.2.1 ++ leBytes 2 0 ++ leBytes 4 q.2.2.2.2.1 ++ leBytes 4 q.2.2.2.2.2) fun y => y = x
      else Refuses s sd (.objDescribe sd) 0x0C 0) ∧
    (s.Takes sd 3 3 →
      (ok = false ∨ hClass h ≠ 0x00B → Refuses s sd (.objClearHwm sd) 0x0C 0) ∧
      (ok = true → hClass h = 0x00B → Carries s sd (.objClearHwm sd) [] fun y => y.get (F.SK_CYC_HWM i) = 0 ∧ x.FieldsOnly y [F.SK_CYC_HWM i])) ∧
    (s.Takes sd 4 3 → ∀ d : Fin 8, m.u 0 1 = d.val → m.u 1 1 ≤ 3 →
      let named := x.takeList.any (fun t => t.mask.testBit 32 && decide (t.desc = d ∧ t.state < 3))
      (named = true → Refuses s sd (.xpDesc sd) 0x11 0) ∧
      (named = false → Carries s sd (.xpDesc sd) [] fun y => y.get (F.XA_DESC_CURVE d) = m.u 1 1 ∧ y.get (F.XA_DESC_LEN d) = m.u 2 2 ∧
        (∀ w : Fin 32, y.get (F.XA_MASK (32 * d.val + w.val)) = m.u (4 + 4 * w.val) 4) ∧
        x.FieldsOnly y (F.XA_DESC_CURVE d :: F.XA_DESC_LEN d :: (List.range 32).map (fun w => F.XA_MASK (32 * d.val + w))))) ∧
    (s.Takes sd 0x10 1 →
      (ok = false → Refuses s sd (.readObject sd) 0x0C 0) ∧
      (ok = true →
        (∀ off n, regs = some (off, n) → (∀ k, k < n → x.gatedAt (0x0B000000 + off + 4 * k) = false ∧ x.closingAt (0x0B000000 + off + 4 * k) = false) →
          Carries s sd (.readObject sd) (leBytes 8 x.row ++ (List.range n).flatMap (fun k => leBytes 4 (s.sideWord sd (off + 4 * k)))) fun y => y = x) ∧
        (∀ b n, table = some (b, n) → x.upsets = [] → (∀ k, k < n → x.gatedAt (b + 4 * k) = false ∧ x.closingAt (b + 4 * k) = false ∧
            x.bankLives (b + 4 * k) = true) →
          Carries s sd (.readObject sd) (leBytes 8 x.row ++ (List.range (4 * n)).map (fun k => x.byte (b + k))) fun y => y = x) ∧
        (hClass h = 0x008 → Carries s sd (.readObject sd) (leBytes 8 x.row ++ (List.range 4).flatMap (fun w => leBytes 4 (x.shemas.word i w)))
          fun y => y = x) ∧
        (hClass h = 0x00F → Carries s sd (.readObject sd) (leBytes 8 x.row ++ leBytes 4 (x.gpioWord i)) fun y => y = x))) ∧
    (s.Takes sd 0x10 2 → let b := m.u 0 4
      let n := m.u 4 4
      (n < 4 ∨ 65536 < n ∨ n % 4 ≠ 0 ∨ b % 4 ≠ 0 → Refuses s sd (.readRange sd) 0x0D 0) ∧
      (4 ≤ n → n ≤ 65536 → n % 4 = 0 → b % 4 = 0 →
        (m.sel ≠ 3 → x.PlainBytes b n → Carries s sd (.readRange sd) (leBytes 8 x.row ++ (List.range n).map (fun k => x.byte (b + k))) fun y => y = x) ∧
        (m.sel = 3 → b + n ≤ 0x20000 ∨ (0x40000 ≤ b ∧ b + n ≤ 0x100000) → Carries s sd (.readRange sd) (leBytes 8 x.row ++
          (List.range (n / 4)).flatMap (fun k => leBytes 4 (s.hostWord (b + 4 * k)))) fun y => y = x))) ∧
    (s.Takes sd 0x10 3 → let cls := m.u 0 2
      let l := (x.usedIndices cls).filter (fun k => decide (m.u 4 4 ≤ k))
      (cls = 0 ∨ 0x010 < cls → Refuses s sd (.readList sd) 0x0D 0) ∧
      (1 ≤ cls → cls ≤ 0x010 → Carries s sd (.readList sd) (leBytes 4 (min l.length 1014) ++ leBytes 4 ((l[1014]?).getD 0xFFFFFFFF) ++
        (l.take 1014).flatMap (leBytes 4)) fun y => y = x))

/-- R172, R175, R177 to R179, R185, R187: TAKE POST: a mask that names a core outside the Pattern, a full queue, a row already taken by the Cross
array and a row too near are refused; otherwise the Take enters the lowest free entry with the next number; TAKE CANCEL takes an unlocked
Take out. -/
def Obligations.TakeMessages : Prop :=
  ∀ (s : State) (sd : SideId), let x := s.side sd
    let m := s.front sd
    let row := m.u 0 8
    let mask := m.u 8 8
    let desc := m.u 16 1
    let num := x.get F.TK_NEXT_NUM
    let cross := mask.testBit 32
    let fits := x.maskOk mask = true ∧ (cross = true → desc ≤ 7)
    let first : Take := { num := num, row := none, mask := mask, desc := 0, floated := false, cue := none, state := 1, acked := 0, slipped := false, waits := false, planned := 0 }
    let plain := { first with desc := if cross then desc else 0 }
    let bumped := fun (y : Side) => y.get F.TK_NEXT_NUM = (if num = 2 ^ 32 - 1 then 1 else (num + 1) % 2 ^ 32)
    let waiting := fun (y : Side) => y.fw.held.map (fun w => (w.take, w.addr, w.value)) = x.fw.held.map (fun w => (w.take, w.addr, w.value)) ∧
      ∀ w ∈ y.fw.held, w.take ≠ 0 → ∀ t, y.takeList.find? (fun t => decide (t.num = w.take)) = some t →
        ∀ u, unitOf w.addr = some u → ∀ b ∈ y.takeList, b.mask.testBit u = true → dueBefore b t.num t.row = true → b.num ∈ w.after
    let entered := fun (y : Side) (q : Fin 8) (r : Option Nat) (floated : Bool) (planned : Nat) (sent : List (Nat × Nat)) =>
      y.takes.queue[q] = some { plain with row := r, floated := floated, planned := planned } ∧
      (∀ j : Fin 8, j ≠ q → y.takes.queue[j] = x.takes.queue[j]) ∧ bumped y ∧ waiting y ∧
      x.FieldsOnly { y with
        takes := { y.takes with queue := x.takes.queue, rowsSent := x.takes.rowsSent }, fw := { y.fw with held := x.fw.held } }
        [F.TK_NEXT_NUM] ∧
      y.takes.rowsSent = x.takes.rowsSent ++ sent
    (s.Takes sd 5 1 →
      (¬fits → Refuses s sd (.takePost sd) 0x0D 0) ∧
      (fits → row = 0 →
        (x.awaitsLead = false ∨ (∀ e ∈ x.takes.kept, e.1 ≠ num) → x.freeEntry = none → Refuses s sd (.takePost sd) 0x13 0) ∧
        (∀ e, x.awaitsLead = true → x.takes.kept.find? (fun e => decide (e.1 = num)) = some e →
          let kept := x.takes.kept.filter (fun e => decide (e.1 ≠ num))
          (e.2 < x.row + 3 → x.flag F.TK_STAT_FAIL = true → mask ≠ 0 → Carries s sd (.takePost sd) (leBytes 4 num ++ leBytes 8 e.2) fun y =>
            y.takes = { x.takes with kept := kept } ∧ bumped y ∧ y.get F.TK_STAT_MULTI = 1 ∧
            y.get F.TK_FAIL_CNT_COUNT = min (x.get F.TK_FAIL_CNT_COUNT + 1) 65535 ∧ y.get (F.TK_H_OK (x.get F.TK_STAT_HNEXT)) = 0 ∧
            { y with regs := x.regs, takes := x.takes } = x) ∧
          ∀ q, x.freeEntry = some q → x.row + 3 ≤ e.2 → cross = false ∨ x.crossAt e.2 = false →
            Carries s sd (.takePost sd) (leBytes 4 num ++ leBytes 8 e.2) fun y => y.takes.kept = kept ∧
              entered { y with takes := { y.takes with kept := x.takes.kept } } q (some e.2) true e.2 []) ∧
        ∀ q, x.freeEntry = some q →
          (x.awaitsLead = false → let r := x.placeRow mask (x.row + if x.mode = .lead ∨ x.unlinked = true then 4 else 3)
            Carries s sd (.takePost sd) (leBytes 4 num ++ leBytes 8 r) fun y => entered y q (some r) true r (if x.mode = .lead then [(num, r)] else [])) ∧
          (x.awaitsLead = true → (∀ e ∈ x.takes.kept, e.1 ≠ num) → Carries s sd (.takePost sd) (leBytes 4 num ++ leBytes 8 0) fun y =>
            entered y q none true (x.row + 4) [])) ∧
      (fits → row ≠ 0 →
        (row < x.row + 3 → Refuses s sd (.takePost sd) 0x12 0) ∧
        (x.row + 3 ≤ row → x.freeEntry = none → Refuses s sd (.takePost sd) 0x13 0) ∧
        ∀ q, x.row + 3 ≤ row → x.freeEntry = some q →
          (cross = true → x.crossAt row = true → Refuses s sd (.takePost sd) 0x14 0) ∧
          (cross = false ∨ x.crossAt row = false → Carries s sd (.takePost sd) (leBytes 4 num ++ leBytes 8 row) fun y =>
            entered y q (some row) false row []))) ∧
    (s.Takes sd 5 2 → let n := m.u 0 4
      (x.entryOf n = none → Refuses s sd (.takeCancel sd) 0x0D 0) ∧
      ∀ (q : Fin 8) (t : Take), x.entryOf n = some q → x.takes.queue[q] = some t →
        (t.state ≠ 1 → Refuses s sd (.takeCancel sd) 0x12 0) ∧
        (t.state = 1 → x.fw.held = [] → x.takes.slips = [] → Carries s sd (.takeCancel sd) [] fun y => y.takes.queue[q] = none ∧
          (∀ j : Fin 8, j ≠ q → y.takes.queue[j] = x.takes.queue[j]) ∧ y.takes.loader = x.takes.loader.filter (fun j => j.num ≠ t.num) ∧
          (∀ c : Fin 128, t.cue = some c.val → y.get (F.TK_CUE_STATE c) = 2 ∧ y.get64 (F.TK_CUE_ROW_LO c) (F.TK_CUE_ROW_HI c) =
            if x.get (F.TK_CUE_TRIG c) = 1 then Sparse.get (fun _ => 0) x.takes.arms c % 2 ^ 64 else x.cueRow c) ∧
          x.FieldsOnly { y with takes := { y.takes with queue := x.takes.queue, loader := x.takes.loader } }
            (t.cue.toList.flatMap (fun c => [F.TK_CUE_STATE c, F.TK_CUE_ROW_LO c, F.TK_CUE_ROW_HI c]))))

/-- R172, R188 to R191, R194, R196, R197, R497: BEGIN gives a slot its header and settings and empties it, ADD appends a record, END closes the
records, ARM, DISARM, FIRE, ABORT and CLEAR take the slot through its states; a slot that is ARMED or FIRING is not changed. -/
def Obligations.CueMessages : Prop :=
  ∀ (s : State) (sd : SideId) (n : Fin 128), let x := s.side sd
    let m := s.front sd
    let w0 := m.u 4 4
    let w6 := m.u 16 4
    let pkts := w6 / 2 ^ 18 % 8
    let mask := m.u 8 4 + 2 ^ 32 * m.u 12 1
    let state := x.get (F.TK_CUE_STATE n)
    let base := 0x09000000 + 0x10000 * n.val
    let old := x.cueSize n
    let own := x.get64 (F.TK_CUE_MASK_LO n) (F.TK_CUE_MASK_HI n)
    let fired : Take := { num := 0, row := none, mask := own, desc := 0, floated := true, cue := some n.val, state := 1, acked := 0, slipped := false, waits := false, planned := 0 }
    let stateOnly := fun (y : Side) (v : Nat) => y.get (F.TK_CUE_STATE n) = v ∧ x.FieldsOnly y [F.TK_CUE_STATE n]
    let settings := [(F.TK_CUE_TRIG n, w0 / 8), (F.TK_CUE_AUTO_REARM n, w0 / 64), (F.TK_CUE_LATE_POLICY n, w0 / 128), (F.TK_CUE_GPIO n, w0 / 256),
      (F.TK_CUE_EDGE n, w0 / 4096), (F.TK_CUE_BCAST n, w0 / 2 ^ 14), (F.TK_CUE_BID n, w0 / 65536), (F.TK_CUE_MASK_LO n, mask),
      (F.TK_CUE_MASK_HI n, mask / 2 ^ 32), (F.TK_CUE_LEN n, w6), (F.TK_CUE_CURVE n, w6 / 65536), (F.TK_CUE_PKTS n, pkts),
      (F.TK_CUE_FIRES n, 0), (F.TK_CUE_LAST_NUM n, 0), (F.TK_CUE_SIZE n, 0), (F.TK_CUE_STATE n, 0)]
    (s.Takes sd 6 9 → Carries s sd (.cueMargin sd) [] fun y => y.get F.TK_BCAST_MARGIN = m.u 0 1 ∧ x.FieldsOnly y [F.TK_BCAST_MARGIN]) ∧
    (m.u 0 1 = n.val →
      (∀ q ∈ [(Instr.cueBegin sd, 1), (.cueAdd sd, 2), (.cueEnd sd, 3), (.cueArm sd, 4), (.cueClear sd, 8)], s.Takes sd 6 q.2 →
        state = 2 ∨ state = 3 → Refuses s sd q.1 0x11 0) ∧
      (s.Takes sd 6 1 → state ≠ 2 → state ≠ 3 →
        (3 < w0 / 8 % 8 ∨ 4 < pkts → Refuses s sd (.cueBegin sd) 0x0D 0) ∧
        (w0 / 8 % 8 ≤ 3 → pkts ≤ 4 →
          (∀ p, p < pkts → 255 < m.u (148 + 16 * p) 4 % 65536 → Refuses s sd (.cueBegin sd) 0x10 0) ∧
          ((∀ p, p < pkts → m.u (148 + 16 * p) 4 % 65536 ≤ 255) →
            (x.maskOk mask = false → Refuses s sd (.cueBegin sd) 0x0D 0) ∧
            (x.maskOk mask = true → x.bankOn 47 = true → Carries s sd (.cueBegin sd) [] fun y => (∀ p ∈ settings, y.get p.1 = p.2 % 2 ^ p.1.len) ∧
              (∀ o, o < 65536 → y.byte (base + o) = if o < 192 then (m.payload.drop 20).getD o 0 else 0) ∧ x.KeptOutside y base 65536 ∧
              x.FieldsOnly { y with mem := x.mem, upsets := x.upsets } (settings.map Prod.fst))))) ∧
      (s.Takes sd 6 2 → state ≠ 2 → state ≠ 3 →
        (s.compile sd m.carried = none → Refuses s sd (.cueAdd sd) 0x0D 0) ∧
        (∀ code detail, s.compile sd m.carried = some (.refused code detail) → Refuses s sd (.cueAdd sd) code detail) ∧
        ∀ a v : Nat, s.compile sd m.carried = some (.words [(a, v)]) →
          ((∀ u, unitOf a = some u → own.testBit u = false) → Refuses s sd (.cueAdd sd) 0x10 0) ∧
          (∀ u, unitOf a = some u → own.testBit u = true →
            (65280 < old + 16 → Refuses s sd (.cueAdd sd) 0x0D 0) ∧
            (old + 16 ≤ 65280 → x.bankOn 47 = true → x.upsets = [] → Carries s sd (.cueAdd sd) [] fun y =>
              x.Wrote y (base + 0x100 + old) (leBytes 4 0x10000000 ++ leBytes 4 a ++ leBytes 4 v) ∧ y.get (F.TK_CUE_SIZE n) = old + 12 ∧
              y.get (F.TK_CUE_STATE n) = 0 ∧ x.FieldsOnly { y with mem := x.mem } [F.TK_CUE_SIZE n, F.TK_CUE_STATE n]))) ∧
      (s.Takes sd 6 3 → state ≠ 2 → state ≠ 3 → x.upsets = [] → let z := x.putBytes (base + 0x100 + old) (leBytes 4 0xF0000000)
        let good := (z.slotRecords n).all (recordOk own)
        (good = false → Refuses s sd (.cueEnd sd) 0x10 0) ∧
        (good = true → x.bankOn 47 = true → old < 65280 → Carries s sd (.cueEnd sd) (leBytes 4 (old + 4)) fun y =>
          x.Wrote y (base + 0x100 + old) (leBytes 4 0xF0000000) ∧ y.get (F.TK_CUE_SIZE n) = old + 4 ∧ y.get (F.TK_CUE_STATE n) = 1 ∧
          x.FieldsOnly { y with mem := x.mem } [F.TK_CUE_SIZE n, F.TK_CUE_STATE n])) ∧
      (s.Takes sd 6 4 → state ≠ 2 → state ≠ 3 → let e := m.u 4 8
        let byRow := x.get (F.TK_CUE_TRIG n) = 1
        (state = 0 ∨ x.maskOk own = false → Refuses s sd (.cueArm sd) 0x0D 0) ∧
        (state ≠ 0 → x.maskOk own = true →
          (¬byRow → Carries s sd (.cueArm sd) [] fun y => stateOnly y 2) ∧
          (byRow → x.flag F.TM_STAT_TIME_VALID = false ∨ e < x.row + 4 → Refuses s sd (.cueArm sd) 0x12 0) ∧
          (byRow → x.flag F.TM_STAT_TIME_VALID = true → x.row + 4 ≤ e →
            (own.testBit 32 = true → x.crossTaken n e = true → Refuses s sd (.cueArm sd) 0x14 0) ∧
            (own.testBit 32 = false ∨ x.crossTaken n e = false → Carries s sd (.cueArm sd) [] fun y =>
              y.get64 (F.TK_CUE_ROW_LO n) (F.TK_CUE_ROW_HI n) = e ∧ y.get (F.TK_CUE_STATE n) = 2 ∧
              (∀ k, Sparse.get (fun _ => 0) y.takes.arms k = if k = n.val then e else Sparse.get (fun _ => 0) x.takes.arms k) ∧
              x.FieldsOnly { y with takes := { y.takes with arms := x.takes.arms } } [F.TK_CUE_ROW_LO n, F.TK_CUE_ROW_HI n, F.TK_CUE_STATE n])))) ∧
      (s.Takes sd 6 5 →
        (state = 2 → Carries s sd (.cueDisarm sd) [] fun y => stateOnly y 1) ∧
        (state = 3 → Refuses s sd (.cueDisarm sd) 0x11 0) ∧
        (state ≠ 2 → state ≠ 3 → Refuses s sd (.cueDisarm sd) 0x0D 0)) ∧
      (s.Takes sd 6 6 →
        (state = 3 → Refuses s sd (.cueFire sd) 0x11 0) ∧
        (state = 0 ∨ state = 4 → Refuses s sd (.cueFire sd) 0x0D 0) ∧
        (state = 1 ∨ state = 2 →
          (x.maskOk own = false → Refuses s sd (.cueFire sd) 0x0D 0) ∧
          ∀ q, x.maskOk own = true → x.freeEntry = some q → x.takes.loader = [] → x.takes.slips = [] → x.flag (F.TK_CUE_BCAST n) = false →
            x.awaitsLead = false → let num := x.get F.TK_NEXT_NUM
            let r := x.placeRow own (x.row + if x.mode = .lead ∨ x.unlinked = true then 4 else 3)
            Carries s sd (.cueFire sd) (leBytes 4 (num % 2 ^ 32)) fun y => y.takes.queue[q] =
                some { fired with num := num, row := some r, desc := if own.testBit 32 then 8 + q.val else 0, planned := r } ∧
              (∀ j : Fin 8, j ≠ q → y.takes.queue[j] = x.takes.queue[j]) ∧
              y.takes.loader = [{ slot := n.val, fired := x.row, num := num, started := false, records := [] }] ∧
              y.takes.rowsSent = x.takes.rowsSent ++ (if x.mode = .lead then [(num, r)] else []) ∧
              y.get (F.TK_CUE_STATE n) = 3 ∧ y.get (F.TK_CUE_LAST_NUM n) = num % 2 ^ 32 ∧ y.cueRow n = r % 2 ^ 64 ∧
              y.fw.held.map (fun w => (w.take, w.addr, w.value)) = x.fw.held.map (fun w => (w.take, w.addr, w.value)) ∧
              x.FieldsOnly { y with
                takes := { y.takes with queue := x.takes.queue, loader := x.takes.loader, rowsSent := x.takes.rowsSent }
                fw := { y.fw with held := x.fw.held } }
                [F.TK_CUE_STATE n, F.TK_CUE_LAST_NUM n, F.TK_NEXT_NUM, F.TK_CUE_ROW_LO n, F.TK_CUE_ROW_HI n])) ∧
      (s.Takes sd 6 7 →
        let back := fun (y : Side) => y.get (F.TK_CUE_STATE n) = 2 ∧ y.cueRow n =
          (if x.get (F.TK_CUE_TRIG n) = 1 then Sparse.get (fun _ => 0) x.takes.arms n % 2 ^ 64 else x.cueRow n) ∧
          x.FieldsOnly y [F.TK_CUE_STATE n, F.TK_CUE_ROW_LO n, F.TK_CUE_ROW_HI n]
        (state ≠ 3 → Refuses s sd (.cueAbort sd) 0x0D 0) ∧
        (state = 3 →
          (∀ (q : Fin 8) (t : Take), x.takes.queue[q] = some t → t.cue = some n.val → (∀ u ∈ x.takeList, u.cue = some n.val ∨ u.num = t.num → u = t) →
            (t.state ≠ 1 → Refuses s sd (.cueAbort sd) 0x12 0) ∧
            (t.state = 1 → x.fw.held = [] → x.takes.slips = [] → x.entryOf t.num = some q → Carries s sd (.cueAbort sd) [] fun y => y.takes.queue[q] = none ∧
              (∀ j : Fin 8, j ≠ q → y.takes.queue[j] = x.takes.queue[j]) ∧ y.takes.loader = x.takes.loader.filter (fun j => j.num ≠ t.num) ∧
              back { y with takes := { y.takes with queue := x.takes.queue, loader := x.takes.loader } })) ∧
          ((∀ t ∈ x.takeList, t.cue ≠ some n.val) → Carries s sd (.cueAbort sd) [] fun y =>
            y.takes.slips = x.takes.slips.filter (fun r => r.slot ≠ n.val) ∧
            back { y with takes := { y.takes with slips := x.takes.slips } }))) ∧
      (s.Takes sd 6 8 → state ≠ 2 → state ≠ 3 → Carries s sd (.cueClear sd) [] fun y => y.get (F.TK_CUE_SIZE n) = 0 ∧
        y.get (F.TK_CUE_STATE n) = 0 ∧ x.FieldsOnly y [F.TK_CUE_SIZE n, F.TK_CUE_STATE n]))

/-- R164 to R166: MTR POINT stores a point's settings and their rows at the Side's rate, RESET is due at the next row, GROUP sets a group's
frame. R363, R365, R367, R388: the LINK class: a skein's record, refused where a Patchbay destination is on the transmit skein it forwards
to, a link's asymmetry, an entry of the relay's table and the relay's switches. -/
def Obligations.MeterAndLinkMessages : Prop :=
  (∀ (s : State) (sd : SideId), let x := s.side sd
    let m := s.front sd
    (s.Takes sd 7 1 → let p := m.u 0 2
      let bad := 4096 < p + m.u 2 2 ∨ m.u 8 2 = 0 ∨ 3000 < m.u 8 2 ∨ 10000 < m.u 10 2 ∨ 600 < m.u 12 2
      let new := [x.mparam p 0 % 2 ^ 15 + m.u 4 4 / 2 ^ 15 % 2 ^ 9 * 2 ^ 15, m.u 8 2 + 65536 * m.u 10 2, m.u 12 2, m.u 16 4,
        alphaOf (m.u 8 2) (rateHz x.rate), holdRowsOf (m.u 10 2) (rateHz x.rate), decayOf (m.u 12 2) (rateHz x.rate), 0]
      (bad → Refuses s sd (.mtrPoint sd) 0x0D 0) ∧
      (¬bad → m.u 2 2 = 1 → x.gatedAt (meterParam p) = false → x.closingAt (meterParam p) = false → x.upsets = [] → x.bankOn 50 = true → x.flag (F.MM_BANK_TESTING 50) = false →
        Carries s sd (.mtrPoint sd) [] fun y =>
          (∀ w, w < 8 → y.mparam p (4 * w) = mergeMask (x.mparam p (4 * w)) (new.getD w 0) (meterBits w)) ∧
          x.KeptOutside y (meterParam p) 32 ∧ { y with mem := x.mem } = x)) ∧
    (s.Takes sd 7 2 →
      (4096 < m.u 0 2 + m.u 2 2 → Refuses s sd (.mtrReset sd) 0x0D 0) ∧
      (m.u 0 2 + m.u 2 2 ≤ 4096 → Carries s sd (.mtrReset sd) [] fun y =>
        y = { x with gauge := { x.gauge with resetDue := x.gauge.resetDue ++ (List.range (m.u 2 2)).map (fun i => m.u 0 2 + i) } })) ∧
    (s.Takes sd 7 3 → ∀ g : Fin 8, m.u 0 1 = g.val → let r := rateHz x.rate
      let settings := [(F.PB_GRP_PERIOD g, m.u 4 4), (F.PB_GRP_FIRST g, m.u 8 2), (F.PB_GRP_COUNT g, m.u 10 2), (F.PB_GRP_EN g, m.u 1 1), (F.PB_GRP_CHANNEL g, m.u 2 1)]
      let other := fun (i : Nat) => (x.mparam (m.u 8 2 + i) 0).testBit 19 = true ∧ x.mparam (m.u 8 2 + i) 0 / 65536 % 8 ≠ g
      let fits := m.u 1 1 ≤ 1 ∧ m.u 2 1 ≤ 3 ∧ r / 200 ≤ m.u 4 4 ∧ m.u 4 4 ≤ r ∧ 1 ≤ m.u 10 2 ∧ m.u 8 2 + m.u 10 2 ≤ 4096
      (¬fits → Refuses s sd (.mtrGroup sd) 0x0D 0) ∧
      (fits → (∀ i, i < m.u 10 2 → ¬other i) → x.gateOpen 33 = true → x.clk.closing.testBit 33 = false → Carries s sd (.mtrGroup sd) [] fun y =>
        (∀ f ∈ settings, y.get f.1 = f.2 % 2 ^ f.1.len) ∧ x.FieldsOnly y (settings.map Prod.fst)) ∧
      (∀ i, fits → i < m.u 10 2 → other i → Refuses s sd (.mtrGroup sd) 0x0D 0))) ∧
  (∀ (s : State) (sd : SideId), let x := s.side sd
    let m := s.front sd
    (s.Takes sd 0x0C 1 → let i := m.u 0 2
      let w := m.u 4 4
      let dir := i / 16 % 2
      let on := w.testBit 0 = true
      let fed := on ∧ dir = 0 ∧ w.testBit 7 = true ∧ x.skeinFed (w / 2 ^ 24 % 4) (w / 2 ^ 26 % 16) = true
      let load := ((List.range 16).map (fun k => let j := i / 16 * 16 + k
        if j = i then (if w.testBit 0 then w / 2 ^ 12 % 2 ^ 8 + 1 else 0) else if x.skeinOn j then x.skeinF j 0 12 8 + 1 else 0)).sum
      let fits := load ≤ (if x.rate ≤ 3 then 4096 else 2048)
      (127 < i → Refuses s sd (.linkSkein sd) 0x0D 0) ∧
      (i ≤ 127 → fed → Refuses s sd (.linkSkein sd) 0x0E 0) ∧
      (i ≤ 127 → ¬fed → ¬fits → Refuses s sd (.linkSkein sd) 0x0D 0) ∧
      (i ≤ 127 → ¬fed → fits → Carries s sd (.linkSkein sd) [] fun y =>
        (∀ j, j < 30 → (y.shemas.word i 0).testBit j =
          if j = 1 then decide (dir = 1) else if j = 2 ∨ j = 3 then (i / 32).testBit (j - 2) else if 8 ≤ j ∧ j < 12 then (i % 16).testBit (j - 8) else w.testBit j) ∧
        (∀ j k, k < 4 → j ≠ i ∨ k ≠ 0 → y.shemas.word j k = x.shemas.word j k) ∧ { y with shemas := { y.shemas with skeins := x.shemas.skeins } } = x)) ∧
    (s.Takes sd 0x0C 2 → let l := m.u 0 1
      (3 < l → Refuses s sd (.linkAsym sd) 0x0D 0) ∧
      (l ≤ 3 → x.gateOpen 39 = true → x.clk.closing.testBit 39 = false → Carries s sd (.linkAsym sd) [] fun y =>
        y.get (F.SH_LINK_ASYM l) = m.u 4 4 ∧ x.FieldsOnly y [F.SH_LINK_ASYM l])) ∧
    (s.Takes sd 0x0C 3 → let d := m.u 0 1
      let w := m.u 4 4
      let entry := [(F.HP_RLY_ROUTE_PRI_EN d, w % 2), (F.HP_RLY_ROUTE_PRI_SIDE d, w / 2 % 2), (F.HP_RLY_ROUTE_PRI_LINK d, w / 4 % 4),
        (F.HP_RLY_ROUTE_ALT_EN d, w / 16 % 2), (F.HP_RLY_ROUTE_ALT_SIDE d, w / 32 % 2), (F.HP_RLY_ROUTE_ALT_LINK d, w / 64 % 4)]
      (63 < d → Refuses s sd (.linkRoute sd) 0x0D 0) ∧
      (d ≤ 63 → Answers s sd (.linkRoute sd) 0 0 [] none (entry.map Prod.fst) fun t y => y = x ∧ ∀ f ∈ entry, t.host.get f.1 = f.2)) ∧
    (s.Takes sd 0x0C 4 →
      (1 < m.u 0 1 ∨ 1 < m.u 1 1 → Refuses s sd (.linkRelay sd) 0x0D 0) ∧
      (m.u 0 1 ≤ 1 → m.u 1 1 ≤ 1 → Answers s sd (.linkRelay sd) 0 0 [] none [F.HP_RLY_CTRL_EN, F.HP_RLY_CTRL_RET] fun t y =>
        y = x ∧ t.host.get F.HP_RLY_CTRL_EN = m.u 0 1 ∧ t.host.get F.HP_RLY_CTRL_RET = m.u 1 1)))

/-- R262, R281, R283, R287, R290, R292, R293, R295 to R297: the CLK class: a candidate's settings, the loop's, its opening, the software word,
the trim, a measurement of firmware's own, and the observation output. -/
def Obligations.ClockMessages : Prop :=
  ∀ (s : State) (sd : SideId), let x := s.side sd
    let m := s.front sd
    let sets := fun (y : Side) (l : List (Fld × Nat)) (more : List Fld) => (∀ f ∈ l, y.get f.1 = f.2) ∧ x.FieldsOnly { y with tm := x.tm } (l.map Prod.fst ++ more)
    let word := [F.TM_FW_CUR_LO, F.TM_FW_CUR_HI, F.TM_STAT_FW_CLAMP, F.TM_STICKY_FW_CLAMP_S]
    let quiet := (∀ k : Fin 8, x.qualified k = false) ∧ x.flag F.TM_STAT_REF_SPLIT = false
    (s.Takes sd 8 1 → quiet → ∀ c : Fin 8, m.u 0 1 = c.val →
      (1 < m.u 1 1 ∨ 15 < m.u 3 1 → Refuses s sd (.clkCand sd) 0x0D 0) ∧
      (m.u 1 1 ≤ 1 → m.u 3 1 ≤ 15 → Carries s sd (.clkCand sd) [] fun y => y.tm = x.tm ∧
        sets y ([(F.TM_CAND_EN c, m.u 1 1), (F.TM_CAND_PRIORITY c, m.u 4 2), (F.TM_CAND_SUBSEL c, m.u 3 1), (F.TM_CAND_LOSS c, m.u 6 2),
          (F.TM_CAND_QUAL_MS c, m.u 8 2)] ++ if c.val < 2 then [] else [(F.TM_CAND_CLASS c, m.u 2 1)]) [])) ∧
    (s.Takes sd 8 2 → quiet → m.u 0 1 ≤ 7 → Carries s sd (.clkLoop sd) [] fun y => y.tm = x.tm ∧
      sets y [(F.TM_CTRL_BW, m.u 0 1), (F.TM_CTRL_SLEW, max 1 (min (m.u 1 1) 100)), (F.TM_CTRL_LOCK_THR, max 1 (m.u 4 2)),
        (F.TM_SWITCH_SETTLE_MAX, max 1 (m.u 2 1)), (F.TM_SWITCH_HOLDOFF, m.u 6 2), (F.TM_SPLIT_SPLIT, m.u 8 2)] []) ∧
    (s.Takes sd 8 3 →
      (1 < m.u 0 1 → Refuses s sd (.clkOpen sd) 0x0D 0) ∧
      (m.u 0 1 = 1 → x.flag F.TM_CTRL_OPEN = false → x.flag F.TM_STAT_LOCK = false ∨ x.flag F.TM_STICKY_LOCK_S = true →
        Carries s sd (.clkOpen sd) [] fun y =>
        y.tm = { x.tm with word := x.tm.v, episode := false, lockRun := 0, missRun := 0 } ∧
        sets { y with col := x.col } [(F.TM_CTRL_OPEN, 1), (F.TM_STAT_LOCK, 0), (F.TM_STAT_STEP_USED, 0)] (F.TM_STICKY_LOCK_S :: word)) ∧
      (m.u 0 1 = 0 → x.flag F.TM_CTRL_OPEN = true → x.flag F.TM_STAT_FREERUN = false → Carries s sd (.clkOpen sd) [] fun y =>
        y.tm = { x.tm with v := x.tm.word, est := x.tm.word, episode := true, lockRun := 0, missRun := 0 } ∧
        sets y [(F.TM_CTRL_OPEN, 0)] (F.TM_STAT_STEP_USED :: word)) ∧
      (m.u 0 1 ≤ 1 → x.get F.TM_CTRL_OPEN = m.u 0 1 → Carries s sd (.clkOpen sd) [] fun y => y.tm = x.tm ∧ sets y [] [])) ∧
    (s.Takes sd 8 4 → x.tm.steerBusy = false → Carries s sd (.clkFw sd) [] fun y =>
      y.tm = { x.tm with word := m.u 4 2 * 2 ^ 32 + m.u 0 4, steerBusy := true } ∧
      sets y [(F.TM_FW_LO, m.u 0 4), (F.TM_FW_HI_FW_HI, m.u 4 2)] word) ∧
    (s.Takes sd 8 5 → x.tm.steerBusy = false → Carries s sd (.clkPpt sd) [] fun y =>
      y.tm = { x.tm with ppt := toSigned 32 (m.u 0 4), steerBusy := true } ∧ sets y [(F.TM_PPT, m.u 0 4)] word) ∧
    (∀ (freq : Int) (last : Bool), s.Takes sd 8 6 → quiet → x.clocked = true →
      Carries s sd (.clkPush sd freq last) [] fun y => y.tm = { x.tm with ages := (7, 0) :: x.tm.ages.filter (fun a => a.1 ≠ 7) } ∧
        y.get64 (F.TM_CAND_E_LO 7) (F.TM_CAND_E_HI 7) = ofSigned 64 (toSigned 64 (m.u 0 4 + 2 ^ 32 * m.u 4 4)) ∧
        sets y [(F.TM_MEAS_LO, m.u 0 4), (F.TM_MEAS_HI, m.u 4 4), (F.TM_MEAS_PUSH_CAND, 7), (F.TM_CAND_FREQ 7, ofSigned 32 freq), (F.TM_CAND_AGE 7, 0),
          (F.TM_CAND_PRESENT 7, 1), (F.TM_CAND_UPDATES 7, (x.get (F.TM_CAND_UPDATES 7) + 1) % 65536)] [F.TM_CAND_E_LO 7, F.TM_CAND_E_HI 7]) ∧
    (s.Takes sd 8 7 →
      (31 < m.u 0 1 ∨ 15 < m.u 1 1 ∨ 3 < m.u 2 1 → Refuses s sd (.clkObs sd) 0x0D 0) ∧
      (m.u 0 1 ≤ 31 → m.u 1 1 ≤ 15 → m.u 2 1 ≤ 3 → Carries s sd (.clkObs sd) [] fun y =>
        let l := [(F.CK_OBS_SEL, m.u 0 1), (F.CK_OBS_PORT, m.u 1 1), (F.CK_OBS_LINK, m.u 2 1), (F.CK_OBS_DIV, m.u 4 2)]
        (∀ f ∈ l, y.get f.1 = f.2) ∧ (x.get F.CK_OBS_SEL = m.u 0 1 → x.FieldsOnly y (l.map Prod.fst))))

/-- R274, R280, R301, R306, R307, R310: the TIME class: a snapshot, a step or its refusal with the reason, a trigger slot, what is captured,
the parts of a port's latency, the UTC offset that the reference announces
(the spec leaves its value open while none is announced). -/
def Obligations.TimeMessages : Prop :=
  ∀ (s : State) (sd : SideId), let x := s.side sd
    let m := s.front sd
    let sets := fun (y : Side) (l : List (Fld × Nat)) (more : List Fld) => (∀ f ∈ l, y.get f.1 = f.2) ∧ x.FieldsOnly y (l.map Prod.fst ++ more)
    (∀ cycles : Nat, s.Takes sd 9 1 →
      let now := if x.clocked && x.tm.started then x.edgeAt cycles else x.counter
      let ns := now / 225792
      (∀ p ∈ x.tm.pulses, now < p.2) → Carries s sd (.timeSnap sd cycles) (leBytes 4 (ns % 10 ^ 9) ++ leBytes 4 (ns / 10 ^ 9 % 2 ^ 32) ++ leBytes 4 (ns / 10 ^ 9 / 2 ^ 32 % 2 ^ 16) ++
        leBytes 2 (now % 225792 * 65536 / 225792) ++ leBytes 1 (x.get F.TM_STAT_TIME_VALID) ++ leBytes 1 0 ++ leBytes 8 (x.row % 2 ^ 64)) fun z =>
          z.counter = max x.counter now ∧ x.FieldsOnly { z with counter := x.counter } [F.TM_SNAP_SNAP, F.TM_SNAP_NS, F.TM_SNAP_SEC_LO, F.TM_SNAP_SEC_HI_SEC,
            F.TM_SNAP_SEC_HI_FRAC, F.TM_SNAP_ROW_LO, F.TM_SNAP_ROW_HI]) ∧
    (s.Takes sd 9 2 → let cmd := m.u 0 1
      let v := x.stepVerdict (decide (cmd = 1))
      (cmd ≠ 1 → cmd ≠ 2 → Refuses s sd (.timeStep sd) 0x0D 0) ∧
      (cmd = 1 ∨ cmd = 2 → x.clocked = true →
        (v ≠ 1 → Answers s sd (.timeStep sd) 0x16 v [] none [] fun _ y => y.get F.TM_STEP_STAT_RESULT = v ∧ y.get F.TM_STICKY_STEP_REFUSED = 1 ∧
          x.FieldsOnly y [F.TM_STEP_ARG, F.TM_STEP_CMD, F.TM_STEP_STAT_RESULT, F.TM_STICKY_STEP_REFUSED]) ∧
        (v = 1 → x.mode ≠ .lead → Carries s sd (.timeStep sd) [] fun y => y.get F.TM_STEP_STAT_RESULT = 1 ∧
          y.tm = { x.tm with step := some { row := x.row + 4, d := if cmd = 1 then none else some (toSigned 32 (m.u 4 4) * rateHz x.rate) } } ∧
          x.FieldsOnly { y with tm := x.tm } [F.TM_STEP_ARG, F.TM_STEP_CMD, F.TM_STEP_STAT_RESULT, F.TM_STAT_STEP_USED]))) ∧
    (s.Takes sd 9 3 → ∀ n : Fin 32, m.u 0 1 = n.val →
      (23 < n.val ∨ 5 < m.u 1 1 ∨ 31 < m.u 2 1 ∨ 1 < m.u 3 1 → Refuses s sd (.timeTrigger sd) 0x0D 0) ∧
      (n.val ≤ 23 → m.u 1 1 ≤ 5 → m.u 2 1 ≤ 31 → m.u 3 1 ≤ 1 → Carries s sd (.timeTrigger sd) [] fun y =>
        y.tm = { x.tm with armed := n.val :: x.tm.armed.filter (fun j => j ≠ n.val) } ∧
        sets { y with tm := x.tm } [(F.TM_TRIG_EN n, 1), (F.TM_TRIG_ACTION n, m.u 1 1), (F.TM_TRIG_TARGET n, m.u 2 1), (F.TM_TRIG_REPEAT n, m.u 3 1),
          (F.TM_TRIG_SEC_LO n, m.u 4 4), (F.TM_TRIG_SEC_HI n, m.u 8 2), (F.TM_TRIG_NS n, m.u 12 4), (F.TM_TRIG_PERIOD n, m.u 16 4),
          (F.TM_TRIG_WIDTH n, m.u 20 4)] [])) ∧
    (s.Takes sd 9 4 →
      (1 < m.u 0 1 ∨ 1 < m.u 1 1 → Refuses s sd (.timeCaptureSet sd) 0x0D 0) ∧
      (m.u 0 1 ≤ 1 → m.u 1 1 ≤ 1 → Carries s sd (.timeCaptureSet sd) [] fun y =>
        sets y [(F.TM_CAP_CTRL_TAKES, m.u 0 1), (F.TM_CAP_CTRL_SWITCHES, m.u 1 1), (F.TM_CAP_GPIO, m.u 4 4)] [])) ∧
    (s.Takes sd 9 5 → ∀ p : Fin 2, m.u 0 1 = p.val → Carries s sd (.timePhy sd) [] fun y =>
      y.net.ports[p] = { x.net.ports[p] with ingAdd := m.u 4 4, egrAdd := m.u 8 4 } ∧ (∀ q : Fin 2, q ≠ p → y.net.ports[q] = x.net.ports[q]) ∧
      { y with net := { y.net with ports := x.net.ports } } = x) ∧
    (s.Takes sd 9 6 → ∀ p : Fin 2, m.u 0 1 = p.val → Carries s sd (.timeAsym sd) [] fun y => sets y [(F.TM_TSC_ASYM p, m.u 4 4)] []) ∧
    (s.Takes sd 9 7 → ∃ data : List Byte, data.length = 4 ∧ (Carries s sd (.timeUtc sd) data fun y => y = x) ∧
      ∀ u, x.announcedUtc = some u → data = leBytes 2 (ofSigned 16 u) ++ leBytes 1 1 ++ leBytes 1 0)

/-- R201, R314, R317, R320, R325 to R328, R331, R334, R336: the PORT class: a half started with its start-time settings or refused, stopped, its
shadow applied, and the settings of the PDM inputs, the word clock, the GPIOs and the bridge channels. -/
def Obligations.PortMessages : Prop :=
  ∀ (s : State) (sd : SideId), let x := s.side sd
    let m := s.front sd
    let sets := fun (y : Side) (l : List (Fld × Nat)) => (∀ f ∈ l, y.get f.1 = f.2) ∧ x.FieldsOnly y (l.map Prod.fst)
    (∀ h : Fin 32, m.u 0 1 = h.val / 2 → m.u 1 1 = h.val % 2 →
      let start := fun j => decide (j = 17 ∨ j = 18)
      let bits := m.u 4 2
      let n := rowUnits x.rate / mediaUnits x.rate
      let room := fun (cfg : Nat) => slotCount cfg * widthBits cfg ≤ bits
      let fits := m.u 2 1 ≤ 1 ∧ m.u 3 1 ≤ 1 ∧ (m.u 3 1 = 1 → m.u 2 1 = 0 ∧ h.val % 2 = 0) ∧ 1 ≤ bits ∧ bits ≤ 2048 ∧ m.u 6 2 < n ∧
        (m.u 2 1 = 1 → (bits = n ∨ bits ≤ n / 2) ∧ (h.val % 2 = 1 → 8 ≤ m.u 6 2)) ∧ room (x.cfgCur h) ∧ room (x.cfgShadow h)
      let twin := m.u 2 1 = 1 ∧ x.get F.PW_MODE_ARR = 2
      let settings := [(F.AP_CFG_MASTER h, m.u 2 1), (F.AP_CFG_BRIDGE h, m.u 3 1), (F.AP_TIMING_FRAME_BITS h, bits), (F.AP_TIMING_PHASE h, m.u 6 2),
        (F.AP_CTRL_EN h, 1), (F.AP_CTRL_APPLY h, 0), (F.AP_HSTAT_RUNNING h, 1), (F.AP_FRAME_FRAME h, 0)]
      (∀ cycles : Nat, s.Takes sd 0x0A 2 →
        (¬fits → Refuses s sd (.portHalfStart sd cycles) 0x0D 0) ∧
        (fits → twin → Refuses s sd (.portHalfStart sd cycles) 0x0B 0) ∧
        (fits → ¬twin → x.halfRuns h = true → Refuses s sd (.portHalfStart sd cycles) 0x11 0) ∧
        (fits → ¬twin → x.halfRuns h = false → x.gateOpen 37 = true → x.clk.closing.testBit 37 = false → Carries s sd (.portHalfStart sd cycles) [] fun y =>
          (∀ f ∈ settings, y.get f.1 = f.2) ∧ BitsFrom (x.cfgCur h) (y.cfgShadow h) (y.cfgCur h) start ∧ y.timingCur h = y.timingShadow h % 2 ^ 32 ∧
          x.HalfIs y h { Half.reset with started := some ((cycles * mediaUnits x.rate : Nat) : Int), cfg := y.cfgCur h, mask := x.get (F.AP_MASK_CUR_MASK_CUR h) }
            (settings.map Prod.fst ++ [F.AP_CFG_CUR_CFG_CUR h, F.AP_TIMING_CUR_TIMING_CUR h]))) ∧
      (s.Takes sd 0x0A 3 → x.gateOpen 37 = true → x.clk.closing.testBit 37 = false → Carries s sd (.portHalfStop sd) [] fun y => y.get (F.AP_CTRL_EN h) = 0 ∧
        x.HalfIs y h (if x.halfRuns h then { x.half h with stopping := true } else x.half h) [F.AP_CTRL_EN h, F.AP_CTRL_APPLY h]) ∧
      (∀ cycles : Nat, s.Takes sd 0x0A 4 → x.gateOpen 37 = true → x.clk.closing.testBit 37 = false → x.flag (F.AP_CTRL_EN h) = x.halfRuns h → (x.half h).stopping = false →
        Carries s sd (.portApply sd cycles) [] fun y =>
          BitsFrom (x.cfgCur h) (x.cfgShadow h) (y.cfgCur h) (fun j => !start j) ∧ y.get (F.AP_MASK_CUR_MASK_CUR h) = x.get (F.AP_MASK_MASK h) ∧
          x.HalfIs y h (if x.halfRuns h then { x.half h with pend := (x.half h).pend ++ [(((cycles * mediaUnits x.rate : Nat) : Int), y.cfgCur h, x.get (F.AP_MASK_MASK h))] } else x.half h)
            [F.AP_CTRL_APPLY h, F.AP_CFG_CUR_CFG_CUR h, F.AP_MASK_CUR_MASK_CUR h, F.AP_TIMING_CUR_TIMING_CUR h])) ∧
    (s.Takes sd 0x0A 5 → let w := m.u 0 4
      let new := [(F.AP_PDM_CFG_CLK_OUT, w / 2 % 2), (F.AP_PDM_CFG_CLK_RATE, w / 4 % 2), (F.AP_PDM_CFG_DEC, w / 8 % 2), (F.AP_PDM_CFG_IN_EN, w / 16 % 256)]
      (w.testBit 1 = true → x.get F.PW_MODE_ARR = 2 → Refuses s sd (.portPdm sd) 0x0B 0) ∧
      (w.testBit 1 = true → x.get F.PW_MODE_ARR ≠ 2 → x.rate % 2 = 0 → Refuses s sd (.portPdm sd) 0x0D 0) ∧
      (w.testBit 1 = false ∨ (x.get F.PW_MODE_ARR ≠ 2 ∧ x.rate % 2 = 1) → x.gateOpen 37 = true → x.clk.closing.testBit 37 = false → Carries s sd (.portPdm sd) [] fun y =>
        sets y ((F.AP_PDM_CFG_EN, w % 2) :: if x.flag F.AP_PDM_CFG_EN then [] else new))) ∧
    (s.Takes sd 0x0A 6 → let fits := m.u 0 1 ≤ 7 ∧ m.u 1 1 ≤ 1 ∧ m.u 2 2 ≤ 2047
      (¬fits → Refuses s sd (.portWclk sd) 0x0D 0) ∧
      (fits → x.gateOpen 37 = true → x.clk.closing.testBit 37 = false → Carries s sd (.portWclk sd) [] fun y =>
        sets y [(F.AP_WCLK_WR, m.u 0 1), (F.AP_WCLK_OUT_EN, m.u 1 1), (F.AP_WCLK_PHASE, m.u 2 2)])) ∧
    (s.Takes sd 0x0A 7 → x.gateOpen 37 = true → x.clk.closing.testBit 37 = false → Carries s sd (.portGpio sd) [] fun y =>
      (∀ g, g < 16 → y.get F.AP_GPIO_SAFE / 4 ^ g % 4 = (if (m.u 0 2).testBit g then m.u 8 4 else x.get F.AP_GPIO_SAFE) / 4 ^ g % 4 ∧
        y.get F.AP_GPIO_DG / 4 ^ g % 4 = (if (m.u 0 2).testBit g then m.u 12 4 else x.get F.AP_GPIO_DG) / 4 ^ g % 4 ∧
        y.bit F.AP_GPIO_OUT g = (if (m.u 0 2).testBit g then (m.u 4 2).testBit g else x.bit F.AP_GPIO_OUT g) ∧
        y.bit F.AP_GPIO_DIR g = (if (m.u 0 2).testBit g then (m.u 2 2).testBit g else x.bit F.AP_GPIO_DIR g)) ∧
      x.FieldsOnly y [F.AP_GPIO_SAFE, F.AP_GPIO_DG, F.AP_GPIO_OUT, F.AP_GPIO_DIR]) ∧
    (s.Takes sd 0x0A 8 → let c := m.u 0 1
      let fits := c ≤ 127 ∧ m.u 1 1 ≤ 1 ∧ m.u 2 1 ≤ 1 ∧ m.u 3 1 ≤ 15 ∧ m.u 4 1 ≤ 31 ∧ (m.u 1 1 = 1 → c < x.bridges)
      (¬fits → Refuses s sd (.portBridge sd) 0x0D 0) ∧
      (fits → x.gateOpen 37 = true → x.clk.closing.testBit 37 = false → Carries s sd (.portBridge sd) [] fun y =>
        sets y [(F.AP_BR_EN c, m.u 1 1), (F.AP_BR_KIND c, m.u 2 1), (F.AP_BR_SRC c, m.u 3 1), (F.AP_BR_SUB c, m.u 4 1)]))

/-- R254, R346, R348, R349, R351, R357: the NET class: a port's settings, a flow's record written whole while it is disabled, a flow refused or
enabled, its channel status, and a packet buffer, whose MAC address is asked for. -/
def Obligations.NetMessages : Prop :=
  ∀ (s : State) (sd : SideId), let x := s.side sd
    let m := s.front sd
    let i := m.u 0 2
    (s.Takes sd 0x0B 1 →
      (1 < m.u 0 1 → Refuses s sd (.netPort sd) 0x0D 0) ∧
      ∀ p : Fin 2, m.u 0 1 = p.val → let rate := if p.val = 0 then F.CK_SERPLL_RATE1 else F.CK_SERPLL_RATE2
        let fits := m.u 1 1 ≤ 3 ∧ m.u 2 1 ≤ 1 ∧ m.u 3 1 ≤ 2 ∧ m.u 4 1 ≤ 127 ∧ (m.u 3 1 = 2 → m.u 4 1 = 0) ∧ (m.u 2 1 = 1 → m.u 1 1 = 3)
        (¬fits → Refuses s sd (.netPort sd) 0x0D 0) ∧
        (fits → Carries s sd (.netPort sd) [] fun y => y.get rate = m.u 1 1 ∧ y.get (F.NW_PORT_FEC p) = m.u 2 1 ∧ y.net.ports[p].profile = m.u 3 1 ∧
          y.net.ports[p].domain = m.u 4 1 ∧ y.net.ports[p].addr = m.u 8 4 ∧ y.net.ports[p].netmask = m.u 12 4 ∧ y.net.ports[p].gateway = m.u 16 4 ∧
          (m.u 1 1 ≠ x.get rate → y.flag (F.NW_PORT_UP p) = false)) ∧
        (fits → m.u 1 1 = x.get rate → Carries s sd (.netPort sd) [] fun y => y.get (F.NW_PORT_FEC p) = m.u 2 1 ∧
          y.net.ports[p] = { x.net.ports[p] with profile := m.u 3 1, domain := m.u 4 1, addr := m.u 8 4, netmask := m.u 12 4, gateway := m.u 16 4 } ∧
          (∀ q : Fin 2, q ≠ p → y.net.ports[q] = x.net.ports[q]) ∧
          x.FieldsOnly { y with net := { y.net with ports := x.net.ports } } [F.NW_PORT_FEC p, F.NW_PORT_WORST_TX 0, F.NW_PORT_WORST_TX 1])) ∧
    (s.Takes sd 0x0B 2 → let w := fun k => m.u (4 + 4 * k) 4
      let pt := w 0 / 2 ^ 12 % 2 ^ 7
      let fits := i ≤ 255 ∧ w 0 / 4 % 4 ≠ 3 ∧ (96 ≤ pt ∨ (pt = 0 ∧ i < 128)) ∧
        (if i < 128 then w 1 / 65536 % 2048 ≤ w 2 % 2048 else w 1 / 65536 % 2048 < w 1 % 1024)
      (¬fits → Refuses s sd (.netFlowSet sd) 0x0D 0) ∧
      (fits → x.flowOn i = true → Refuses s sd (.netFlowSet sd) 0x11 0) ∧
      (fits → x.flowOn i = false → x.gateOpen 38 = true → x.clk.closing.testBit 38 = false → x.upsets = [] → x.bankOn 49 = true → x.flag (F.MM_BANK_TESTING 49) = false →
        Carries s sd (.netFlowSet sd) [] fun y =>
          (∀ k, k < 13 → y.flowWord i k = mergeMask (x.flowWord i k) (w k) (startMask i k) ∧
            y.rtWord (flowShadow i + 4 * k) = BitVec.ofNat 32 (mergeMask (x.rtWord (flowShadow i + 4 * k)).toNat (w k) (takeMask i k))) ∧
          (∀ b, (b < flowBase i ∨ flowBase i + 52 ≤ b) → (b < flowShadow i ∨ flowShadow i + 52 ≤ b) → y.byte b = x.byte b) ∧
          { y with mem := x.mem } = x)) ∧
    (s.Takes sd 0x0B 4 → let r := rateHz x.rate
      let p := x.flowP i
      let total := fun (f : Nat → Nat) => (((x.flowsOn (if i < 128 then 0 else 128) (if i < 128 then 128 else 256)) ++ [i]).map f).sum
      let sized := (r + 7999) / 8000 ≤ p ∧ p ≤ r / 250 ∧ x.flowFormat i ≠ 3 ∧ x.flowChannels i * p * sampleBytes (x.flowFormat i) ≤ 1440 ∧
        total x.flowChannels ≤ (if x.rate ≤ 3 then 2048 else 1024)
      let stored := total (fun f => x.flowChannels f * (2 * x.flowP f + x.flowOMax f) * 4) ≤ 3 * 2 ^ 20
      (255 < i ∨ 1 < m.u 2 1 → Refuses s sd (.netFlowEn sd) 0x0D 0) ∧
      (i ≤ 255 → m.u 2 1 ≤ 1 → m.u 2 1 = (x.flowOn i).toNat → Carries s sd (.netFlowEn sd) [] fun y => y = x) ∧
      (i ≤ 255 → m.u 2 1 = 1 → x.flowOn i = false →
        (¬sized → Refuses s sd (.netFlowEn sd) 0x0D 0) ∧
        (sized → i < 128 → ¬stored → Refuses s sd (.netFlowEn sd) 0x17 0) ∧
        (sized → i < 128 → stored → x.bankOn 49 = false → Refuses s sd (.netFlowEn sd) 0x11 0) ∧
        (sized → i < 128 → stored → x.bankOn 49 = true → x.upsets = [] → Carries s sd (.netFlowEn sd) [] fun y => y.flowOn i = true ∧
          x.KeptOutside y (flowBase i) 1 ∧
          x.FieldsOnly { y with mem := x.mem, net := x.net } [F.NW_PORT_WORST_TX 0, F.NW_PORT_WORST_TX 1]))) ∧
    (s.Takes sd 0x0B 5 →
      (255 < i → Refuses s sd (.netChstatus sd) 0x0D 0) ∧
      (i ≤ 255 → Carries s sd (.netChstatus sd) [] fun y =>
        (∀ j : Nat, j ≠ i → Sparse.get (fun _ => ([] : List Byte)) y.net.chStatus j = Sparse.get (fun _ => []) x.net.chStatus j) ∧
        (∀ k : Fin 24, (Sparse.get (fun _ => ([] : List Byte)) y.net.chStatus i)[k.val]? = some (BitVec.ofNat 8 (m.u (4 + k.val) 1))) ∧
        { y with net := { y.net with chStatus := x.net.chStatus } } = x)) ∧
    (s.Takes sd 0x0B 6 → let b := m.u 0 1
      let long := 1472 < m.len - 20 ∨ m.len - 20 < m.u 16 2
      let fits := m.u 16 2 ≠ 0 ∧ m.u 12 1 ≤ 63 ∧ m.u 13 1 ≠ 0
      (long → Refuses s sd (.netBuffer sd) 2 0) ∧
      (¬long → ¬fits → Refuses s sd (.netBuffer sd) 0x0D 0) ∧
      (¬long → fits → x.bufferHeld b = true ∨ x.bankOn 49 = false → Refuses s sd (.netBuffer sd) 0x11 0) ∧
      (¬long → fits → x.bufferHeld b = false → x.bankOn 49 = true → x.upsets = [] → Carries s sd (.netBuffer sd) [] fun y =>
        (∀ o, o < 14 → (y.byte (bufBase b + o)).toNat = m.u (4 + o) 1) ∧
        (∀ o, o < m.len - 20 → (y.byte (bufBase b + 0x40 + o)).toNat = m.u (20 + o) 1) ∧
        (m.u 4 4 / 2 ^ 28 = 14 ∨ m.u 4 4 = 2 ^ 32 - 1 → y.bufVal b 0x0E 2 = 1 ∧ y.net.txq = x.net.txq) ∧
        x.KeptOutside y (bufBase b) (0x40 + (m.len - 20)) ∧ (m.u 4 4 / 2 ^ 28 = 14 → y.regs = x.regs)))

/-- R222, R229, R233, R238, R245 (Tables TW-5, TW-12, TW-15): the TWIN class: a change planned for its row, a Cable or Blend cable noted, Rejoin
begun, each or its refusal; and the settings of Twin. -/
def Obligations.TwinMessages : Prop :=
  ∀ (s : State) (sd : SideId), let x := s.side sd
    let o := s.side sd.other
    let m := s.front sd
    let row := m.u 0 8
    let near := row < x.row + 4
    let header := fun (y : Side) (off n : Nat) => y.fw.pattern.map (fun p => imgU p.header off n)
    let same := fun (off n : Nat) => x.fw.pattern ≠ none ∧ header x off n = header o off n
    let heard := x.linkHeard = true ∧ x.seamHeard = true
    let pending := (x.get F.TW_HAND_KIND ≠ 0 ∧ (x.get F.TW_HAND_STATE = 1 ∨ x.get F.TW_HAND_STATE = 2)) ∨ ∃ p ∈ x.twin.plans, p.2 = .cable
    let plans := fun (c : Instr) (r : Nat) (k : RoleChange) => Carries s sd c [] fun y => y = { x with twin := { x.twin with plans := x.twin.plans ++ [(r, k)] } }
    let hand := fun (c : Instr) (r len kind : Nat) => Carries s sd c [] fun y => y.get64 F.TW_HAND_LO F.TW_HAND_HI = r % 2 ^ 64 ∧
      y.get F.TW_HAND_LEN = len ∧ y.get F.TW_HAND_KIND = kind ∧ y.get F.TW_HAND_STATE = 1 ∧
      x.FieldsOnly y [F.TW_HAND_LO, F.TW_HAND_HI, F.TW_HAND_LEN, F.TW_HAND_KIND, F.TW_HAND_STATE]
    let planned := fun (op : Nat) (c : Instr) (k : RoleChange) => s.Takes sd 0x0D op →
      (near → Refuses s sd c 0x12 0) ∧ (¬near → plans c row k)
    (s.Takes sd 0x0D 1 → let lead := m.u 8 1
      let fits := if lead = sd.num then x.fw.pattern ≠ none ∧ s.host.get F.HP_SEAM_TOKEN_OWNER = 3 else same 0x08 8
      (1 < lead → Refuses s sd (.twinStart sd) 0x0D 0) ∧
      (lead ≤ 1 → x.unitBanksOn = false → Refuses s sd (.twinStart sd) 0x11 0) ∧
      (lead ≤ 1 → x.unitBanksOn = true → near → Refuses s sd (.twinStart sd) 0x12 0) ∧
      (lead ≤ 1 → x.unitBanksOn = true → ¬near → ¬fits → Refuses s sd (.twinStart sd) 0x0B 0) ∧
      (lead ≤ 1 → x.unitBanksOn = true → ¬near → fits → plans (.twinStart sd) row (if lead = sd.num then .startLead else .startFollow))) ∧
    (s.Takes sd 0x0D 2 →
      (near → Refuses s sd (.twinCable sd) 0x12 0) ∧
      (¬near → ¬pending → hand (.twinCable sd) row 0 1) ∧
      (¬near → pending → plans (.twinCable sd) (row - 1) .cable)) ∧
    (s.Takes sd 0x0D 3 → let n := m.u 8 2
      let pair := fun (r l : Side) => r.mode = .rework ∧ l.mode = .lead ∧ r.flag F.PB_CTRL_RUN = true
      let fits := (pair x o ∨ pair o x) ∧ same 0x10 8 ∧ same 0x06 1 ∧ heard ∧ ¬pending
      (n < 96 → Refuses s sd (.twinBlend sd) 0x0D 0) ∧
      (96 ≤ n → near → Refuses s sd (.twinBlend sd) 0x12 0) ∧
      (96 ≤ n → ¬near → ¬fits → Refuses s sd (.twinBlend sd) 0x0B 0) ∧
      (96 ≤ n → ¬near → fits → hand (.twinBlend sd) (row + n) n 2)) ∧
    planned 4 (.twinRework sd) .rework ∧ planned 6 (.twinSplit sd) .split ∧
    (s.Takes sd 0x0D 7 → let fits := (x.mode = .solo ∧ o.mode = .ready) ∨ (x.mode = .ready ∧ o.mode = .solo)
      (near → Refuses s sd (.twinJoin sd) 0x12 0) ∧ (¬near → ¬fits → Refuses s sd (.twinJoin sd) 0x0B 0) ∧
      (¬near → fits → plans (.twinJoin sd) row .join)) ∧
    (s.Takes sd 0x0D 5 →
      let blends := x.get F.TW_HAND_KIND = 2 ∧ x.get F.TW_HAND_STATE = 2
      let rejoins := 1 ≤ x.get F.TW_MIR_STATE ∧ x.get F.TW_MIR_STATE ≤ 5
      let fits := x.mode = .rework ∧ o.mode = .lead ∧ x.flag F.PB_CTRL_RUN = true ∧ same 0x08 8 ∧ heard ∧ ¬rejoins ∧ ¬blends
      (¬fits → Refuses s sd (.twinRejoin sd) 0x0B 0) ∧
      (fits → plans (.twinRejoin sd) (x.row + 1) .rejoin)) ∧
    (s.Takes sd 0x0D 8 → let fits := m.u 1 1 ≤ 1 ∧ m.u 2 1 ≤ 1 ∧ m.u 3 1 ≤ 1
      let l := [(F.TW_CTRL_TIMEOUT, max 4 (min 64 (m.u 0 1))), (F.TW_CTRL_TAKE_EN, m.u 1 1), (F.TW_CTRL_TAKE_DIVERGED, m.u 2 1), (F.TW_MIR_LM, m.u 3 1),
        (F.TW_MIR_FINAL_MAX, max 1 (min 8 (m.u 4 1)))]
      (¬fits → Refuses s sd (.twinConfig sd) 0x0D 0) ∧
      (fits → Carries s sd (.twinConfig sd) [] fun y =>
        (∀ f ∈ l, y.get f.1 = f.2) ∧ x.FieldsOnly y (l.map Prod.fst)))

/-- R438, R443 to R445, R451, R454: the MEM and DMA classes: a bank's state, a march and the error counters; a channel lent, returned, resumed
or told to copy, each or its refusal. -/
def Obligations.MemoryMessages : Prop :=
  ∀ (s : State) (sd : SideId), let x := s.side sd
    let m := s.front sd
    let c := m.u 0 1
    let pend := fun (l : Nat) => if l < 32 then (F.DMA_PEND_LO, l) else (F.DMA_PEND_HI, l - 32)
    let busy := x.dma.job.any (fun j => j.ch = c) = true ∨ x.dma.parked.any (fun j => j.ch = c) = true
    let onLent := fun (op : Nat) (i : Instr) (P : Prop) => s.Takes sd 0x0F op →
      (c < 12 ∨ 15 < c → Refuses s sd i 0x0D 0) ∧ (12 ≤ c → c ≤ 15 → x.flag (F.DMA_CH_LENT c) = false → Refuses s sd i 0x19 0) ∧
      (12 ≤ c → c ≤ 15 → x.flag (F.DMA_CH_LENT c) = true → P)
    (s.Takes sd 0x0E 1 → let v := m.u 1 1
      (51 < c ∨ 2 < v → Refuses s sd (.memBank sd) 0x0D 0) ∧
      (c ≤ 51 → v ≤ 2 → x.bankIdle c = false → Refuses s sd (.memBank sd) 0x11 0) ∧
      (c ≤ 51 → v ≤ 2 → x.bankIdle c = true → Carries s sd (.memBank sd) [] fun y => y.get (F.MM_BANK_STATE c) = v ∧
        y.get (F.MM_BANK_CUR c) = (if x.get (F.MM_BANK_CUR c) = v then v else 3) ∧ x.FieldsOnly y [F.MM_BANK_STATE c, F.MM_BANK_CUR c])) ∧
    (s.Takes sd 0x0E 2 → let all := c = 0xFF
      let fits := (c ≤ 51 ∨ all) ∧ m.u 1 1 ≤ 1 ∧ m.u 2 1 ≤ 1 ∧ (m.u 2 1 = 1 → m.u 1 1 = 0)
      let banks := if all then List.range 48 ++ [49, 50] else [c]
      let may := x.swatch = none ∧ ∀ b ∈ banks, (b ≤ 47 ∨ b = 49 ∨ b = 50) ∧ x.bankIdle b = true
      (¬fits → Refuses s sd (.memSwatch sd) 0x0D 0) ∧
      (fits → ¬may → Refuses s sd (.memSwatch sd) 0x11 0) ∧
      (fits → may → Carries s sd (.memSwatch sd) [] fun y =>
        y.swatch.map (fun r => (r.kind, r.repair, r.second, r.result, r.spares, r.unit, r.inMode)) =
          some (m.u 1 1, decide (m.u 2 1 = 1), [], 0, 0, c, false) ∧
        (∀ b ∈ banks, ∀ i, i < (bankMacros b).2 → (bankMacros b).1 + i ∈ (y.swatch.map SwatchRun.left).getD []) ∧
        y.get F.MM_SWATCH_STAT_BUSY = 1 ∧ y.get F.MM_SWATCH_FAIL_VALID = 0 ∧ { y with regs := x.regs, swatch := x.swatch } = x)) ∧
    (s.Takes sd 0x0E 3 →
      (51 < c → Refuses s sd (.memEccClear sd) 0x0D 0) ∧
      (c ≤ 51 → Carries s sd (.memEccClear sd) [] fun y => y.get (F.MM_BANK_CE_CNT c) = 0 ∧ y.get (F.MM_BANK_UE_CNT c) = 0 ∧
        x.FieldsOnly y [F.MM_BANK_CE_CNT c, F.MM_BANK_UE_CNT c])) ∧
    (s.Takes sd 0x0F 1 → let base := m.u 4 8
      let len := m.u 12 4
      let rec' := m.u 16 8
      let count := m.u 24 4
      let fits := 12 ≤ c ∧ c ≤ 15 ∧ x.flag (F.DMA_CH_LENT c) = false ∧ ¬busy ∧ base % 32 = 0 ∧ len % 32 = 0 ∧ len ≠ 0 ∧ rec' % 16 = 0 ∧ 1 ≤ count ∧ count ≤ 4096
      let l := [(F.DMA_CH_DATA_BASE_LO c, base % 2 ^ 32), (F.DMA_CH_DATA_BASE_HI c, base / 2 ^ 32), (F.DMA_CH_DATA_LEN c, len), (F.DMA_CH_REC_BASE_LO c, rec' % 2 ^ 32),
        (F.DMA_CH_REC_BASE_HI c, rec' / 2 ^ 32), (F.DMA_CH_REC_COUNT c, count), (F.DMA_CH_REC_WR c, 0), (F.DMA_CH_REC_CONS c, 0), (F.DMA_CH_DATA_OFF c, 0),
        (F.DMA_CH_LENT c, 1), (F.DMA_CH_HOSTDST c, 1), (F.DMA_CH_EN c, 1), (F.DMA_CH_LINE c, c - 12)]
      (¬fits → Refuses s sd (.dmaLend sd) 0x0D 0) ∧
      (fits → Carries s sd (.dmaLend sd) [] fun y => (∀ f ∈ l, y.get f.1 = f.2) ∧ x.FieldsOnly y (F.DMA_STAT_CONFLICT :: l.map Prod.fst))) ∧
    onLent 2 (.dmaReturn sd) (Carries s sd (.dmaReturn sd) [] fun y =>
      let lines := [48 + c, x.get (F.DMA_CH_LINE c)]
      let cleared := [F.DMA_CH_LENT c, F.DMA_CH_EN c, F.DMA_CH_HOSTDST c, F.DMA_CH_ACTIVE c, F.DMA_CH_HALTED c, F.DMA_CH_PARKED c, F.DMA_CH_FULL c, F.DMA_CH_DATA_LEN c]
      let running := x.dma.job.any (fun j => j.ch = c) = true
      (∀ f ∈ cleared, y.get f = 0) ∧ (∀ l ∈ lines, y.bit (pend l).1 (pend l).2 = false) ∧
      y.dma = { job := if running then none else x.dma.job, parked := x.dma.parked.filter (fun j => j.ch ≠ c), headers := x.dma.headers.filter (fun h => !lines.contains h.1), records := x.dma.records.filter (fun r => r.1 ≠ c) } ∧
      y.gauge = { x.gauge with frames := x.gauge.frames.filter (fun e => e.2.2.2 + 12 ≠ c) } ∧
      x.FieldsOnly { y with dma := x.dma, gauge := x.gauge } (cleared ++ lines.map (fun l => (pend l).1) ++
        if running then [F.DMA_STAT_HALTED, F.DMA_STAT_BUSY, F.DMA_ERR_INFO_VALID] else [])) ∧
    onLent 3 (.dmaResume sd) ((1 < m.u 1 1 → Refuses s sd (.dmaResume sd) 0x0D 0) ∧
      (m.u 1 1 ≤ 1 → x.flag (F.DMA_CH_HALTED c) = false → Carries s sd (.dmaResume sd) [] fun y => y = x) ∧
      (m.u 1 1 ≤ 1 → x.flag (F.DMA_CH_HALTED c) = true → x.dma.parked.any (fun j => j.ch = c) = true → Carries s sd (.dmaResume sd) [] fun y =>
        let go := fun (j : DmaJob) => if j.ch = c ∧ m.u 1 1 = 1 ∧ j.retry = true then { j with next := j.next + 1, skipped := true, retry := false } else j
        y.dma = { x.dma with parked := x.dma.parked.map go } ∧ y.get (F.DMA_CH_HALTED c) = 0 ∧ y.get (F.DMA_CH_PARKED c) = 0 ∧ y.get F.DMA_ERR_INFO_VALID = 0 ∧
        x.FieldsOnly { y with dma := x.dma } [F.DMA_CH_HALTED c, F.DMA_CH_PARKED c, F.DMA_ERR_INFO_VALID])) ∧
    onLent 4 (.dmaCopy sd) (let dst := m.u 8 8
      let len := m.u 16 4
      let base := x.get64 (F.DMA_CH_DATA_BASE_LO c) (F.DMA_CH_DATA_BASE_HI c)
      let metered := ∃ g : Fin 8, x.flag (F.PB_GRP_EN g) = true ∧ x.get (F.PB_GRP_CHANNEL g) + 12 = c
      let p := pend (48 + c)
      let held := metered ∨ busy ∨ x.bit p.1 p.2 = true
      let fits := len ≠ 0 ∧ len < 2 ^ 24 ∧ m.u 4 4 % 32 = 0 ∧ dst % 32 = 0 ∧ base ≤ dst ∧ dst + len ≤ base + x.get (F.DMA_CH_DATA_LEN c)
      (held → Refuses s sd (.dmaCopy sd) 0x11 0) ∧ (¬held → ¬fits → Refuses s sd (.dmaCopy sd) 0x0D 0) ∧
      (¬held → fits → Carries s sd (.dmaCopy sd) [] fun y => y.get (F.DMA_CH_SRC c) = m.u 4 4 ∧
        y.get64 (F.DMA_CH_DST_LO c) (F.DMA_CH_DST_HI c) = dst ∧ y.get (F.DMA_CH_LEN c) = len ∧ y.get F.DMA_SWREQ_CH = c ∧ x.BitIs y p.1 p.2 true ∧
        x.FieldsOnly y [F.DMA_CH_SRC c, F.DMA_CH_DST_LO c, F.DMA_CH_DST_HI c, F.DMA_CH_LEN c, F.DMA_SWREQ_CH, p.1]))
end

