-- ==== Sys2Proof/Laws/Sparse.lean ====
section
/-!
SUPPORT. Laws of sparse data: reads after writes, the canonical form, and that canonical data with the same contents is the same.
-/
namespace Sys2Proof.Machine

variable {β : Type}

theorem Sparse.get_erase_same (d : Nat → β) (m : Sparse β) (k : Nat) : Sparse.get d (Sparse.erase m k) k = d k := by
  induction m with
  | nil => rfl
  | cons p m ih => by_cases h : p.1 = k <;> simp [Sparse.erase, Sparse.get, h, ih]

theorem Sparse.get_erase_other (d : Nat → β) (m : Sparse β) {k j : Nat} (h : j ≠ k) :
    Sparse.get d (Sparse.erase m k) j = Sparse.get d m j := by
  induction m with
  | nil => rfl
  | cons p m ih =>
    by_cases hk : p.1 = k
    · have : p.1 ≠ j := by omega
      simp [Sparse.erase, Sparse.get, hk, ih]
      intro hj; omega
    · simp [Sparse.erase, Sparse.get, hk, ih]

theorem Sparse.get_insert_same (d : Nat → β) (m : Sparse β) (k : Nat) (v : β) (h : ∀ p ∈ m, p.1 ≠ k) :
    Sparse.get d (Sparse.insert m k v) k = v := by
  induction m with
  | nil => simp [Sparse.insert, Sparse.get]
  | cons p m ih =>
    by_cases hk : k < p.1
    · simp [Sparse.insert, Sparse.get, hk]
    · have hp := h p (by simp)
      simp [Sparse.insert, Sparse.get, hk, hp, ih (fun q hq => h q (by simp [hq]))]

theorem Sparse.get_insert_other (d : Nat → β) (m : Sparse β) {k j : Nat} (v : β) (h : j ≠ k) :
    Sparse.get d (Sparse.insert m k v) j = Sparse.get d m j := by
  induction m with
  | nil => simp [Sparse.insert, Sparse.get, Ne.symm h]
  | cons p m ih =>
    by_cases hk : k < p.1
    · simp [Sparse.insert, Sparse.get, hk, Ne.symm h]
    · simp [Sparse.insert, Sparse.get, hk, ih]

theorem Sparse.erase_ne (m : Sparse β) (k : Nat) : ∀ p ∈ Sparse.erase m k, p.1 ≠ k := by
  induction m with
  | nil => simp [Sparse.erase]
  | cons q m ih =>
    by_cases hk : q.1 = k
    · simpa [Sparse.erase, hk] using ih
    · simp only [Sparse.erase, hk, if_false, List.mem_cons]
      rintro p (rfl | hp)
      · exact hk
      · exact ih p hp

/-- A read of a key after a write of it gives what was written. -/
theorem Sparse.get_set_same [DecidableEq β] (d : Nat → β) (m : Sparse β) (k : Nat) (v : β) :
    Sparse.get d (Sparse.set d m k v) k = v := by
  unfold Sparse.set
  split
  · rename_i h; rw [h, Sparse.get_erase_same]
  · exact Sparse.get_insert_same d _ k v (Sparse.erase_ne m k)

/-- A write of a key leaves every other key as it reads. -/
theorem Sparse.get_set_other [DecidableEq β] (d : Nat → β) (m : Sparse β) {k j : Nat} (v : β) (h : j ≠ k) :
    Sparse.get d (Sparse.set d m k v) j = Sparse.get d m j := by
  unfold Sparse.set
  split
  · exact Sparse.get_erase_other d m h
  · rw [Sparse.get_insert_other d _ v h, Sparse.get_erase_other d m h]

/-- Both cases of a read after a write. -/
theorem Sparse.get_set [DecidableEq β] (d : Nat → β) (m : Sparse β) (k j : Nat) (v : β) :
    Sparse.get d (Sparse.set d m k v) j = if j = k then v else Sparse.get d m j := by
  by_cases h : j = k
  · subst h; simp [Sparse.get_set_same]
  · simp [h, Sparse.get_set_other d m v h]

/-! ### The canonical form -/

theorem Sparse.above_erase {n : Nat} (m : Sparse β) (k : Nat) (h : Sparse.above n m = true) :
    Sparse.above n (Sparse.erase m k) = true := by
  induction m with
  | nil => rfl
  | cons p m ih =>
    have h1 : n < p.1 ∧ Sparse.above n m = true := by simpa [Sparse.above] using h
    by_cases hk : p.1 = k
    · simpa [Sparse.erase, hk] using ih h1.2
    · simp only [Sparse.erase, hk, if_false]
      have := ih h1.2
      simp only [Sparse.above, List.all_cons, Bool.and_eq_true, decide_eq_true_eq] at this ⊢
      exact ⟨h1.1, this⟩

theorem Sparse.wf_erase [DecidableEq β] (d : Nat → β) (m : Sparse β) (k : Nat) (h : Sparse.wf d m = true) :
    Sparse.wf d (Sparse.erase m k) = true := by
  induction m with
  | nil => rfl
  | cons p m ih =>
    simp only [Sparse.wf, Bool.and_eq_true] at h
    by_cases hk : p.1 = k
    · simpa [Sparse.erase, hk] using ih h.2
    · simp only [Sparse.erase, hk, if_false, Sparse.wf, Bool.and_eq_true]
      exact ⟨⟨h.1.1, Sparse.above_erase m k h.1.2⟩, ih h.2⟩

theorem Sparse.above_insert {n : Nat} (m : Sparse β) {k : Nat} (v : β) (hn : n < k) (h : Sparse.above n m = true) :
    Sparse.above n (Sparse.insert m k v) = true := by
  induction m with
  | nil => simpa [Sparse.insert, Sparse.above] using hn
  | cons p m ih =>
    have h1 : n < p.1 ∧ Sparse.above n m = true := by simpa [Sparse.above] using h
    by_cases hk : k < p.1
    · simp only [Sparse.insert, hk, if_true, Sparse.above, List.all_cons, Bool.and_eq_true, decide_eq_true_eq]
      exact ⟨hn, h1.1, by simpa [Sparse.above] using h1.2⟩
    · have := ih h1.2
      simp only [Sparse.insert, hk, if_false]
      simp only [Sparse.above, List.all_cons, Bool.and_eq_true, decide_eq_true_eq] at this ⊢
      exact ⟨h1.1, this⟩

theorem Sparse.above_trans {n k : Nat} (m : Sparse β) (hn : n < k) (h : Sparse.above k m = true) : Sparse.above n m = true := by
  simp only [Sparse.above, List.all_eq_true, decide_eq_true_eq] at h ⊢
  intro p hp; have := h p hp; omega

theorem Sparse.wf_insert [DecidableEq β] (d : Nat → β) (m : Sparse β) {k : Nat} {v : β} (hv : v ≠ d k)
    (hk : ∀ p ∈ m, p.1 ≠ k) (h : Sparse.wf d m = true) : Sparse.wf d (Sparse.insert m k v) = true := by
  induction m with
  | nil => simp [Sparse.insert, Sparse.wf, Sparse.above, hv]
  | cons p m ih =>
    simp only [Sparse.wf, Bool.and_eq_true, decide_eq_true_eq] at h
    by_cases hlt : k < p.1
    · simp only [Sparse.insert, hlt, if_true, Sparse.wf, Bool.and_eq_true, decide_eq_true_eq]
      refine ⟨⟨hv, ?_⟩, h⟩
      have := Sparse.above_trans m hlt h.1.2
      simp only [Sparse.above, List.all_cons, Bool.and_eq_true, decide_eq_true_eq] at this ⊢
      exact ⟨hlt, this⟩
    · have hne := hk p (by simp)
      simp only [Sparse.insert, hlt, if_false, Sparse.wf, Bool.and_eq_true, decide_eq_true_eq]
      exact ⟨⟨h.1.1, Sparse.above_insert m v (by omega) h.1.2⟩, ih (fun q hq => hk q (by simp [hq])) h.2⟩

/-- A write keeps the canonical form. -/
theorem Sparse.wf_set [DecidableEq β] (d : Nat → β) (m : Sparse β) (k : Nat) (v : β) (h : Sparse.wf d m = true) :
    Sparse.wf d (Sparse.set d m k v) = true := by
  unfold Sparse.set
  split
  · exact Sparse.wf_erase d m k h
  · rename_i hv; exact Sparse.wf_insert d _ hv (Sparse.erase_ne m k) (Sparse.wf_erase d m k h)

theorem Sparse.above_filter {n : Nat} (m : Sparse β) (q : Nat × β → Bool) (h : Sparse.above n m = true) :
    Sparse.above n (m.filter q) = true := by
  simp only [Sparse.above, List.all_eq_true, decide_eq_true_eq] at h ⊢
  intro p hp; exact h p (List.mem_filter.mp hp).1

/-- Leaving entries out keeps the canonical form. -/
theorem Sparse.wf_filter [DecidableEq β] (d : Nat → β) (m : Sparse β) (q : Nat × β → Bool) (h : Sparse.wf d m = true) :
    Sparse.wf d (m.filter q) = true := by
  induction m with
  | nil => rfl
  | cons p m ih =>
    simp only [Sparse.wf, Bool.and_eq_true] at h
    by_cases hq : q p = true
    · simp only [List.filter_cons, hq, if_true, Sparse.wf, Bool.and_eq_true]
      exact ⟨⟨h.1.1, Sparse.above_filter m q h.1.2⟩, ih h.2⟩
    · simpa [List.filter_cons, hq] using ih h.2

theorem Sparse.get_above (d : Nat → β) (m : Sparse β) {k : Nat} (h : Sparse.above k m = true) : Sparse.get d m k = d k := by
  induction m with
  | nil => rfl
  | cons p m ih =>
    have h1 : k < p.1 ∧ Sparse.above k m = true := by simpa [Sparse.above] using h
    have : p.1 ≠ k := by omega
    simp [Sparse.get, this, ih h1.2]

/-- Canonical data that reads the same at every key is the same data. -/
theorem Sparse.wf_ext [DecidableEq β] (d : Nat → β) : ∀ (a b : Sparse β), Sparse.wf d a = true → Sparse.wf d b = true →
    (∀ k, Sparse.get d a k = Sparse.get d b k) → a = b
  | [], [], _, _, _ => rfl
  | [], q :: b, _, hb, h => by
    simp only [Sparse.wf, Bool.and_eq_true, decide_eq_true_eq] at hb
    exact absurd (by simpa [Sparse.get] using (h q.1).symm) hb.1.1
  | p :: a, [], ha, _, h => by
    simp only [Sparse.wf, Bool.and_eq_true, decide_eq_true_eq] at ha
    exact absurd (by simpa [Sparse.get] using h p.1) ha.1.1
  | p :: a, q :: b, ha, hb, h => by
    simp only [Sparse.wf, Bool.and_eq_true, decide_eq_true_eq] at ha hb
    have hk : p.1 = q.1 := by
      apply Nat.le_antisymm
      · refine Nat.le_of_not_lt (fun hlt => hb.1.1 ?_)
        have h1 := h q.1
        rw [Sparse.get_above d (p :: a) (k := q.1) (by
          have := Sparse.above_trans a hlt ha.1.2
          simp only [Sparse.above, List.all_cons, Bool.and_eq_true, decide_eq_true_eq] at this ⊢
          exact ⟨hlt, this⟩)] at h1
        simpa [Sparse.get] using h1.symm
      · refine Nat.le_of_not_lt (fun hlt => ha.1.1 ?_)
        have h1 := h p.1
        rw [Sparse.get_above d (q :: b) (k := p.1) (by
          have := Sparse.above_trans b hlt hb.1.2
          simp only [Sparse.above, List.all_cons, Bool.and_eq_true, decide_eq_true_eq] at this ⊢
          exact ⟨hlt, this⟩)] at h1
        simpa [Sparse.get] using h1
    have hv : p.2 = q.2 := by have := h p.1; simpa [Sparse.get, hk] using this
    have hab : a = b := Sparse.wf_ext d a b ha.2 hb.2 (fun k => by
      have h1 := h k
      by_cases hpk : p.1 = k
      · rw [← hpk, Sparse.get_above d a ha.1.2, hk, Sparse.get_above d b hb.1.2]
      · have hqk : q.1 ≠ k := hk ▸ hpk
        simpa [Sparse.get, hpk, hqk] using h1)
    rw [hab, Prod.ext hk hv]

end Sys2Proof.Machine
end

