-- ==== Sys2Proof/Laws/State.lean ====
section
/-!
SUPPORT. What each update of the state leaves in each of its fields, and what reads give after writes.
-/
namespace Sys2Proof.Machine

open Sys2Proof

/-! ### The block -/

@[simp] theorem State.setSide_side (s : State) (sd : SideId) (x : Side) : (s.setSide sd x).side sd = x := by cases sd <;> rfl
@[simp] theorem State.setSide_side0 (s : State) (x : Side) : (s.setSide .s0 x).side .s1 = s.side .s1 := rfl
@[simp] theorem State.setSide_side1 (s : State) (x : Side) : (s.setSide .s1 x).side .s0 = s.side .s0 := rfl
@[simp] theorem State.setSide_other (s : State) (sd : SideId) (x : Side) : (s.setSide sd x).side sd.other = s.side sd.other := by
  cases sd <;> rfl
@[simp] theorem State.setSide_host (s : State) (sd : SideId) (x : Side) : (s.setSide sd x).host = s.host := by cases sd <;> rfl
@[simp] theorem State.setSide_pending (s : State) (sd : SideId) (x : Side) : (s.setSide sd x).pending = s.pending := by cases sd <;> rfl
@[simp] theorem State.setSide_fresh (s : State) (sd : SideId) (x : Side) : (s.setSide sd x).fresh = s.fresh := by cases sd <;> rfl
@[simp] theorem State.onSide_side (s : State) (sd : SideId) (f : Side → Side) : (s.onSide sd f).side sd = f (s.side sd) := by
  simp [State.onSide]
@[simp] theorem State.onSide_other (s : State) (sd : SideId) (f : Side → Side) : (s.onSide sd f).side sd.other = s.side sd.other := by
  simp [State.onSide]
@[simp] theorem State.onSide_host (s : State) (sd : SideId) (f : Side → Side) : (s.onSide sd f).host = s.host := by simp [State.onSide]
@[simp] theorem State.onSide_pending (s : State) (sd : SideId) (f : Side → Side) : (s.onSide sd f).pending = s.pending := by
  simp [State.onSide]
@[simp] theorem State.onSide_fresh (s : State) (sd : SideId) (f : Side → Side) : (s.onSide sd f).fresh = s.fresh := by simp [State.onSide]
@[simp] theorem State.onHost_side (s : State) (sd : SideId) (f : HostRegion → HostRegion) : (s.onHost f).side sd = s.side sd := by
  cases sd <;> rfl
@[simp] theorem State.onHost_side0 (s : State) (f : HostRegion → HostRegion) : (s.onHost f).side0 = s.side0 := rfl
@[simp] theorem State.onHost_side1 (s : State) (f : HostRegion → HostRegion) : (s.onHost f).side1 = s.side1 := rfl
@[simp] theorem State.onHost_host (s : State) (f : HostRegion → HostRegion) : (s.onHost f).host = f s.host := rfl
@[simp] theorem State.onHost_pending (s : State) (f : HostRegion → HostRegion) : (s.onHost f).pending = s.pending := rfl
@[simp] theorem State.onHost_fresh (s : State) (f : HostRegion → HostRegion) : (s.onHost f).fresh = s.fresh := rfl
@[simp] theorem State.side_s0 (s : State) : s.side .s0 = s.side0 := rfl
@[simp] theorem State.side_s1 (s : State) : s.side .s1 = s.side1 := rfl
@[simp] theorem State.rest_side (s : State) (cs : List Instr) (sd : SideId) : (s.rest cs).side sd = s.side sd := by cases sd <;> rfl
@[simp] theorem State.rest_host (s : State) (cs : List Instr) : (s.rest cs).host = s.host := rfl
@[simp] theorem State.rest_pending (s : State) (cs : List Instr) : (s.rest cs).pending = cs := rfl
@[simp] theorem State.rest_fresh (s : State) (cs : List Instr) : (s.rest cs).fresh = s.fresh := rfl

/-! ### Side.set -/

@[simp] theorem Side.set_mode (x : Side) (f : Fld) (v : Nat) : (x.set f v).mode = x.mode := rfl
@[simp] theorem Side.set_rate (x : Side) (f : Fld) (v : Nat) : (x.set f v).rate = x.rate := rfl
@[simp] theorem Side.set_regs (x : Side) (f : Fld) (v : Nat) : (x.set f v).regs = Regs.set x.regs f v := rfl
@[simp] theorem Side.set_mem (x : Side) (f : Fld) (v : Nat) : (x.set f v).mem = x.mem := rfl
@[simp] theorem Side.set_upsets (x : Side) (f : Fld) (v : Nat) : (x.set f v).upsets = x.upsets := rfl
@[simp] theorem Side.set_row (x : Side) (f : Fld) (v : Nat) : (x.set f v).row = x.row := rfl
@[simp] theorem Side.set_counter (x : Side) (f : Fld) (v : Nat) : (x.set f v).counter = x.counter := rfl
@[simp] theorem Side.set_pulse (x : Side) (f : Fld) (v : Nat) : (x.set f v).pulse = x.pulse := rfl
@[simp] theorem Side.set_fw (x : Side) (f : Fld) (v : Nat) : (x.set f v).fw = x.fw := rfl
@[simp] theorem Side.set_cores (x : Side) (f : Fld) (v : Nat) : (x.set f v).cores = x.cores := rfl
@[simp] theorem Side.set_bankOwner (x : Side) (f : Fld) (v : Nat) : (x.set f v).bankOwner = x.bankOwner := rfl
@[simp] theorem Side.set_cross (x : Side) (f : Fld) (v : Nat) : (x.set f v).cross = x.cross := rfl
@[simp] theorem Side.set_gauge (x : Side) (f : Fld) (v : Nat) : (x.set f v).gauge = x.gauge := rfl
@[simp] theorem Side.set_pages (x : Side) (f : Fld) (v : Nat) : (x.set f v).pages = x.pages := rfl
@[simp] theorem Side.set_takes (x : Side) (f : Fld) (v : Nat) : (x.set f v).takes = x.takes := rfl
@[simp] theorem Side.set_twin (x : Side) (f : Fld) (v : Nat) : (x.set f v).twin = x.twin := rfl
@[simp] theorem Side.set_tm (x : Side) (f : Fld) (v : Nat) : (x.set f v).tm = x.tm := rfl
@[simp] theorem Side.set_ports (x : Side) (f : Fld) (v : Nat) : (x.set f v).ports = x.ports := rfl
@[simp] theorem Side.set_net (x : Side) (f : Fld) (v : Nat) : (x.set f v).net = x.net := rfl
@[simp] theorem Side.set_shemas (x : Side) (f : Fld) (v : Nat) : (x.set f v).shemas = x.shemas := rfl
@[simp] theorem Side.set_clk (x : Side) (f : Fld) (v : Nat) : (x.set f v).clk = x.clk := rfl
@[simp] theorem Side.set_fuses (x : Side) (f : Fld) (v : Nat) : (x.set f v).fuses = x.fuses := rfl
@[simp] theorem Side.set_swatch (x : Side) (f : Fld) (v : Nat) : (x.set f v).swatch = x.swatch := rfl
@[simp] theorem Side.set_fab (x : Side) (f : Fld) (v : Nat) : (x.set f v).fab = x.fab := rfl
@[simp] theorem Side.set_dma (x : Side) (f : Fld) (v : Nat) : (x.set f v).dma = x.dma := rfl
@[simp] theorem Side.set_col (x : Side) (f : Fld) (v : Nat) : (x.set f v).col = x.col := rfl

/-! ### Side.putByte -/

@[simp] theorem Side.putByte_mode (x : Side) (a : Nat) (v : Byte) : (x.putByte a v).mode = x.mode := rfl
@[simp] theorem Side.putByte_rate (x : Side) (a : Nat) (v : Byte) : (x.putByte a v).rate = x.rate := rfl
@[simp] theorem Side.putByte_regs (x : Side) (a : Nat) (v : Byte) : (x.putByte a v).regs = x.regs := rfl
@[simp] theorem Side.putByte_mem (x : Side) (a : Nat) (v : Byte) : (x.putByte a v).mem = Sparse.set memDefault x.mem a v := rfl
@[simp] theorem Side.putByte_upsets (x : Side) (a : Nat) (v : Byte) : (x.putByte a v).upsets = x.upsets := rfl
@[simp] theorem Side.putByte_row (x : Side) (a : Nat) (v : Byte) : (x.putByte a v).row = x.row := rfl
@[simp] theorem Side.putByte_counter (x : Side) (a : Nat) (v : Byte) : (x.putByte a v).counter = x.counter := rfl
@[simp] theorem Side.putByte_pulse (x : Side) (a : Nat) (v : Byte) : (x.putByte a v).pulse = x.pulse := rfl
@[simp] theorem Side.putByte_fw (x : Side) (a : Nat) (v : Byte) : (x.putByte a v).fw = x.fw := rfl
@[simp] theorem Side.putByte_cores (x : Side) (a : Nat) (v : Byte) : (x.putByte a v).cores = x.cores := rfl
@[simp] theorem Side.putByte_bankOwner (x : Side) (a : Nat) (v : Byte) : (x.putByte a v).bankOwner = x.bankOwner := rfl
@[simp] theorem Side.putByte_cross (x : Side) (a : Nat) (v : Byte) : (x.putByte a v).cross = x.cross := rfl
@[simp] theorem Side.putByte_gauge (x : Side) (a : Nat) (v : Byte) : (x.putByte a v).gauge = x.gauge := rfl
@[simp] theorem Side.putByte_pages (x : Side) (a : Nat) (v : Byte) : (x.putByte a v).pages = x.pages := rfl
@[simp] theorem Side.putByte_takes (x : Side) (a : Nat) (v : Byte) : (x.putByte a v).takes = x.takes := rfl
@[simp] theorem Side.putByte_twin (x : Side) (a : Nat) (v : Byte) : (x.putByte a v).twin = x.twin := rfl
@[simp] theorem Side.putByte_tm (x : Side) (a : Nat) (v : Byte) : (x.putByte a v).tm = x.tm := rfl
@[simp] theorem Side.putByte_ports (x : Side) (a : Nat) (v : Byte) : (x.putByte a v).ports = x.ports := rfl
@[simp] theorem Side.putByte_net (x : Side) (a : Nat) (v : Byte) : (x.putByte a v).net = x.net := rfl
@[simp] theorem Side.putByte_shemas (x : Side) (a : Nat) (v : Byte) : (x.putByte a v).shemas = x.shemas := rfl
@[simp] theorem Side.putByte_clk (x : Side) (a : Nat) (v : Byte) : (x.putByte a v).clk = x.clk := rfl
@[simp] theorem Side.putByte_fuses (x : Side) (a : Nat) (v : Byte) : (x.putByte a v).fuses = x.fuses := rfl
@[simp] theorem Side.putByte_swatch (x : Side) (a : Nat) (v : Byte) : (x.putByte a v).swatch = x.swatch := rfl
@[simp] theorem Side.putByte_fab (x : Side) (a : Nat) (v : Byte) : (x.putByte a v).fab = x.fab := rfl
@[simp] theorem Side.putByte_dma (x : Side) (a : Nat) (v : Byte) : (x.putByte a v).dma = x.dma := rfl
@[simp] theorem Side.putByte_col (x : Side) (a : Nat) (v : Byte) : (x.putByte a v).col = x.col := rfl

/-! ### Side.setUpset -/

@[simp] theorem Side.setUpset_mode (x : Side) (a v : Nat) : (x.setUpset a v).mode = x.mode := rfl
@[simp] theorem Side.setUpset_rate (x : Side) (a v : Nat) : (x.setUpset a v).rate = x.rate := rfl
@[simp] theorem Side.setUpset_regs (x : Side) (a v : Nat) : (x.setUpset a v).regs = x.regs := rfl
@[simp] theorem Side.setUpset_mem (x : Side) (a v : Nat) : (x.setUpset a v).mem = x.mem := rfl
@[simp] theorem Side.setUpset_upsets (x : Side) (a v : Nat) : (x.setUpset a v).upsets = Sparse.set (fun _ => 0) x.upsets (a / 8) v := rfl
@[simp] theorem Side.setUpset_row (x : Side) (a v : Nat) : (x.setUpset a v).row = x.row := rfl
@[simp] theorem Side.setUpset_counter (x : Side) (a v : Nat) : (x.setUpset a v).counter = x.counter := rfl
@[simp] theorem Side.setUpset_pulse (x : Side) (a v : Nat) : (x.setUpset a v).pulse = x.pulse := rfl
@[simp] theorem Side.setUpset_fw (x : Side) (a v : Nat) : (x.setUpset a v).fw = x.fw := rfl
@[simp] theorem Side.setUpset_cores (x : Side) (a v : Nat) : (x.setUpset a v).cores = x.cores := rfl
@[simp] theorem Side.setUpset_bankOwner (x : Side) (a v : Nat) : (x.setUpset a v).bankOwner = x.bankOwner := rfl
@[simp] theorem Side.setUpset_cross (x : Side) (a v : Nat) : (x.setUpset a v).cross = x.cross := rfl
@[simp] theorem Side.setUpset_gauge (x : Side) (a v : Nat) : (x.setUpset a v).gauge = x.gauge := rfl
@[simp] theorem Side.setUpset_pages (x : Side) (a v : Nat) : (x.setUpset a v).pages = x.pages := rfl
@[simp] theorem Side.setUpset_takes (x : Side) (a v : Nat) : (x.setUpset a v).takes = x.takes := rfl
@[simp] theorem Side.setUpset_twin (x : Side) (a v : Nat) : (x.setUpset a v).twin = x.twin := rfl
@[simp] theorem Side.setUpset_tm (x : Side) (a v : Nat) : (x.setUpset a v).tm = x.tm := rfl
@[simp] theorem Side.setUpset_ports (x : Side) (a v : Nat) : (x.setUpset a v).ports = x.ports := rfl
@[simp] theorem Side.setUpset_net (x : Side) (a v : Nat) : (x.setUpset a v).net = x.net := rfl
@[simp] theorem Side.setUpset_shemas (x : Side) (a v : Nat) : (x.setUpset a v).shemas = x.shemas := rfl
@[simp] theorem Side.setUpset_clk (x : Side) (a v : Nat) : (x.setUpset a v).clk = x.clk := rfl
@[simp] theorem Side.setUpset_fuses (x : Side) (a v : Nat) : (x.setUpset a v).fuses = x.fuses := rfl
@[simp] theorem Side.setUpset_swatch (x : Side) (a v : Nat) : (x.setUpset a v).swatch = x.swatch := rfl
@[simp] theorem Side.setUpset_fab (x : Side) (a v : Nat) : (x.setUpset a v).fab = x.fab := rfl
@[simp] theorem Side.setUpset_dma (x : Side) (a v : Nat) : (x.setUpset a v).dma = x.dma := rfl
@[simp] theorem Side.setUpset_col (x : Side) (a v : Nat) : (x.setUpset a v).col = x.col := rfl

/-! ### Side.onTwin -/

@[simp] theorem Side.onTwin_mode (x : Side) (f : Twin → Twin) : (x.onTwin f).mode = x.mode := rfl
@[simp] theorem Side.onTwin_rate (x : Side) (f : Twin → Twin) : (x.onTwin f).rate = x.rate := rfl
@[simp] theorem Side.onTwin_regs (x : Side) (f : Twin → Twin) : (x.onTwin f).regs = x.regs := rfl
@[simp] theorem Side.onTwin_mem (x : Side) (f : Twin → Twin) : (x.onTwin f).mem = x.mem := rfl
@[simp] theorem Side.onTwin_upsets (x : Side) (f : Twin → Twin) : (x.onTwin f).upsets = x.upsets := rfl
@[simp] theorem Side.onTwin_row (x : Side) (f : Twin → Twin) : (x.onTwin f).row = x.row := rfl
@[simp] theorem Side.onTwin_counter (x : Side) (f : Twin → Twin) : (x.onTwin f).counter = x.counter := rfl
@[simp] theorem Side.onTwin_pulse (x : Side) (f : Twin → Twin) : (x.onTwin f).pulse = x.pulse := rfl
@[simp] theorem Side.onTwin_fw (x : Side) (f : Twin → Twin) : (x.onTwin f).fw = x.fw := rfl
@[simp] theorem Side.onTwin_cores (x : Side) (f : Twin → Twin) : (x.onTwin f).cores = x.cores := rfl
@[simp] theorem Side.onTwin_bankOwner (x : Side) (f : Twin → Twin) : (x.onTwin f).bankOwner = x.bankOwner := rfl
@[simp] theorem Side.onTwin_cross (x : Side) (f : Twin → Twin) : (x.onTwin f).cross = x.cross := rfl
@[simp] theorem Side.onTwin_gauge (x : Side) (f : Twin → Twin) : (x.onTwin f).gauge = x.gauge := rfl
@[simp] theorem Side.onTwin_pages (x : Side) (f : Twin → Twin) : (x.onTwin f).pages = x.pages := rfl
@[simp] theorem Side.onTwin_takes (x : Side) (f : Twin → Twin) : (x.onTwin f).takes = x.takes := rfl
@[simp] theorem Side.onTwin_twin (x : Side) (f : Twin → Twin) : (x.onTwin f).twin = f x.twin := rfl
@[simp] theorem Side.onTwin_tm (x : Side) (f : Twin → Twin) : (x.onTwin f).tm = x.tm := rfl
@[simp] theorem Side.onTwin_ports (x : Side) (f : Twin → Twin) : (x.onTwin f).ports = x.ports := rfl
@[simp] theorem Side.onTwin_net (x : Side) (f : Twin → Twin) : (x.onTwin f).net = x.net := rfl
@[simp] theorem Side.onTwin_shemas (x : Side) (f : Twin → Twin) : (x.onTwin f).shemas = x.shemas := rfl
@[simp] theorem Side.onTwin_clk (x : Side) (f : Twin → Twin) : (x.onTwin f).clk = x.clk := rfl
@[simp] theorem Side.onTwin_fuses (x : Side) (f : Twin → Twin) : (x.onTwin f).fuses = x.fuses := rfl
@[simp] theorem Side.onTwin_swatch (x : Side) (f : Twin → Twin) : (x.onTwin f).swatch = x.swatch := rfl
@[simp] theorem Side.onTwin_fab (x : Side) (f : Twin → Twin) : (x.onTwin f).fab = x.fab := rfl
@[simp] theorem Side.onTwin_dma (x : Side) (f : Twin → Twin) : (x.onTwin f).dma = x.dma := rfl
@[simp] theorem Side.onTwin_col (x : Side) (f : Twin → Twin) : (x.onTwin f).col = x.col := rfl

/-! ### Side.onTm -/

@[simp] theorem Side.onTm_mode (x : Side) (f : Tension → Tension) : (x.onTm f).mode = x.mode := rfl
@[simp] theorem Side.onTm_rate (x : Side) (f : Tension → Tension) : (x.onTm f).rate = x.rate := rfl
@[simp] theorem Side.onTm_regs (x : Side) (f : Tension → Tension) : (x.onTm f).regs = x.regs := rfl
@[simp] theorem Side.onTm_mem (x : Side) (f : Tension → Tension) : (x.onTm f).mem = x.mem := rfl
@[simp] theorem Side.onTm_upsets (x : Side) (f : Tension → Tension) : (x.onTm f).upsets = x.upsets := rfl
@[simp] theorem Side.onTm_row (x : Side) (f : Tension → Tension) : (x.onTm f).row = x.row := rfl
@[simp] theorem Side.onTm_counter (x : Side) (f : Tension → Tension) : (x.onTm f).counter = x.counter := rfl
@[simp] theorem Side.onTm_pulse (x : Side) (f : Tension → Tension) : (x.onTm f).pulse = x.pulse := rfl
@[simp] theorem Side.onTm_fw (x : Side) (f : Tension → Tension) : (x.onTm f).fw = x.fw := rfl
@[simp] theorem Side.onTm_cores (x : Side) (f : Tension → Tension) : (x.onTm f).cores = x.cores := rfl
@[simp] theorem Side.onTm_bankOwner (x : Side) (f : Tension → Tension) : (x.onTm f).bankOwner = x.bankOwner := rfl
@[simp] theorem Side.onTm_cross (x : Side) (f : Tension → Tension) : (x.onTm f).cross = x.cross := rfl
@[simp] theorem Side.onTm_gauge (x : Side) (f : Tension → Tension) : (x.onTm f).gauge = x.gauge := rfl
@[simp] theorem Side.onTm_pages (x : Side) (f : Tension → Tension) : (x.onTm f).pages = x.pages := rfl
@[simp] theorem Side.onTm_takes (x : Side) (f : Tension → Tension) : (x.onTm f).takes = x.takes := rfl
@[simp] theorem Side.onTm_twin (x : Side) (f : Tension → Tension) : (x.onTm f).twin = x.twin := rfl
@[simp] theorem Side.onTm_tm (x : Side) (f : Tension → Tension) : (x.onTm f).tm = f x.tm := rfl
@[simp] theorem Side.onTm_ports (x : Side) (f : Tension → Tension) : (x.onTm f).ports = x.ports := rfl
@[simp] theorem Side.onTm_net (x : Side) (f : Tension → Tension) : (x.onTm f).net = x.net := rfl
@[simp] theorem Side.onTm_shemas (x : Side) (f : Tension → Tension) : (x.onTm f).shemas = x.shemas := rfl
@[simp] theorem Side.onTm_clk (x : Side) (f : Tension → Tension) : (x.onTm f).clk = x.clk := rfl
@[simp] theorem Side.onTm_fuses (x : Side) (f : Tension → Tension) : (x.onTm f).fuses = x.fuses := rfl
@[simp] theorem Side.onTm_swatch (x : Side) (f : Tension → Tension) : (x.onTm f).swatch = x.swatch := rfl
@[simp] theorem Side.onTm_fab (x : Side) (f : Tension → Tension) : (x.onTm f).fab = x.fab := rfl
@[simp] theorem Side.onTm_dma (x : Side) (f : Tension → Tension) : (x.onTm f).dma = x.dma := rfl
@[simp] theorem Side.onTm_col (x : Side) (f : Tension → Tension) : (x.onTm f).col = x.col := rfl

/-! ### Side.onNet -/

@[simp] theorem Side.onNet_mode (x : Side) (f : Net → Net) : (x.onNet f).mode = x.mode := rfl
@[simp] theorem Side.onNet_rate (x : Side) (f : Net → Net) : (x.onNet f).rate = x.rate := rfl
@[simp] theorem Side.onNet_regs (x : Side) (f : Net → Net) : (x.onNet f).regs = x.regs := rfl
@[simp] theorem Side.onNet_mem (x : Side) (f : Net → Net) : (x.onNet f).mem = x.mem := rfl
@[simp] theorem Side.onNet_upsets (x : Side) (f : Net → Net) : (x.onNet f).upsets = x.upsets := rfl
@[simp] theorem Side.onNet_row (x : Side) (f : Net → Net) : (x.onNet f).row = x.row := rfl
@[simp] theorem Side.onNet_counter (x : Side) (f : Net → Net) : (x.onNet f).counter = x.counter := rfl
@[simp] theorem Side.onNet_pulse (x : Side) (f : Net → Net) : (x.onNet f).pulse = x.pulse := rfl
@[simp] theorem Side.onNet_fw (x : Side) (f : Net → Net) : (x.onNet f).fw = x.fw := rfl
@[simp] theorem Side.onNet_cores (x : Side) (f : Net → Net) : (x.onNet f).cores = x.cores := rfl
@[simp] theorem Side.onNet_bankOwner (x : Side) (f : Net → Net) : (x.onNet f).bankOwner = x.bankOwner := rfl
@[simp] theorem Side.onNet_cross (x : Side) (f : Net → Net) : (x.onNet f).cross = x.cross := rfl
@[simp] theorem Side.onNet_gauge (x : Side) (f : Net → Net) : (x.onNet f).gauge = x.gauge := rfl
@[simp] theorem Side.onNet_pages (x : Side) (f : Net → Net) : (x.onNet f).pages = x.pages := rfl
@[simp] theorem Side.onNet_takes (x : Side) (f : Net → Net) : (x.onNet f).takes = x.takes := rfl
@[simp] theorem Side.onNet_twin (x : Side) (f : Net → Net) : (x.onNet f).twin = x.twin := rfl
@[simp] theorem Side.onNet_tm (x : Side) (f : Net → Net) : (x.onNet f).tm = x.tm := rfl
@[simp] theorem Side.onNet_ports (x : Side) (f : Net → Net) : (x.onNet f).ports = x.ports := rfl
@[simp] theorem Side.onNet_net (x : Side) (f : Net → Net) : (x.onNet f).net = f x.net := rfl
@[simp] theorem Side.onNet_shemas (x : Side) (f : Net → Net) : (x.onNet f).shemas = x.shemas := rfl
@[simp] theorem Side.onNet_clk (x : Side) (f : Net → Net) : (x.onNet f).clk = x.clk := rfl
@[simp] theorem Side.onNet_fuses (x : Side) (f : Net → Net) : (x.onNet f).fuses = x.fuses := rfl
@[simp] theorem Side.onNet_swatch (x : Side) (f : Net → Net) : (x.onNet f).swatch = x.swatch := rfl
@[simp] theorem Side.onNet_fab (x : Side) (f : Net → Net) : (x.onNet f).fab = x.fab := rfl
@[simp] theorem Side.onNet_dma (x : Side) (f : Net → Net) : (x.onNet f).dma = x.dma := rfl
@[simp] theorem Side.onNet_col (x : Side) (f : Net → Net) : (x.onNet f).col = x.col := rfl

/-! ### Side.onShemas -/

@[simp] theorem Side.onShemas_mode (x : Side) (f : Shemas → Shemas) : (x.onShemas f).mode = x.mode := rfl
@[simp] theorem Side.onShemas_rate (x : Side) (f : Shemas → Shemas) : (x.onShemas f).rate = x.rate := rfl
@[simp] theorem Side.onShemas_regs (x : Side) (f : Shemas → Shemas) : (x.onShemas f).regs = x.regs := rfl
@[simp] theorem Side.onShemas_mem (x : Side) (f : Shemas → Shemas) : (x.onShemas f).mem = x.mem := rfl
@[simp] theorem Side.onShemas_upsets (x : Side) (f : Shemas → Shemas) : (x.onShemas f).upsets = x.upsets := rfl
@[simp] theorem Side.onShemas_row (x : Side) (f : Shemas → Shemas) : (x.onShemas f).row = x.row := rfl
@[simp] theorem Side.onShemas_counter (x : Side) (f : Shemas → Shemas) : (x.onShemas f).counter = x.counter := rfl
@[simp] theorem Side.onShemas_pulse (x : Side) (f : Shemas → Shemas) : (x.onShemas f).pulse = x.pulse := rfl
@[simp] theorem Side.onShemas_fw (x : Side) (f : Shemas → Shemas) : (x.onShemas f).fw = x.fw := rfl
@[simp] theorem Side.onShemas_cores (x : Side) (f : Shemas → Shemas) : (x.onShemas f).cores = x.cores := rfl
@[simp] theorem Side.onShemas_bankOwner (x : Side) (f : Shemas → Shemas) : (x.onShemas f).bankOwner = x.bankOwner := rfl
@[simp] theorem Side.onShemas_cross (x : Side) (f : Shemas → Shemas) : (x.onShemas f).cross = x.cross := rfl
@[simp] theorem Side.onShemas_gauge (x : Side) (f : Shemas → Shemas) : (x.onShemas f).gauge = x.gauge := rfl
@[simp] theorem Side.onShemas_pages (x : Side) (f : Shemas → Shemas) : (x.onShemas f).pages = x.pages := rfl
@[simp] theorem Side.onShemas_takes (x : Side) (f : Shemas → Shemas) : (x.onShemas f).takes = x.takes := rfl
@[simp] theorem Side.onShemas_twin (x : Side) (f : Shemas → Shemas) : (x.onShemas f).twin = x.twin := rfl
@[simp] theorem Side.onShemas_tm (x : Side) (f : Shemas → Shemas) : (x.onShemas f).tm = x.tm := rfl
@[simp] theorem Side.onShemas_ports (x : Side) (f : Shemas → Shemas) : (x.onShemas f).ports = x.ports := rfl
@[simp] theorem Side.onShemas_net (x : Side) (f : Shemas → Shemas) : (x.onShemas f).net = x.net := rfl
@[simp] theorem Side.onShemas_shemas (x : Side) (f : Shemas → Shemas) : (x.onShemas f).shemas = f x.shemas := rfl
@[simp] theorem Side.onShemas_clk (x : Side) (f : Shemas → Shemas) : (x.onShemas f).clk = x.clk := rfl
@[simp] theorem Side.onShemas_fuses (x : Side) (f : Shemas → Shemas) : (x.onShemas f).fuses = x.fuses := rfl
@[simp] theorem Side.onShemas_swatch (x : Side) (f : Shemas → Shemas) : (x.onShemas f).swatch = x.swatch := rfl
@[simp] theorem Side.onShemas_fab (x : Side) (f : Shemas → Shemas) : (x.onShemas f).fab = x.fab := rfl
@[simp] theorem Side.onShemas_dma (x : Side) (f : Shemas → Shemas) : (x.onShemas f).dma = x.dma := rfl
@[simp] theorem Side.onShemas_col (x : Side) (f : Shemas → Shemas) : (x.onShemas f).col = x.col := rfl

/-! ### Side.onClk -/

@[simp] theorem Side.onClk_mode (x : Side) (f : ClkUnit → ClkUnit) : (x.onClk f).mode = x.mode := rfl
@[simp] theorem Side.onClk_rate (x : Side) (f : ClkUnit → ClkUnit) : (x.onClk f).rate = x.rate := rfl
@[simp] theorem Side.onClk_regs (x : Side) (f : ClkUnit → ClkUnit) : (x.onClk f).regs = x.regs := rfl
@[simp] theorem Side.onClk_mem (x : Side) (f : ClkUnit → ClkUnit) : (x.onClk f).mem = x.mem := rfl
@[simp] theorem Side.onClk_upsets (x : Side) (f : ClkUnit → ClkUnit) : (x.onClk f).upsets = x.upsets := rfl
@[simp] theorem Side.onClk_row (x : Side) (f : ClkUnit → ClkUnit) : (x.onClk f).row = x.row := rfl
@[simp] theorem Side.onClk_counter (x : Side) (f : ClkUnit → ClkUnit) : (x.onClk f).counter = x.counter := rfl
@[simp] theorem Side.onClk_pulse (x : Side) (f : ClkUnit → ClkUnit) : (x.onClk f).pulse = x.pulse := rfl
@[simp] theorem Side.onClk_fw (x : Side) (f : ClkUnit → ClkUnit) : (x.onClk f).fw = x.fw := rfl
@[simp] theorem Side.onClk_cores (x : Side) (f : ClkUnit → ClkUnit) : (x.onClk f).cores = x.cores := rfl
@[simp] theorem Side.onClk_bankOwner (x : Side) (f : ClkUnit → ClkUnit) : (x.onClk f).bankOwner = x.bankOwner := rfl
@[simp] theorem Side.onClk_cross (x : Side) (f : ClkUnit → ClkUnit) : (x.onClk f).cross = x.cross := rfl
@[simp] theorem Side.onClk_gauge (x : Side) (f : ClkUnit → ClkUnit) : (x.onClk f).gauge = x.gauge := rfl
@[simp] theorem Side.onClk_pages (x : Side) (f : ClkUnit → ClkUnit) : (x.onClk f).pages = x.pages := rfl
@[simp] theorem Side.onClk_takes (x : Side) (f : ClkUnit → ClkUnit) : (x.onClk f).takes = x.takes := rfl
@[simp] theorem Side.onClk_twin (x : Side) (f : ClkUnit → ClkUnit) : (x.onClk f).twin = x.twin := rfl
@[simp] theorem Side.onClk_tm (x : Side) (f : ClkUnit → ClkUnit) : (x.onClk f).tm = x.tm := rfl
@[simp] theorem Side.onClk_ports (x : Side) (f : ClkUnit → ClkUnit) : (x.onClk f).ports = x.ports := rfl
@[simp] theorem Side.onClk_net (x : Side) (f : ClkUnit → ClkUnit) : (x.onClk f).net = x.net := rfl
@[simp] theorem Side.onClk_shemas (x : Side) (f : ClkUnit → ClkUnit) : (x.onClk f).shemas = x.shemas := rfl
@[simp] theorem Side.onClk_clk (x : Side) (f : ClkUnit → ClkUnit) : (x.onClk f).clk = f x.clk := rfl
@[simp] theorem Side.onClk_fuses (x : Side) (f : ClkUnit → ClkUnit) : (x.onClk f).fuses = x.fuses := rfl
@[simp] theorem Side.onClk_swatch (x : Side) (f : ClkUnit → ClkUnit) : (x.onClk f).swatch = x.swatch := rfl
@[simp] theorem Side.onClk_fab (x : Side) (f : ClkUnit → ClkUnit) : (x.onClk f).fab = x.fab := rfl
@[simp] theorem Side.onClk_dma (x : Side) (f : ClkUnit → ClkUnit) : (x.onClk f).dma = x.dma := rfl
@[simp] theorem Side.onClk_col (x : Side) (f : ClkUnit → ClkUnit) : (x.onClk f).col = x.col := rfl

/-! ### Side.onPorts -/

@[simp] theorem Side.onPorts_mode (x : Side) (f : Ports → Ports) : (x.onPorts f).mode = x.mode := rfl
@[simp] theorem Side.onPorts_rate (x : Side) (f : Ports → Ports) : (x.onPorts f).rate = x.rate := rfl
@[simp] theorem Side.onPorts_regs (x : Side) (f : Ports → Ports) : (x.onPorts f).regs = x.regs := rfl
@[simp] theorem Side.onPorts_mem (x : Side) (f : Ports → Ports) : (x.onPorts f).mem = x.mem := rfl
@[simp] theorem Side.onPorts_upsets (x : Side) (f : Ports → Ports) : (x.onPorts f).upsets = x.upsets := rfl
@[simp] theorem Side.onPorts_row (x : Side) (f : Ports → Ports) : (x.onPorts f).row = x.row := rfl
@[simp] theorem Side.onPorts_counter (x : Side) (f : Ports → Ports) : (x.onPorts f).counter = x.counter := rfl
@[simp] theorem Side.onPorts_pulse (x : Side) (f : Ports → Ports) : (x.onPorts f).pulse = x.pulse := rfl
@[simp] theorem Side.onPorts_fw (x : Side) (f : Ports → Ports) : (x.onPorts f).fw = x.fw := rfl
@[simp] theorem Side.onPorts_cores (x : Side) (f : Ports → Ports) : (x.onPorts f).cores = x.cores := rfl
@[simp] theorem Side.onPorts_bankOwner (x : Side) (f : Ports → Ports) : (x.onPorts f).bankOwner = x.bankOwner := rfl
@[simp] theorem Side.onPorts_cross (x : Side) (f : Ports → Ports) : (x.onPorts f).cross = x.cross := rfl
@[simp] theorem Side.onPorts_gauge (x : Side) (f : Ports → Ports) : (x.onPorts f).gauge = x.gauge := rfl
@[simp] theorem Side.onPorts_pages (x : Side) (f : Ports → Ports) : (x.onPorts f).pages = x.pages := rfl
@[simp] theorem Side.onPorts_takes (x : Side) (f : Ports → Ports) : (x.onPorts f).takes = x.takes := rfl
@[simp] theorem Side.onPorts_twin (x : Side) (f : Ports → Ports) : (x.onPorts f).twin = x.twin := rfl
@[simp] theorem Side.onPorts_tm (x : Side) (f : Ports → Ports) : (x.onPorts f).tm = x.tm := rfl
@[simp] theorem Side.onPorts_ports (x : Side) (f : Ports → Ports) : (x.onPorts f).ports = f x.ports := rfl
@[simp] theorem Side.onPorts_net (x : Side) (f : Ports → Ports) : (x.onPorts f).net = x.net := rfl
@[simp] theorem Side.onPorts_shemas (x : Side) (f : Ports → Ports) : (x.onPorts f).shemas = x.shemas := rfl
@[simp] theorem Side.onPorts_clk (x : Side) (f : Ports → Ports) : (x.onPorts f).clk = x.clk := rfl
@[simp] theorem Side.onPorts_fuses (x : Side) (f : Ports → Ports) : (x.onPorts f).fuses = x.fuses := rfl
@[simp] theorem Side.onPorts_swatch (x : Side) (f : Ports → Ports) : (x.onPorts f).swatch = x.swatch := rfl
@[simp] theorem Side.onPorts_fab (x : Side) (f : Ports → Ports) : (x.onPorts f).fab = x.fab := rfl
@[simp] theorem Side.onPorts_dma (x : Side) (f : Ports → Ports) : (x.onPorts f).dma = x.dma := rfl
@[simp] theorem Side.onPorts_col (x : Side) (f : Ports → Ports) : (x.onPorts f).col = x.col := rfl

/-! ### Side.onFw -/

@[simp] theorem Side.onFw_mode (x : Side) (f : Firmware → Firmware) : (x.onFw f).mode = x.mode := rfl
@[simp] theorem Side.onFw_rate (x : Side) (f : Firmware → Firmware) : (x.onFw f).rate = x.rate := rfl
@[simp] theorem Side.onFw_regs (x : Side) (f : Firmware → Firmware) : (x.onFw f).regs = x.regs := rfl
@[simp] theorem Side.onFw_mem (x : Side) (f : Firmware → Firmware) : (x.onFw f).mem = x.mem := rfl
@[simp] theorem Side.onFw_upsets (x : Side) (f : Firmware → Firmware) : (x.onFw f).upsets = x.upsets := rfl
@[simp] theorem Side.onFw_row (x : Side) (f : Firmware → Firmware) : (x.onFw f).row = x.row := rfl
@[simp] theorem Side.onFw_counter (x : Side) (f : Firmware → Firmware) : (x.onFw f).counter = x.counter := rfl
@[simp] theorem Side.onFw_pulse (x : Side) (f : Firmware → Firmware) : (x.onFw f).pulse = x.pulse := rfl
@[simp] theorem Side.onFw_fw (x : Side) (f : Firmware → Firmware) : (x.onFw f).fw = f x.fw := rfl
@[simp] theorem Side.onFw_cores (x : Side) (f : Firmware → Firmware) : (x.onFw f).cores = x.cores := rfl
@[simp] theorem Side.onFw_bankOwner (x : Side) (f : Firmware → Firmware) : (x.onFw f).bankOwner = x.bankOwner := rfl
@[simp] theorem Side.onFw_cross (x : Side) (f : Firmware → Firmware) : (x.onFw f).cross = x.cross := rfl
@[simp] theorem Side.onFw_gauge (x : Side) (f : Firmware → Firmware) : (x.onFw f).gauge = x.gauge := rfl
@[simp] theorem Side.onFw_pages (x : Side) (f : Firmware → Firmware) : (x.onFw f).pages = x.pages := rfl
@[simp] theorem Side.onFw_takes (x : Side) (f : Firmware → Firmware) : (x.onFw f).takes = x.takes := rfl
@[simp] theorem Side.onFw_twin (x : Side) (f : Firmware → Firmware) : (x.onFw f).twin = x.twin := rfl
@[simp] theorem Side.onFw_tm (x : Side) (f : Firmware → Firmware) : (x.onFw f).tm = x.tm := rfl
@[simp] theorem Side.onFw_ports (x : Side) (f : Firmware → Firmware) : (x.onFw f).ports = x.ports := rfl
@[simp] theorem Side.onFw_net (x : Side) (f : Firmware → Firmware) : (x.onFw f).net = x.net := rfl
@[simp] theorem Side.onFw_shemas (x : Side) (f : Firmware → Firmware) : (x.onFw f).shemas = x.shemas := rfl
@[simp] theorem Side.onFw_clk (x : Side) (f : Firmware → Firmware) : (x.onFw f).clk = x.clk := rfl
@[simp] theorem Side.onFw_fuses (x : Side) (f : Firmware → Firmware) : (x.onFw f).fuses = x.fuses := rfl
@[simp] theorem Side.onFw_swatch (x : Side) (f : Firmware → Firmware) : (x.onFw f).swatch = x.swatch := rfl
@[simp] theorem Side.onFw_fab (x : Side) (f : Firmware → Firmware) : (x.onFw f).fab = x.fab := rfl
@[simp] theorem Side.onFw_dma (x : Side) (f : Firmware → Firmware) : (x.onFw f).dma = x.dma := rfl
@[simp] theorem Side.onFw_col (x : Side) (f : Firmware → Firmware) : (x.onFw f).col = x.col := rfl

/-! ### Side.onFab -/

@[simp] theorem Side.onFab_mode (x : Side) (f : Fabric → Fabric) : (x.onFab f).mode = x.mode := rfl
@[simp] theorem Side.onFab_rate (x : Side) (f : Fabric → Fabric) : (x.onFab f).rate = x.rate := rfl
@[simp] theorem Side.onFab_regs (x : Side) (f : Fabric → Fabric) : (x.onFab f).regs = x.regs := rfl
@[simp] theorem Side.onFab_mem (x : Side) (f : Fabric → Fabric) : (x.onFab f).mem = x.mem := rfl
@[simp] theorem Side.onFab_upsets (x : Side) (f : Fabric → Fabric) : (x.onFab f).upsets = x.upsets := rfl
@[simp] theorem Side.onFab_row (x : Side) (f : Fabric → Fabric) : (x.onFab f).row = x.row := rfl
@[simp] theorem Side.onFab_counter (x : Side) (f : Fabric → Fabric) : (x.onFab f).counter = x.counter := rfl
@[simp] theorem Side.onFab_pulse (x : Side) (f : Fabric → Fabric) : (x.onFab f).pulse = x.pulse := rfl
@[simp] theorem Side.onFab_fw (x : Side) (f : Fabric → Fabric) : (x.onFab f).fw = x.fw := rfl
@[simp] theorem Side.onFab_cores (x : Side) (f : Fabric → Fabric) : (x.onFab f).cores = x.cores := rfl
@[simp] theorem Side.onFab_bankOwner (x : Side) (f : Fabric → Fabric) : (x.onFab f).bankOwner = x.bankOwner := rfl
@[simp] theorem Side.onFab_cross (x : Side) (f : Fabric → Fabric) : (x.onFab f).cross = x.cross := rfl
@[simp] theorem Side.onFab_gauge (x : Side) (f : Fabric → Fabric) : (x.onFab f).gauge = x.gauge := rfl
@[simp] theorem Side.onFab_pages (x : Side) (f : Fabric → Fabric) : (x.onFab f).pages = x.pages := rfl
@[simp] theorem Side.onFab_takes (x : Side) (f : Fabric → Fabric) : (x.onFab f).takes = x.takes := rfl
@[simp] theorem Side.onFab_twin (x : Side) (f : Fabric → Fabric) : (x.onFab f).twin = x.twin := rfl
@[simp] theorem Side.onFab_tm (x : Side) (f : Fabric → Fabric) : (x.onFab f).tm = x.tm := rfl
@[simp] theorem Side.onFab_ports (x : Side) (f : Fabric → Fabric) : (x.onFab f).ports = x.ports := rfl
@[simp] theorem Side.onFab_net (x : Side) (f : Fabric → Fabric) : (x.onFab f).net = x.net := rfl
@[simp] theorem Side.onFab_shemas (x : Side) (f : Fabric → Fabric) : (x.onFab f).shemas = x.shemas := rfl
@[simp] theorem Side.onFab_clk (x : Side) (f : Fabric → Fabric) : (x.onFab f).clk = x.clk := rfl
@[simp] theorem Side.onFab_fuses (x : Side) (f : Fabric → Fabric) : (x.onFab f).fuses = x.fuses := rfl
@[simp] theorem Side.onFab_swatch (x : Side) (f : Fabric → Fabric) : (x.onFab f).swatch = x.swatch := rfl
@[simp] theorem Side.onFab_fab (x : Side) (f : Fabric → Fabric) : (x.onFab f).fab = f x.fab := rfl
@[simp] theorem Side.onFab_dma (x : Side) (f : Fabric → Fabric) : (x.onFab f).dma = x.dma := rfl
@[simp] theorem Side.onFab_col (x : Side) (f : Fabric → Fabric) : (x.onFab f).col = x.col := rfl

/-! ### Side.setCore -/

@[simp] theorem Side.setCore_mode (x : Side) (k : Fin 32) (c : Core) : (x.setCore k c).mode = x.mode := rfl
@[simp] theorem Side.setCore_rate (x : Side) (k : Fin 32) (c : Core) : (x.setCore k c).rate = x.rate := rfl
@[simp] theorem Side.setCore_regs (x : Side) (k : Fin 32) (c : Core) : (x.setCore k c).regs = x.regs := rfl
@[simp] theorem Side.setCore_mem (x : Side) (k : Fin 32) (c : Core) : (x.setCore k c).mem = x.mem := rfl
@[simp] theorem Side.setCore_upsets (x : Side) (k : Fin 32) (c : Core) : (x.setCore k c).upsets = x.upsets := rfl
@[simp] theorem Side.setCore_row (x : Side) (k : Fin 32) (c : Core) : (x.setCore k c).row = x.row := rfl
@[simp] theorem Side.setCore_counter (x : Side) (k : Fin 32) (c : Core) : (x.setCore k c).counter = x.counter := rfl
@[simp] theorem Side.setCore_pulse (x : Side) (k : Fin 32) (c : Core) : (x.setCore k c).pulse = x.pulse := rfl
@[simp] theorem Side.setCore_fw (x : Side) (k : Fin 32) (c : Core) : (x.setCore k c).fw = x.fw := rfl
@[simp] theorem Side.setCore_cores (x : Side) (k : Fin 32) (c : Core) : (x.setCore k c).cores = x.cores.set k c := rfl
@[simp] theorem Side.setCore_bankOwner (x : Side) (k : Fin 32) (c : Core) : (x.setCore k c).bankOwner = x.bankOwner := rfl
@[simp] theorem Side.setCore_cross (x : Side) (k : Fin 32) (c : Core) : (x.setCore k c).cross = x.cross := rfl
@[simp] theorem Side.setCore_gauge (x : Side) (k : Fin 32) (c : Core) : (x.setCore k c).gauge = x.gauge := rfl
@[simp] theorem Side.setCore_pages (x : Side) (k : Fin 32) (c : Core) : (x.setCore k c).pages = x.pages := rfl
@[simp] theorem Side.setCore_takes (x : Side) (k : Fin 32) (c : Core) : (x.setCore k c).takes = x.takes := rfl
@[simp] theorem Side.setCore_twin (x : Side) (k : Fin 32) (c : Core) : (x.setCore k c).twin = x.twin := rfl
@[simp] theorem Side.setCore_tm (x : Side) (k : Fin 32) (c : Core) : (x.setCore k c).tm = x.tm := rfl
@[simp] theorem Side.setCore_ports (x : Side) (k : Fin 32) (c : Core) : (x.setCore k c).ports = x.ports := rfl
@[simp] theorem Side.setCore_net (x : Side) (k : Fin 32) (c : Core) : (x.setCore k c).net = x.net := rfl
@[simp] theorem Side.setCore_shemas (x : Side) (k : Fin 32) (c : Core) : (x.setCore k c).shemas = x.shemas := rfl
@[simp] theorem Side.setCore_clk (x : Side) (k : Fin 32) (c : Core) : (x.setCore k c).clk = x.clk := rfl
@[simp] theorem Side.setCore_fuses (x : Side) (k : Fin 32) (c : Core) : (x.setCore k c).fuses = x.fuses := rfl
@[simp] theorem Side.setCore_swatch (x : Side) (k : Fin 32) (c : Core) : (x.setCore k c).swatch = x.swatch := rfl
@[simp] theorem Side.setCore_fab (x : Side) (k : Fin 32) (c : Core) : (x.setCore k c).fab = x.fab := rfl
@[simp] theorem Side.setCore_dma (x : Side) (k : Fin 32) (c : Core) : (x.setCore k c).dma = x.dma := rfl
@[simp] theorem Side.setCore_col (x : Side) (k : Fin 32) (c : Core) : (x.setCore k c).col = x.col := rfl

/-! ### Side.onDma -/

@[simp] theorem Side.onDma_mode (x : Side) (f : Dma → Dma) : (x.onDma f).mode = x.mode := rfl
@[simp] theorem Side.onDma_rate (x : Side) (f : Dma → Dma) : (x.onDma f).rate = x.rate := rfl
@[simp] theorem Side.onDma_regs (x : Side) (f : Dma → Dma) : (x.onDma f).regs = x.regs := rfl
@[simp] theorem Side.onDma_mem (x : Side) (f : Dma → Dma) : (x.onDma f).mem = x.mem := rfl
@[simp] theorem Side.onDma_upsets (x : Side) (f : Dma → Dma) : (x.onDma f).upsets = x.upsets := rfl
@[simp] theorem Side.onDma_row (x : Side) (f : Dma → Dma) : (x.onDma f).row = x.row := rfl
@[simp] theorem Side.onDma_counter (x : Side) (f : Dma → Dma) : (x.onDma f).counter = x.counter := rfl
@[simp] theorem Side.onDma_pulse (x : Side) (f : Dma → Dma) : (x.onDma f).pulse = x.pulse := rfl
@[simp] theorem Side.onDma_fw (x : Side) (f : Dma → Dma) : (x.onDma f).fw = x.fw := rfl
@[simp] theorem Side.onDma_cores (x : Side) (f : Dma → Dma) : (x.onDma f).cores = x.cores := rfl
@[simp] theorem Side.onDma_bankOwner (x : Side) (f : Dma → Dma) : (x.onDma f).bankOwner = x.bankOwner := rfl
@[simp] theorem Side.onDma_cross (x : Side) (f : Dma → Dma) : (x.onDma f).cross = x.cross := rfl
@[simp] theorem Side.onDma_gauge (x : Side) (f : Dma → Dma) : (x.onDma f).gauge = x.gauge := rfl
@[simp] theorem Side.onDma_pages (x : Side) (f : Dma → Dma) : (x.onDma f).pages = x.pages := rfl
@[simp] theorem Side.onDma_takes (x : Side) (f : Dma → Dma) : (x.onDma f).takes = x.takes := rfl
@[simp] theorem Side.onDma_twin (x : Side) (f : Dma → Dma) : (x.onDma f).twin = x.twin := rfl
@[simp] theorem Side.onDma_tm (x : Side) (f : Dma → Dma) : (x.onDma f).tm = x.tm := rfl
@[simp] theorem Side.onDma_ports (x : Side) (f : Dma → Dma) : (x.onDma f).ports = x.ports := rfl
@[simp] theorem Side.onDma_net (x : Side) (f : Dma → Dma) : (x.onDma f).net = x.net := rfl
@[simp] theorem Side.onDma_shemas (x : Side) (f : Dma → Dma) : (x.onDma f).shemas = x.shemas := rfl
@[simp] theorem Side.onDma_clk (x : Side) (f : Dma → Dma) : (x.onDma f).clk = x.clk := rfl
@[simp] theorem Side.onDma_fuses (x : Side) (f : Dma → Dma) : (x.onDma f).fuses = x.fuses := rfl
@[simp] theorem Side.onDma_swatch (x : Side) (f : Dma → Dma) : (x.onDma f).swatch = x.swatch := rfl
@[simp] theorem Side.onDma_fab (x : Side) (f : Dma → Dma) : (x.onDma f).fab = x.fab := rfl
@[simp] theorem Side.onDma_dma (x : Side) (f : Dma → Dma) : (x.onDma f).dma = f x.dma := rfl
@[simp] theorem Side.onDma_col (x : Side) (f : Dma → Dma) : (x.onDma f).col = x.col := rfl

/-! ### Side.raise -/

@[simp] theorem Side.raise_mode (x : Side) (c u : Nat) (l : List Byte) : (x.raise c u l).mode = x.mode := by unfold Side.raise; split <;> rfl
@[simp] theorem Side.raise_rate (x : Side) (c u : Nat) (l : List Byte) : (x.raise c u l).rate = x.rate := by unfold Side.raise; split <;> rfl
@[simp] theorem Side.raise_regs (x : Side) (c u : Nat) (l : List Byte) : (x.raise c u l).regs = x.regs := by unfold Side.raise; split <;> rfl
@[simp] theorem Side.raise_mem (x : Side) (c u : Nat) (l : List Byte) : (x.raise c u l).mem = x.mem := by unfold Side.raise; split <;> rfl
@[simp] theorem Side.raise_upsets (x : Side) (c u : Nat) (l : List Byte) : (x.raise c u l).upsets = x.upsets := by unfold Side.raise; split <;> rfl
@[simp] theorem Side.raise_row (x : Side) (c u : Nat) (l : List Byte) : (x.raise c u l).row = x.row := by unfold Side.raise; split <;> rfl
@[simp] theorem Side.raise_counter (x : Side) (c u : Nat) (l : List Byte) : (x.raise c u l).counter = x.counter := by unfold Side.raise; split <;> rfl
@[simp] theorem Side.raise_pulse (x : Side) (c u : Nat) (l : List Byte) : (x.raise c u l).pulse = x.pulse := by unfold Side.raise; split <;> rfl
@[simp] theorem Side.raise_cores (x : Side) (c u : Nat) (l : List Byte) : (x.raise c u l).cores = x.cores := by unfold Side.raise; split <;> rfl
@[simp] theorem Side.raise_bankOwner (x : Side) (c u : Nat) (l : List Byte) : (x.raise c u l).bankOwner = x.bankOwner := by unfold Side.raise; split <;> rfl
@[simp] theorem Side.raise_cross (x : Side) (c u : Nat) (l : List Byte) : (x.raise c u l).cross = x.cross := by unfold Side.raise; split <;> rfl
@[simp] theorem Side.raise_gauge (x : Side) (c u : Nat) (l : List Byte) : (x.raise c u l).gauge = x.gauge := by unfold Side.raise; split <;> rfl
@[simp] theorem Side.raise_pages (x : Side) (c u : Nat) (l : List Byte) : (x.raise c u l).pages = x.pages := by unfold Side.raise; split <;> rfl
@[simp] theorem Side.raise_takes (x : Side) (c u : Nat) (l : List Byte) : (x.raise c u l).takes = x.takes := by unfold Side.raise; split <;> rfl
@[simp] theorem Side.raise_twin (x : Side) (c u : Nat) (l : List Byte) : (x.raise c u l).twin = x.twin := by unfold Side.raise; split <;> rfl
@[simp] theorem Side.raise_tm (x : Side) (c u : Nat) (l : List Byte) : (x.raise c u l).tm = x.tm := by unfold Side.raise; split <;> rfl
@[simp] theorem Side.raise_ports (x : Side) (c u : Nat) (l : List Byte) : (x.raise c u l).ports = x.ports := by unfold Side.raise; split <;> rfl
@[simp] theorem Side.raise_net (x : Side) (c u : Nat) (l : List Byte) : (x.raise c u l).net = x.net := by unfold Side.raise; split <;> rfl
@[simp] theorem Side.raise_shemas (x : Side) (c u : Nat) (l : List Byte) : (x.raise c u l).shemas = x.shemas := by unfold Side.raise; split <;> rfl
@[simp] theorem Side.raise_clk (x : Side) (c u : Nat) (l : List Byte) : (x.raise c u l).clk = x.clk := by unfold Side.raise; split <;> rfl
@[simp] theorem Side.raise_fuses (x : Side) (c u : Nat) (l : List Byte) : (x.raise c u l).fuses = x.fuses := by unfold Side.raise; split <;> rfl
@[simp] theorem Side.raise_swatch (x : Side) (c u : Nat) (l : List Byte) : (x.raise c u l).swatch = x.swatch := by unfold Side.raise; split <;> rfl
@[simp] theorem Side.raise_fab (x : Side) (c u : Nat) (l : List Byte) : (x.raise c u l).fab = x.fab := by unfold Side.raise; split <;> rfl
@[simp] theorem Side.raise_dma (x : Side) (c u : Nat) (l : List Byte) : (x.raise c u l).dma = x.dma := by unfold Side.raise; split <;> rfl
@[simp] theorem Side.raise_col (x : Side) (c u : Nat) (l : List Byte) : (x.raise c u l).col = x.col := by unfold Side.raise; split <;> rfl

/-! ### HostRegion.set -/

@[simp] theorem HostRegion.set_held (h : HostRegion) (f : Fld) (v : Nat) : (h.set f v).held = h.held := rfl
@[simp] theorem HostRegion.set_regs (h : HostRegion) (f : Fld) (v : Nat) : (h.set f v).regs = Regs.set h.regs f v := rfl
@[simp] theorem HostRegion.set_ram (h : HostRegion) (f : Fld) (v : Nat) : (h.set f v).ram = h.ram := rfl
@[simp] theorem HostRegion.set_tags (h : HostRegion) (f : Fld) (v : Nat) : (h.set f v).tags = h.tags := rfl
@[simp] theorem HostRegion.set_col (h : HostRegion) (f : Fld) (v : Nat) : (h.set f v).col = h.col := rfl
@[simp] theorem HostRegion.set_relay (h : HostRegion) (f : Fld) (v : Nat) : (h.set f v).relay = h.relay := rfl
@[simp] theorem HostRegion.set_spi (h : HostRegion) (f : Fld) (v : Nat) : (h.set f v).spi = h.spi := rfl
@[simp] theorem HostRegion.set_d3hot (h : HostRegion) (f : Fld) (v : Nat) : (h.set f v).d3hot = h.d3hot := rfl
@[simp] theorem HostRegion.set_lastRead (h : HostRegion) (f : Fld) (v : Nat) : (h.set f v).lastRead = h.lastRead := rfl
@[simp] theorem HostRegion.set_lastStatus (h : HostRegion) (f : Fld) (v : Nat) : (h.set f v).lastStatus = h.lastStatus := rfl
@[simp] theorem HostRegion.set_msis (h : HostRegion) (f : Fld) (v : Nat) : (h.set f v).msis = h.msis := rfl
@[simp] theorem HostRegion.set_msgId (h : HostRegion) (f : Fld) (v : Nat) : (h.set f v).msgId = h.msgId := rfl
@[simp] theorem HostRegion.set_seenMsgs (h : HostRegion) (f : Fld) (v : Nat) : (h.set f v).seenMsgs = h.seenMsgs := rfl
@[simp] theorem HostRegion.set_flashDrop (h : HostRegion) (f : Fld) (v : Nat) : (h.set f v).flashDrop = h.flashDrop := rfl
@[simp] theorem HostRegion.set_memWrite (h : HostRegion) (f : Fld) (v : Nat) : (h.set f v).memWrite = h.memWrite := rfl

/-! ### Registers -/

theorem Regs.get_lt (m : Regs) (f : Fld) : Regs.get m f < 2 ^ f.len := Nat.mod_lt _ (Nat.two_pow_pos _)

theorem Regs.get_set_same (m : Regs) (f : Fld) (v : Nat) : Regs.get (Regs.set m f v) f = v % 2 ^ f.len := by
  simp [Regs.get, Regs.set, Sparse.get_set_same]

theorem Regs.get_set (m : Regs) (f g : Fld) (v : Nat) :
    Regs.get (Regs.set m f v) g = if g.key = f.key then v % 2 ^ f.len % 2 ^ g.len else Regs.get m g := by
  simp only [Regs.get, Regs.set, Sparse.get_set]; split <;> rfl

theorem Regs.get_set_other (m : Regs) {f g : Fld} (v : Nat) (h : g.key ≠ f.key) : Regs.get (Regs.set m f v) g = Regs.get m g := by
  simp [Regs.get_set, h]

/-- A field's value is below what its length bounds. -/
theorem Side.get_lt (x : Side) (f : Fld) : x.get f < 2 ^ f.len := Regs.get_lt _ _
theorem HostRegion.get_lt (h : HostRegion) (f : Fld) : h.get f < 2 ^ f.len := Regs.get_lt _ _

/-- A read of a field after a write of it. -/
@[simp] theorem Side.get_set_same (x : Side) (f : Fld) (v : Nat) : (x.set f v).get f = v % 2 ^ f.len := Regs.get_set_same _ _ _

/-- A write of a field leaves the fields at other places. -/
theorem Side.get_set_other (x : Side) {f g : Fld} (v : Nat) (h : g.key ≠ f.key) : (x.set f v).get g = x.get g := Regs.get_set_other _ _ h

theorem Side.get_set (x : Side) (f g : Fld) (v : Nat) : (x.set f v).get g = if g.key = f.key then v % 2 ^ f.len % 2 ^ g.len else x.get g :=
  Regs.get_set _ _ _ _

theorem HostRegion.get_set (x : HostRegion) (f g : Fld) (v : Nat) :
    (x.set f v).get g = if g.key = f.key then v % 2 ^ f.len % 2 ^ g.len else x.get g := Regs.get_set _ _ _ _

/-- A read of a field of the host region after a write of it. -/
@[simp] theorem HostRegion.get_set_same (x : HostRegion) (f : Fld) (v : Nat) : (x.set f v).get f = v % 2 ^ f.len := Regs.get_set_same _ _ _

theorem HostRegion.get_set_other (x : HostRegion) {f g : Fld} (v : Nat) (h : g.key ≠ f.key) : (x.set f v).get g = x.get g :=
  Regs.get_set_other _ _ h

/-- A field reads the same while the registers do. -/
theorem Side.get_of_regs {x y : Side} (f : Fld) (h : x.regs = y.regs) : x.get f = y.get f := by simp only [Side.get, h]

@[simp] theorem Side.putByte_get (x : Side) (a : Nat) (v : Byte) (f : Fld) : (x.putByte a v).get f = x.get f := rfl
@[simp] theorem Side.setUpset_get (x : Side) (a v : Nat) (f : Fld) : (x.setUpset a v).get f = x.get f := rfl
@[simp] theorem Side.onTwin_get (x : Side) (g : Twin → Twin) (f : Fld) : (x.onTwin g).get f = x.get f := rfl
@[simp] theorem Side.onTm_get (x : Side) (g : Tension → Tension) (f : Fld) : (x.onTm g).get f = x.get f := rfl
@[simp] theorem Side.onNet_get (x : Side) (g : Net → Net) (f : Fld) : (x.onNet g).get f = x.get f := rfl
@[simp] theorem Side.onShemas_get (x : Side) (g : Shemas → Shemas) (f : Fld) : (x.onShemas g).get f = x.get f := rfl
@[simp] theorem Side.onDma_get (x : Side) (g : Dma → Dma) (f : Fld) : (x.onDma g).get f = x.get f := rfl
@[simp] theorem Side.raise_get (x : Side) (c u : Nat) (l : List Byte) (f : Fld) : (x.raise c u l).get f = x.get f := by
  simp only [Side.get, Side.raise_regs]

/-- A write of a field keeps the registers canonical. -/
theorem Regs.wf_set (m : Regs) (f : Fld) (v : Nat) (h : Sparse.wf resetOf m = true) : Sparse.wf resetOf (Regs.set m f v) = true :=
  Sparse.wf_set _ _ _ _ h

/-! ### Memory -/

/-- A read of a byte after a write of it. -/
@[simp] theorem Side.byte_putByte_same (x : Side) (a : Nat) (v : Byte) : (x.putByte a v).byte a = v := Sparse.get_set_same _ _ _ _

/-- A write of a byte leaves every other byte. -/
theorem Side.byte_putByte_other (x : Side) {a b : Nat} (v : Byte) (h : b ≠ a) : (x.putByte a v).byte b = x.byte b :=
  Sparse.get_set_other _ _ _ h

@[simp] theorem Side.set_byte (x : Side) (f : Fld) (v a : Nat) : (x.set f v).byte a = x.byte a := rfl
@[simp] theorem Side.setUpset_byte (x : Side) (a v b : Nat) : (x.setUpset a v).byte b = x.byte b := rfl
@[simp] theorem Side.raise_byte (x : Side) (c u : Nat) (l : List Byte) (a : Nat) : (x.raise c u l).byte a = x.byte a := by
  simp only [Side.byte, Side.raise_mem]

/-! ### The canonical form of memory -/

/-- The canonical form of a Side's memory (log entry 3). -/
abbrev Memory.wf (m : List Host.Cell) : Bool := Sparse.wf memDefault m

theorem Side.putByte_wf (x : Side) (a : Nat) (v : Byte) (h : Memory.wf x.mem = true) : Memory.wf (x.putByte a v).mem = true :=
  Sparse.wf_set _ _ _ _ h

theorem Side.putBytes_wf (l : List Byte) : ∀ (x : Side) (a : Nat), Memory.wf x.mem = true → Memory.wf (x.putBytes a l).mem = true := by
  induction l with
  | nil => intro x a h; exact h
  | cons b l ih => intro x a h; exact ih _ _ (Side.putByte_wf x a b h)

theorem Side.recordEcc_mem (x : Side) (b a : Nat) (d : Bool) : (x.recordEcc b a d).mem = x.mem := by
  unfold Side.recordEcc
  simp only []
  split
  · split <;> simp
  · simp

theorem Side.eccTouch_mem (x : Side) (a : Nat) : (x.eccTouch a).mem = x.mem := by
  unfold Side.eccTouch
  split <;> simp [Side.recordEcc_mem, Side.incSat]

theorem Side.mergeUpset_wf (x : Side) (a : Nat) (h : Memory.wf x.mem = true) : Memory.wf (x.mergeUpset a).mem = true := by
  unfold Side.mergeUpset
  split
  · exact h
  · rw [Side.eccTouch_mem]; exact h
  · rw [Side.setUpset_mem]; apply Side.putBytes_wf; rw [Side.eccTouch_mem]; exact h

theorem Side.putWord_wf (x : Side) (a : Nat) (w : BitVec 32) (h : Memory.wf x.mem = true) : Memory.wf (x.putWord a w).mem = true :=
  Side.putByte_wf _ _ _ (Side.putByte_wf _ _ _ (Side.putByte_wf _ _ _ (Side.putByte_wf _ _ _ (Side.mergeUpset_wf x a h))))

theorem State.reset_memory_wf (sd : SideId) : Memory.wf (State.reset.side sd).mem = true := by cases sd <;> rfl

/-! ### What the host Collector's following leaves -/

theorem HostRegion.input_bare (h : HostRegion) (k r f : Nat) (l : Bool) (c : Collector) : (h.input k r f l).bare c = h.bare c := by
  unfold HostRegion.input
  split <;> rfl

theorem State.followed_bare (s old : State) (c : Collector) : (s.followed old).bare c = s.host.bare c := by
  have fold : ∀ (l : List Nat) (h : HostRegion), (l.foldl (fun (h : HostRegion) k =>
      if (h.col.src true k).raw = s.colLevel k then h else h.input k (s.colLevel k).toNat (!s.colLevel k).toNat (s.colLevel k)) h).bare c
        = h.bare c := by
    intro l
    induction l with
    | nil => intro h; rfl
    | cons k l ih =>
      intro h
      rw [List.foldl_cons, ih]
      split
      · rfl
      · exact HostRegion.input_bare h _ _ _ _ c
  have copy : ∀ (h : HostRegion) (k : Nat) (a b : Mode), (if a = b then h else h.pulse k).bare c = h.bare c := by
    intro h k a b
    split
    · rfl
    · exact HostRegion.input_bare h _ _ _ _ c
  unfold State.followed
  simp only [fold, copy]

@[simp] theorem State.settle_side (s old : State) (sd : SideId) : (s.settle old).side sd = s.side sd := by
  unfold State.settle; generalize s.followed old = h; cases sd <;> rfl
@[simp] theorem State.settle_host (s old : State) : (s.settle old).host = s.followed old := by
  unfold State.settle; generalize s.followed old = h; rfl
@[simp] theorem State.settle_side0 (s old : State) : (s.settle old).side0 = s.side0 := by
  unfold State.settle; generalize s.followed old = h; rfl
@[simp] theorem State.settle_side1 (s old : State) : (s.settle old).side1 = s.side1 := by
  unfold State.settle; generalize s.followed old = h; rfl
@[simp] theorem State.settle_pending (s old : State) : (s.settle old).pending = s.pending := by
  unfold State.settle; generalize s.followed old = h; rfl
@[simp] theorem State.settle_fresh (s old : State) : (s.settle old).fresh = s.fresh := by
  unfold State.settle; generalize s.followed old = h; rfl

@[simp] theorem State.followed_held (s old : State) : (s.followed old).held = s.host.held := by
  have h := congrArg HostRegion.held (State.followed_bare s old s.host.col)
  generalize s.followed old = g at h ⊢
  exact h
@[simp] theorem State.followed_regs (s old : State) : (s.followed old).regs = s.host.regs := by
  have h := congrArg HostRegion.regs (State.followed_bare s old s.host.col)
  generalize s.followed old = g at h ⊢
  exact h
@[simp] theorem State.followed_ram (s old : State) : (s.followed old).ram = s.host.ram := by
  have h := congrArg HostRegion.ram (State.followed_bare s old s.host.col)
  generalize s.followed old = g at h ⊢
  exact h
@[simp] theorem State.followed_tags (s old : State) : (s.followed old).tags = s.host.tags := by
  have h := congrArg HostRegion.tags (State.followed_bare s old s.host.col)
  generalize s.followed old = g at h ⊢
  exact h
@[simp] theorem State.followed_relay (s old : State) : (s.followed old).relay = s.host.relay := by
  have h := congrArg HostRegion.relay (State.followed_bare s old s.host.col)
  generalize s.followed old = g at h ⊢
  exact h
@[simp] theorem State.followed_spi (s old : State) : (s.followed old).spi = s.host.spi := by
  have h := congrArg HostRegion.spi (State.followed_bare s old s.host.col)
  generalize s.followed old = g at h ⊢
  exact h
@[simp] theorem State.followed_d3hot (s old : State) : (s.followed old).d3hot = s.host.d3hot := by
  have h := congrArg HostRegion.d3hot (State.followed_bare s old s.host.col)
  generalize s.followed old = g at h ⊢
  exact h
@[simp] theorem State.followed_lastRead (s old : State) : (s.followed old).lastRead = s.host.lastRead := by
  have h := congrArg HostRegion.lastRead (State.followed_bare s old s.host.col)
  generalize s.followed old = g at h ⊢
  exact h
@[simp] theorem State.followed_lastStatus (s old : State) : (s.followed old).lastStatus = s.host.lastStatus := by
  have h := congrArg HostRegion.lastStatus (State.followed_bare s old s.host.col)
  generalize s.followed old = g at h ⊢
  exact h
@[simp] theorem State.followed_msgId (s old : State) : (s.followed old).msgId = s.host.msgId := by
  have h := congrArg HostRegion.msgId (State.followed_bare s old s.host.col)
  generalize s.followed old = g at h ⊢
  exact h
@[simp] theorem State.followed_seenMsgs (s old : State) : (s.followed old).seenMsgs = s.host.seenMsgs := by
  have h := congrArg HostRegion.seenMsgs (State.followed_bare s old s.host.col)
  generalize s.followed old = g at h ⊢
  exact h
@[simp] theorem State.followed_flashDrop (s old : State) : (s.followed old).flashDrop = s.host.flashDrop := by
  have h := congrArg HostRegion.flashDrop (State.followed_bare s old s.host.col)
  generalize s.followed old = g at h ⊢
  exact h
@[simp] theorem State.followed_memWrite (s old : State) : (s.followed old).memWrite = s.host.memWrite := by
  have h := congrArg HostRegion.memWrite (State.followed_bare s old s.host.col)
  generalize s.followed old = g at h ⊢
  exact h
@[simp] theorem State.followed_get (s old : State) (f : Fld) : (s.followed old).get f = s.host.get f := by
  simp only [HostRegion.get, State.followed_regs]

end Sys2Proof.Machine
end

