-- ==== Sys2Proof/Laws/Claims.lean ====
section
/-!
SUPPORT. What `State.go` and `State.answer` give, in the terms of Safety.lean: a command that changes one Side completes with everything
outside it as it was.
-/
namespace Sys2Proof.Machine

open Sys2Proof

/-- A command that changes Side `sd` by `f` completes, and leaves everything outside it. -/
theorem Completes.of_go {s : State} {sd : SideId} {c : Instr} {P : Side → Prop} (f : Side → Side) (h : exec c s = s.go sd f)
    (hp : P (f (s.side sd))) : Completes s sd c P := by
  refine ⟨_, h, ⟨?_, ?_, ?_⟩, ?_⟩
  · simp
  · simp [HostKept, State.followed_bare]
  · simp
  · simpa using hp

/-- The same where the command first reads something of the state (a free choice, say). -/
theorem Completes.of_answer {s u : State} {sd : SideId} {c : Instr} {P : Side → Prop} (h : exec c s = s.answer u)
    (ho : u.side sd.other = s.side sd.other) (hh : u.host = s.host) (hq : u.pending = s.pending) (hp : P (u.side sd)) :
    Completes s sd c P := by
  refine ⟨_, h, ⟨?_, ?_, ?_⟩, ?_⟩
  · simpa using ho
  · simp [HostKept, State.followed_bare, hh]
  · simpa using hq
  · simpa using hp

end Sys2Proof.Machine
end

