-- ==== Sys2Proof/Laws/Collector.lean ====
section
/-!
SUPPORT. Laws of the Collectors: what an input leaves of a source, and that the host Collector's level sources stand at their conditions
once it has followed a change of the state.
-/
namespace Sys2Proof.Machine

open Sys2Proof

theorem Collector.src_put (c : Collector) (h : Bool) (k j : Nat) (x : ColSrc) : (c.put h k x).src h j = if j = k then x else c.src h j := by
  simp only [Collector.put, Collector.src, Sparse.get_set]

theorem ColSrc.trigger_raw (x : ColSrc) (n : Nat) : (x.trigger n).raw = x.raw := by
  unfold ColSrc.trigger; simp only; split; rfl; split <;> (try split) <;> (try split) <;> rfl

theorem ColSrc.input_raw (x : ColSrc) (r f : Nat) (l : Bool) : (x.input r f l).raw = l := by
  unfold ColSrc.input
  simp only
  generalize (if x.sense = 2 then r else if x.sense = 3 then f else if x.sense = 4 then r + f else 0) = n
  split
  · split
    · rw [ColSrc.trigger_raw]
    · rfl
  · split
    · rfl
    · rw [ColSrc.trigger_raw]

theorem HostRegion.input_raw (h : HostRegion) (k j r f : Nat) (l : Bool) (hh : h.held = false) :
    ((h.input k r f l).col.src true j).raw = if j = k then l else (h.col.src true j).raw := by
  unfold HostRegion.input
  rw [hh]; simp only [Bool.false_eq_true, if_false, HostRegion.updateReq, Collector.input]
  show ((h.col.put true k _).src true j).raw = _
  rw [Collector.src_put]; split
  · rw [ColSrc.input_raw]
  · rfl

theorem HostRegion.input_held (h : HostRegion) (k r f : Nat) (l : Bool) : (h.input k r f l).held = h.held := by
  unfold HostRegion.input; split <;> rfl
theorem HostRegion.input_errors (h : HostRegion) (k r f : Nat) (l : Bool) : (h.input k r f l).col.stackErr = h.col.stackErr ∧ (h.input k r f l).col.eoiMismatch = h.col.eoiMismatch := by
  unfold HostRegion.input; split <;> exact ⟨rfl, rfl⟩

theorem State.follow_raw (lv : Nat → Bool) (l : List Nat) : ∀ (h : HostRegion), h.held = false →
    ∀ k, (k ∈ l ∨ (h.col.src true k).raw = lv k) → ((l.foldl (fun (h : HostRegion) k =>
      if (h.col.src true k).raw = lv k then h else h.input k (lv k).toNat (!lv k).toNat (lv k)) h).col.src true k).raw = lv k := by
  induction l with
  | nil => intro h _ k hk; simpa using hk
  | cons a l ih =>
    intro h hh k hk
    rw [List.foldl_cons]
    split
    · rename_i he
      apply ih _ hh
      rcases hk with hk | hk
      · rcases List.mem_cons.mp hk with rfl | hk
        · right; exact he
        · left; exact hk
      · right; exact hk
    · apply ih _ (by rw [HostRegion.input_held]; exact hh)
      by_cases hka : k = a
      · right; rw [HostRegion.input_raw _ _ _ _ _ _ hh, hka]; simp
      · rcases hk with hk | hk
        · left; exact (List.mem_cons.mp hk).resolve_left hka
        · right; rw [HostRegion.input_raw _ _ _ _ _ _ hh]; simp [hka, hk]

theorem State.follow_errors (lv : Nat → Bool) (l : List Nat) : ∀ (h : HostRegion), 
   (l.foldl (fun (h : HostRegion) k =>
      if (h.col.src true k).raw = lv k then h else h.input k (lv k).toNat (!lv k).toNat (lv k)) h).col.stackErr = h.col.stackErr ∧ 
   (l.foldl (fun (h : HostRegion) k =>
      if (h.col.src true k).raw = lv k then h else h.input k (lv k).toNat (!lv k).toNat (lv k)) h).col.eoiMismatch = h.col.eoiMismatch := by
  induction l with
  | nil => intro h; exact ⟨rfl, rfl⟩
  | cons a l ih => 
    intro h; rw [List.foldl_cons]; split
    · exact ih _
    · have := ih (h.input a (lv a).toNat (!lv a).toNat (lv a)); rw [(HostRegion.input_errors ..).1, (HostRegion.input_errors ..).2] at this; exact this

theorem HostRegion.copy_held (h : HostRegion) (k : Nat) (a b : Mode) : (if a = b then h else h.pulse k).held = h.held := by
  split; rfl; exact HostRegion.input_held ..

theorem State.colLevel_congr (s u : State) (h0 : s.side0.mode = u.side0.mode) (h1 : s.side1.mode = u.side1.mode) (hr : s.host.regs = u.host.regs)
   (he : s.host.col.stackErr = u.host.col.stackErr) (hm : s.host.col.eoiMismatch = u.host.col.eoiMismatch) (k : Nat) : s.colLevel k = u.colLevel k := by
  unfold State.colLevel HostRegion.flag HostRegion.get
  simp only [h0, h1, hr, he, hm]

theorem HostRegion.copy_errors (h : HostRegion) (k : Nat) (a b : Mode) : (if a = b then h else h.pulse k).col.stackErr = h.col.stackErr ∧ (if a = b then h else h.pulse k).col.eoiMismatch = h.col.eoiMismatch := by
  split; exact ⟨rfl, rfl⟩; exact HostRegion.input_errors ..

theorem State.followed_errors (s old : State) : (s.followed old).col.stackErr = s.host.col.stackErr ∧ (s.followed old).col.eoiMismatch = s.host.col.eoiMismatch := by
  unfold State.followed
  constructor
  · simp only [(State.follow_errors _ _ _).1, (HostRegion.copy_errors _ _ _ _).1]
  · simp only [(State.follow_errors _ _ _).2, (HostRegion.copy_errors _ _ _ _).2]

/-- Once the host Collector has followed a change, its level sources stand at their conditions. -/
theorem State.settle_levels (s old : State) : LevelsFollow (s.settle old) := by
  intro hh k hk
  rw [State.settle_host, State.followed_held] at hh
  have e : (s.settle old).colLevel k = s.colLevel k := by
    apply State.colLevel_congr
    · exact congrArg Side.mode (State.settle_side s old .s0)
    · exact congrArg Side.mode (State.settle_side s old .s1)
    · rw [State.settle_host, State.followed_regs]
    · rw [State.settle_host]; exact (State.followed_errors s old).1
    · rw [State.settle_host]; exact (State.followed_errors s old).2
  rw [e, State.settle_host]
  unfold State.followed
  apply State.follow_raw s.colLevel levelSources
  · simp only [HostRegion.copy_held]; exact hh
  · left; exact hk

/-! ### CLAIM -/

theorem ColSrc.default_quiet (host : Bool) (k rp : Nat) : (srcDefault host k).qualifies rp = false := by
  simp [ColSrc.qualifies, srcDefault]

/-- A source that the list does not hold does not qualify. -/
theorem Collector.listed_of_qualifies (c : Collector) (host : Bool) (k rp : Nat) (h : (c.src host k).qualifies rp = true) :
    ∃ p ∈ c.srcs, p.1 = k := by
  refine Classical.byContradiction fun hn => ?_
  have : c.src host k = srcDefault host k := by
    unfold Collector.src
    generalize c.srcs = m at hn
    induction m with
    | nil => rfl
    | cons a m ih =>
      unfold Sparse.get
      rw [if_neg (fun e => hn ⟨a, List.mem_cons_self .., e⟩)]
      exact ih (fun ⟨p, hp, e⟩ => hn ⟨p, List.mem_cons_of_mem _ hp, e⟩)
  rw [this, ColSrc.default_quiet] at h
  exact absurd h (by decide)

/-- Whether source `k` comes before source `j` in a CLAIM: a higher PRIO, or the same and a number no higher. -/
def Collector.before (c : Collector) (host : Bool) (k j : Nat) : Prop :=
  (c.src host j).prio < (c.src host k).prio ∨ ((c.src host j).prio = (c.src host k).prio ∧ k ≤ j)

theorem Collector.before_refl (c : Collector) (host : Bool) (k : Nat) : c.before host k k := .inr ⟨rfl, Nat.le_refl k⟩

theorem Collector.before_trans {c : Collector} {host : Bool} {i k j : Nat} (h : c.before host i k) (g : c.before host k j) :
    c.before host i j := by
  unfold Collector.before at *; omega

theorem Collector.best_fold (c : Collector) (host : Bool) : ∀ (l : List (Nat × ColSrc)) (b : Option Nat),
    (∀ k, b = some k → (c.src host k).qualifies c.rp = true) →
    let r := l.foldl (fun (b : Option Nat) p =>
      let x := c.src host p.1
      if x.qualifies c.rp then
        match b with
        | some k => if (c.src host k).prio < x.prio ∨ ((c.src host k).prio = x.prio ∧ p.1 < k) then some p.1 else b
        | none => some p.1
      else b) b
    (∀ k, r = some k → (c.src host k).qualifies c.rp = true) ∧
    ∀ j, (b = some j ∨ ((c.src host j).qualifies c.rp = true ∧ ∃ p ∈ l, p.1 = j)) → ∃ k, r = some k ∧ c.before host k j := by
  intro l
  induction l with
  | nil =>
    intro b hb
    refine ⟨hb, fun j hj => ?_⟩
    rcases hj with hj | ⟨-, p, hp, -⟩
    · exact ⟨j, hj, c.before_refl host j⟩
    · cases hp
  | cons a l ih =>
    intro b hb
    simp only [List.foldl_cons]
    by_cases hq : (c.src host a.1).qualifies c.rp = true
    · rw [if_pos hq]
      obtain ⟨n, hn, hqn, h1, h2⟩ : ∃ n, (match b with
          | some k => if (c.src host k).prio < (c.src host a.1).prio ∨ ((c.src host k).prio = (c.src host a.1).prio ∧ a.1 < k) then some a.1 else b
          | none => some a.1) = some n ∧ (c.src host n).qualifies c.rp = true ∧ c.before host n a.1 ∧ ∀ j, b = some j → c.before host n j := by
        cases b with
        | none => exact ⟨a.1, rfl, hq, c.before_refl host _, fun j h => by cases h⟩
        | some k =>
          by_cases hk : (c.src host k).prio < (c.src host a.1).prio ∨ ((c.src host k).prio = (c.src host a.1).prio ∧ a.1 < k)
          · refine ⟨a.1, if_pos hk, hq, c.before_refl host _, fun j h => ?_⟩
            cases h; unfold Collector.before; omega
          · refine ⟨k, if_neg hk, hb k rfl, ?_, fun j h => by cases h; exact c.before_refl host _⟩
            unfold Collector.before; omega
      rw [hn]
      obtain ⟨g1, g2⟩ := ih (some n) (fun k h => by cases h; exact hqn)
      refine ⟨g1, fun j hj => ?_⟩
      obtain ⟨k, hk, hkn⟩ := g2 n (.inl rfl)
      rcases hj with hj | ⟨hj, p, hp, rfl⟩
      · exact ⟨k, hk, Collector.before_trans hkn (h2 j hj)⟩
      · rcases List.mem_cons.mp hp with rfl | hp
        · exact ⟨k, hk, Collector.before_trans hkn h1⟩
        · exact g2 p.1 (.inr ⟨hj, p, hp, rfl⟩)
    · rw [if_neg hq]
      obtain ⟨g1, g2⟩ := ih b hb
      refine ⟨g1, fun j hj => ?_⟩
      rcases hj with hj | ⟨hj, p, hp, rfl⟩
      · exact g2 j (.inl hj)
      · rcases List.mem_cons.mp hp with rfl | hp
        · exact absurd hj hq
        · exact g2 p.1 (.inr ⟨hj, p, hp, rfl⟩)

/-- The source that a CLAIM returns is the one that comes before every other qualifying source. -/
theorem Collector.best_eq_some (c : Collector) (host : Bool) (k : Nat) : c.best host = some k ↔ c.Picks host k := by
  obtain ⟨h1, h2⟩ := c.best_fold host c.srcs none (fun k h => by cases h)
  constructor
  · intro h
    refine ⟨h1 k h, fun j hj => ?_⟩
    obtain ⟨n, hn, hb⟩ := h2 j (.inr ⟨hj, c.listed_of_qualifies host j c.rp hj⟩)
    have e := hn.symm.trans h
    cases e
    exact hb
  · intro h
    obtain ⟨n, hn, hb⟩ := h2 k (.inr ⟨h.1, c.listed_of_qualifies host k c.rp h.1⟩)
    have := h.2 n (h1 n hn)
    have e : n = k := by unfold Collector.before at hb; omega
    exact e ▸ hn

/-- A CLAIM finds nothing exactly when no source qualifies. -/
theorem Collector.best_eq_none (c : Collector) (host : Bool) : c.best host = none ↔ ∀ k, (c.src host k).qualifies c.rp = false := by
  obtain ⟨h1, h2⟩ := c.best_fold host c.srcs none (fun k h => by cases h)
  constructor
  · intro h k
    cases hk : (c.src host k).qualifies c.rp with
    | false => rfl
    | true =>
      obtain ⟨n, hn, -⟩ := h2 k (.inr ⟨hk, c.listed_of_qualifies host k c.rp hk⟩)
      exact absurd (hn.symm.trans h) (by simp)
  · intro h
    cases hb : c.best host with
    | none => rfl
    | some k => exact absurd (h1 k hb) (by simp [h k])

end Sys2Proof.Machine
end

