-- ==== Sys2Proof/Tests/Slice0.lean ====
section
/-!
SUPPORT. Tests: ill-formed commands that WellFormed refuses, Stitch words written out from the spec's formats, results of single steps, and
for each statement of Certificates/Slice0 that has hypotheses, states and operands that meet those of each of its clauses.
-/
namespace Sys2Proof.Tests

open Sys2Proof Sys2Proof.Machine

set_option Elab.async false
set_option maxRecDepth 100000

/-- A Side in a mode, with some register fields set. -/
def side (m : Mode) (l : List (Fld × Nat)) : Side := { l.foldl (fun (x : Side) f => x.set f.1 f.2) Side.reset with mode := m }

/-- A block of two Sides, with some fields of the host region set. -/
def block (x0 x1 : Side) (l : List (Fld × Nat)) : State :=
  { State.reset with side0 := x0, side1 := x1, host := l.foldl (fun (h : HostRegion) f => h.set f.1 f.2) HostRegion.reset }

/-- The block with a message in slot 0 of Side 0's inbound ring: class, opcode, SEL, payload and its CRC. -/
def inbox (s : State) (cls op sel : Nat) (p : List Nat) (crc : Nat) : State :=
  let head := [2, cls, op, 0, 7, 0, 0, 0, 0, sel, 0, 0, p.length % 256, p.length / 256] ++ List.replicate 14 0
  let b := (head ++ [crc % 256, crc / 256 % 256, crc / 65536 % 256, crc / 16777216] ++ p).map (BitVec.ofNat 8)
  { s with host := { s.host.set (F.HP_MB_IN_PROD_IDX 0) 1 with ram := (b.zipIdx.map (fun q => (q.2, q.1))).filter (fun c => decide (c.2 ≠ 0)) } }

/-- Both Sides alike. -/
def both (x : Side) : State := block x x []

/-- The gates of CK_GATE_STAT_HI open. -/
def gatesOpen : List (Fld × Nat) := [(F.CK_GATE_STAT_HI_A, 0), (F.CK_GATE_STAT_HI_B, 0)]

/-! ### States for the host region's statements -/

/-- The block after reset; both Sides in Ready; with the quad-SPI target as the host port; with Side rings full, posted or offset. -/
def wReset : State := State.reset
def wReady : State := block (side .ready []) (side .ready []) []
def wSpi : State := block (side .ready []) (side .ready []) [(F.HP_STRAP_HOSTSEL, 1)]
def wFull : State := block (side .ready []) (side .ready []) [(F.HP_MB_IN_PROD_IDX 0, 64), (F.HP_MB_IN_PROD_IDX 1, 64), (F.HP_MB_OUT_PROD_IDX 0, 5), (F.HP_MB_OUT_PROD_IDX 1, 5)]
def wHeld : State := { wReset with host := { wReset.host with held := true } }
def wErrors : State := block (side .ready []) (side .ready []) [(F.HP_ACC_ERR_SIDE0, 1)]
def spiHeld (w : SpiWrite) : State := { wSpi with host := { wSpi.host with spi := some w } }
def wLate : SpiWrite := { bar2 := true, addr := 0, data := [], late := true }
def wShort : SpiWrite := { bar2 := true, addr := 0x3FFFC, data := [1, 2, 3], late := false }
def wWord : SpiWrite := { bar2 := true, addr := 0x3FFFC, data := [1, 2, 3, 4], late := false }
def wReg : SpiWrite := { bar2 := false, addr := 0x50008, data := [1, 0, 0, 0], late := false }
def wSpiReg : State := spiHeld wReg
def wSpiLate : State := spiHeld wLate
def wSpiShort : State := spiHeld wShort
def wSpiWord : State := spiHeld wWord
def wReply : OutMsg := { event := false, via := none, reset := none, msg := msgOf [2, 1, 1, 0] }
def wOut : State :=
  let x := side .ready []
  block { x with fw := { x.fw with outQ := [wReply] } } x [(F.HP_MB_CTRL_OUT_EN0, 1)]
def wRelayed : HeldMsg := { dest := .inbound .s1, bytes := [1, 2, 3], src := 0, sel := 0, id := 0, via := none }
def wRouted : HeldMsg := { dest := .route 63, bytes := [1, 2, 3], src := 0, sel := 0, id := 0, via := none }
def wRelay : State := let s := block (side .ready []) (side .ready []) [(F.HP_RLY_CTRL_EN, 1)]; { s with host := { s.host with relay := [wRelayed] } }
def wRoute : State := let s := block (side .ready []) (side .ready []) [(F.HP_RLY_CTRL_EN, 1)]; { s with host := { s.host with relay := [wRouted] } }
def wFlash : State := block (side .ready []) (side .ready []) [(F.HP_BF_OWN_OWNER, 1), (F.HP_BF_CMD_LEN, 256)]
def wFlashLong : State := block (side .ready []) (side .ready []) [(F.HP_BF_OWN_OWNER, 3), (F.HP_BF_CMD_LEN, 257)]
def wFlashBusy : State := block (side .ready []) (side .ready []) [(F.HP_BF_STAT_BUSY, 1), (F.HP_BF_CMD_LEN, 4)]
/-- Collectors with two sources that qualify, with none, with a stack of sixteen, and with an empty stack. -/
def wSource : ColSrc := { prio := 3, sense := 2, maxrate := 0, coal := 1, pend := true, insvc := false, raw := false, storm := false, cnt := 0 }
def collectors (host : Bool) (n : Nat) : Collector :=
  { (Collector.reset.put host 4 wSource).put host 7 wSource with stack := (List.range n).map (fun _ => (2, 9)), rp := 2 }
def wCol (n : Nat) : State :=
  let x := side .ready []
  let s := block { x with col := collectors false n } x []
  { s with host := { s.host with col := collectors true n } }
def wCol1 : State := wCol 1
def wCol15 : State := wCol 15
def wCol16 : State := wCol 16
def seams (o : Nat) (a b : SeamOp) : State :=
  let x := side .ready []
  let s := block { x with twin := { x.twin with req := some a } } { x with twin := { x.twin with req := some b } } []
  { s with host := s.host.set F.HP_SEAM_TOKEN_OWNER o }
def wSeam (o : Nat) : List State := [.grant, .seize, .transfer, .release].flatMap (fun a => [SeamOp.grant, .seize, .transfer, .release].map (fun b => seams o a b))
def wLead : State := block (side .lead []) (side .follow []) []
def wOwned : State := block (side .ready []) (side .ready []) [(F.HP_SEAM_TOKEN_OWNER, 1)]

/-! ### States for supplies, resets and clocks -/

def wDark : State := both (side .dark [])
def wBackup : State := both (side .ready [(F.PW_SUPPLY_ON_BACKUP, 9)])
/-- In Reset at a stage of the clock start-up. -/
def stage (n : Nat) (l : List (Fld × Nat)) : State := both { side .reset l with clk := { ClkUnit.reset with stage := n } }
def wStage0 : State := stage 0 []
def wStage1 : State := stage 1 []
def wStage2 : State := stage 2 []
def wStage4 : State := stage 4 []
def wStage4Locked : State := stage 4 [(F.CK_SYSPLL_LOCK, 1), (F.CK_SERPLL_LOCK, 1)]
def wStage5 : State := stage 5 []
/-- Running, with XIN calibrated and SYSPLL locked; in Solo. -/
def wCalibrated : State := both (side .solo [(F.CK_XMON_STAT_CAL_DONE, 1), (F.CK_XMON_CNT_CAL, 614), (F.CK_SYSPLL_LOCK, 1)])
def wClosing : State := both { side .ready [] with clk := { ClkUnit.reset with closing := 2 ^ 33 } }
def wHardGate : State := both (side .ready [(F.CK_GATE_HARD_LO, 1), (F.CK_GATE_HARD_HI_A, 255)])
def wObs (running old : Nat) : State := both { side .ready [(F.CK_OBS_SEL, old), (F.CK_SYSPLL_LOCK, running)] with clk := { ClkUnit.reset with obsSel := old } }
def wObsRun : State := wObs 1 24
def wObsStopped : State := wObs 0 0
/-- The island muxes, or that of CLKOBS, stand between their inputs; XIN's calibration was refused; the Cross array's gate closes softly. -/
def wSwitching : State := stage 4 [(F.CK_SYSPLL_LOCK, 1), (F.CK_SERPLL_LOCK, 1), (F.CK_MUX_STAT_SWITCHING, 1)]
def wStage3 : State := stage 3 []
def wCrossClosing : State := both { side .ready gatesOpen with clk := { ClkUnit.reset with closing := 2 ^ 32 } }
def wObsWaits : State :=
  both { side .ready [(F.CK_OBS_SEL, 2), (F.CK_SYSPLL_LOCK, 1), (F.CK_MUX_STAT_OBS_SWITCHING, 1)] with clk := { ClkUnit.reset with obsSel := 0 } }

/-! ### States for the Stitch cores and the row -/

/-- A Side in a mode with RUN of core 0 at 1, and core 0 as given. -/
def cored (m : Mode) (l : List (Fld × Nat)) (c : Core) : Side := ((side m ((F.SK_CTRL_RUN 0, 1) :: l)).setCore 0 c)
/-- Core 0 in its row, running, halted, at the end of its row, and with far accesses waiting. -/
def wRowCore : Core := { Core.reset with inRow := true }
def wCore : State := both (cored .solo [] wRowCore)
def wCoreHalted : State := both (cored .solo [] { wRowCore with halted := true })
def wCoreBreak : State := both (cored .solo [(F.SK_BRK_EN 0, 1)] wRowCore)
def wFar (load : Bool) : FarAcc := { load := load, dr := 0, le := 15, bank := 0, addr := 0, data := Vector.replicate 4 1, discarded := false }
def wFarLoad : State := both (cored .solo [] { wRowCore with far := [wFar true] })
def wFarDrop : FarAcc := { wFar false with discarded := true }
def wFarDropped : State := both (cored .solo [] { wRowCore with far := [wFarDrop] })
def wFarStore : State := both (cored .solo [] { wRowCore with far := [wFar false] })
def wLoopErr : State := both (cored .solo [(F.SK_OVF_PC_VALID 0, 1)] { wRowCore with r := { StitchRegs.reset with z := 15, ovf := 15 } })
def wEor : State := both (cored .solo [] { wRowCore with eorIssued := true })
def wDone : State := both (cored .solo [] { Core.reset with done := true })
def wNamed : State := both { (cored .solo [] Core.reset) with pulse := { row := 7, heldClear := false, mask := 1 } }
def wRefill : State := both (cored .solo [] { Core.reset with refill := true, refillWritten := [3] })
def wGaugeRefill : State := let x := side .solo gatesOpen; both { x with gauge := { x.gauge with refill := true, written := [5] } }
def due (l : List (Nat × Nat × Nat)) : State := let x := side .solo gatesOpen; both { x with pages := { x.pages with due := l } }
def wDueCore : State := due [(0, 7, 0)]
def wDueFeed : State := due [(256, 7, 0)]
def wAck : State := let x := side .solo []; both { x with takes := { x.takes with ackDue := 1 } }
/-- A Side in Solo whose counter runs, with the Cross array at work on row 7. -/
def wCross : State := let x := side .solo ((F.XA_CTRL_RUN, 1) :: gatesOpen); both { x with rate := 4, tm := { x.tm with started := true }, cross := { x.cross with row := 7, inRow := true, feedRow := some 7, wasIdle := false } }
/-- A far access of core 0 to a bank of its group; a core in its row without EOR; RUN at 0; a Side in Ready with its cores' RUN at 0. -/
def wFarOwned : State := let x := cored .solo [] wRowCore; both { x with bankOwner := [(0, 1)] }
def wHeldRow : State := both (cored .solo [] { Core.reset with inRow := true })
def wIdle : State := both (side .solo [])
def wWriteCore : State := both (side .ready [(F.CK_GATE_STAT_LO, 0)])

/-! ### States for memory banks, Frog, boot and the life cycle -/

def wChanging (n : Nat) : State := both (side .ready [(F.MM_BANK_CUR 0, 3), (F.MM_BANK_STATE 0, n)])
def wChanging1 : State := wChanging 1
def wChanging2 : State := wChanging 2
/-- A march under way over macros 0 and 1, or with none left. -/
def wRun (kind : Nat) (left : List Nat) (result : Nat) (inMode : Bool) : SwatchRun :=
  { kind := kind, repair := false, left := left, second := [], result := result, spares := 300, unit := 0, inMode := inMode }
def marching (m : Mode) (r : SwatchRun) : State := both { side m [] with swatch := some r }
def wMarch0 : State := marching .ready (wRun 0 [0, 1] 0 false)
def wMarch1 : State := marching .ready (wRun 1 [0, 1] 0 false)
def wMarchOver : State := marching .ready (wRun 0 [] 1 false)
def wSwatchGood : State := marching .swatch (wRun 0 [] 3 true)
def wSwatchBad : State := marching .swatch (wRun 0 [] 2 true)
def wBanksOff : State := both (side .ready [(F.MM_BANK_STATE 0, 2), (F.MM_BANK_CUR 0, 2)])
def wFrog : State := both (side .frog [])
def wFrogTest : State := both (side .frog [(F.PW_STRAP_MTEST, 1)])
def wDogged : State := both (side .ready [(F.PW_WDOG_EN, 1)])
/-- Cast-on at a step of the boot, with the directory read and the boot flash owned by Side 0 or by nobody. -/
def bootDir : List Byte := List.replicate 28 0 ++ [1, 0, 0, 0, 1, 0, 0, 0]
/-- A directory with the mark of Table PW-6 and its CRC. -/
def goodDir : List Byte := [0x44, 0x42, 0x59, 0x46] ++ List.replicate 56 0 ++ [22, 191, 147, 97]
def booting (n copy owner : Nat) : State :=
  let x := side .castOn [(F.PW_BOOT_STAGE, n), (F.PW_BOOT_FW_COPY, copy)]
  block { x with fw := { x.fw with boot := bootDir } } x [(F.HP_BF_OWN_OWNER, owner)]
def wBoot0 : State := booting 0 0 0
def wBoot2 : State := booting 2 0 1
def wBoot2Second : State := booting 2 1 1
def wBoot4 : State := booting 4 0 0
/-- A life-cycle change under way; both Sides in Ready and both in Maker. -/
def burning (n : Nat) : State :=
  let x := side .ready []
  both { x with fuses := { x.fuses with change := some { target := n, recovery := false } } }
def wRetiring : State := burning 3
def wClosing2 : State := burning 2

/-! ### States for Twin, the Cue loader and Gauge frames -/

/-- A Side in Twin with its gates open: its heartbeat on the link, its own checksums, and what it heard. -/
def twinned (m : Mode) (l : List (Fld × Nat)) (t : Twin) : Side := { side m (gatesOpen ++ l) with twin := t, row := 9 }
def wBeat (chk : Nat) : Heartbeat := { row := 8, mode := 7, inStep := true, token := true, blending := false, valid := true, epoch := 0, chk := chk }
def wPair (x y : Side) : State := block x y []
def wTwin (m n : Mode) (own peer : Nat) : State :=
  wPair (twinned m [] { Twin.reset with chks := [(7, own)], hbOut := some (wBeat own), heard := some (9, 7) })
    (twinned n [] { Twin.reset with chks := [(7, peer)], hbOut := some (wBeat peer), heard := some (9, 7) })
def wTwinEqual : State := wTwin .lead .follow 5 5
def wTwinDiffer : State := wTwin .lead .follow 5 6
def wTwinIdle : State := wTwin .ready .follow 5 5
def rework (l : List (Fld × Nat)) : State := wPair (twinned .lead [] Twin.reset) (twinned .rework l Twin.reset)
def wPass1 : State := rework [(F.TW_MIR_STATE, 1)]
def wPassLast : State := rework [(F.TW_MIR_STATE, 2), (F.TW_MIR_PASS, 63)]
def wFinal : State := rework [(F.TW_MIR_STATE, 4)]
/-- A Follow that hears neither path, in step; a Lead that owns the token, and one that does not. -/
def wSilent : State :=
  wPair (twinned .lead [] Twin.reset)
    (twinned .follow [(F.TW_SILENT_LINK, 7), (F.TW_SILENT_SEAM, 8), (F.TW_MATCH, 1024), (F.TW_CTRL_TAKE_EN, 1)] Twin.reset)
def wQuiet : State := wPair (twinned .lead [] Twin.reset) (twinned .follow [] Twin.reset)
def wBeats (o : Nat) : State :=
  block (twinned .lead [] Twin.reset) (twinned .follow [] Twin.reset)
    [(F.HP_SEAM_HB_COUNT 0, 5), (F.HP_SEAM_HB_MODE 0, 7), (F.HP_SEAM_HB_COUNT 1, 5), (F.HP_SEAM_HB_MODE 1, 7), (F.HP_SEAM_TOKEN_OWNER, o)]
def wBeatsOwn : State := wBeats 0
def wBeatsOther : State := wBeats 1
def wBeatsNone : State := wBeats 3
/-- A Blend cable under way at row 9 of rows 4 to 100, both Sides with what Emit placed in row 8. -/
def wEmit (v : BitVec 24) : EmitRow := { row := 8, tdm := [(1, v)], flow := [], skein := [] }
def blends (m : Mode) (v : BitVec 24) : Side :=
  let x := twinned m [(F.TW_HAND_KIND, 2), (F.TW_HAND_STATE, 2), (F.TW_HAND_LO, 100), (F.TW_HAND_LEN, 96)] Twin.reset
  { x with pages := { x.pages with emitted := [wEmit v] } }
def wBlend : State := wPair (blends .lead 1) (blends .rework 3)
/-- A Follow whose Take 5 waits for its row, and a Lead that has sent it, with its step plan. -/
def wTake (num : Nat) (row : Option Nat) : Take :=
  { num := num, row := row, mask := 1, desc := 0, floated := true, cue := none, state := 1, acked := 0, slipped := false, waits := false, planned := 0 }
def wFloat : State :=
  let x := twinned .follow [] Twin.reset
  let y := twinned .lead [] Twin.reset
  wPair { x with takes := { x.takes with queue := x.takes.queue.set 0 (some (wTake 5 none)) } }
    { y with takes := { y.takes with rowsSent := [(5, 100)] }, tm := { y.tm with stepOut := some (100, -1) } }
/-- The loader's queue with a Cue of the Cross array at its head, and one that writes core 0's X memory. -/
def wJob (started : Bool) : LoaderJob := { slot := 0, fired := 0, num := 5, started := started, records := [(0x06020000, [1])] }
def loading (j : LoaderJob) (q : List Take) (mask : Nat) : State :=
  let x := side .solo gatesOpen
  let x := x.putBytes (cueBase 0 + 0x80) (leBytes 8 mask)
  both { x with takes := { x.takes with loader := [j], queue := Vector.ofFn (fun i : Fin 8 => q[i.val]?) } }
def wLoadCross : State := loading (wJob false) [wTake 5 (some 50)] (2 ^ 32)
def wLoadPlain : State := loading (wJob false) [wTake 5 (some 50)] 1
def wLoadNow : State := loading (wJob true) [wTake 5 (some 50)] 1
def wLoadLater : State := loading (wJob true) [wTake 4 (some 40), wTake 5 (some 50)] 1
/-- Gauge group 0 is due, with its channel lent and without. -/
def framing (lent : Nat) : State :=
  let x := side .solo (gatesOpen ++ [(F.PB_GRP_EN 0, 1), (F.PB_GRP_PERIOD 0, 4), (F.DMA_CH_LENT 12, lent)])
  both { x with gauge := { x.gauge with captureDue := true, row := 8 } }
def wFrameLent : State := framing 1
def wFrameLost : State := framing 0
/-- The Follow's own row 7 still waits; a pass of Rejoin has ended, and the last one; a further pass sends every kind of page. -/
def wBeatAhead : State :=
  let x := twinned .follow [] Twin.reset
  wPair (twinned .lead [] { Twin.reset with hbOut := some (wBeat 5) }) { x with gauge := { x.gauge with waits := some 7 } }
def wPassEnd (st n : Nat) : State :=
  wPair (twinned .lead [] Twin.reset) (twinned .rework [(F.TW_MIR_STATE, st), (F.TW_MIR_PASS, n)] { Twin.reset with passEnd := true })
def wMirror : State :=
  wPair (twinned .lead [] Twin.reset)
    (twinned .rework [(F.TW_MIR_STATE, 2)] { Twin.reset with differ := [0x6020, 0xB100, 0xB070, 0xB080, 0xB090, 0xB000] })

/-! ### States for the time module -/

def cand (c : Nat) (l : List (Fld × Nat)) : State :=
  both (side .solo ([(F.TM_CAND_EN c, 1), (F.TM_CAND_CLASS c, 6), (F.TM_CAND_PRESENT c, 1)] ++ l))
def wFit : State := cand 0 [(F.TM_STAT_FREERUN, 1)]
def wFitIdle : State := cand 0 [(F.TM_STAT_FREERUN, 0)]
def wSelected : State := cand 0 [(F.TM_CAND_QUAL 0, 1), (F.TM_STAT_FREERUN, 0), (F.TM_STAT_SEL, 0), (F.TM_STAT_LOST, 0)]
def wSelectedOpen : State := cand 0 [(F.TM_CAND_QUAL 0, 1), (F.TM_STAT_FREERUN, 0), (F.TM_STAT_SEL, 0), (F.TM_STAT_LOST, 0), (F.TM_CTRL_OPEN, 1)]
def wTwoSources : State := cand 0 [(F.TM_CAND_QUAL 0, 1), (F.TM_CAND_QUAL 7, 1), (F.TM_STAT_FREERUN, 0), (F.TM_STAT_SEL, 0), (F.TM_STAT_LOST, 0)]
def wSwitched : State := cand 0 [(F.TM_STAT_SWITCHED, 1)]
def timed (l : List (Fld × Nat)) (t : Tension) : State := both { side .solo (gatesOpen ++ l) with tm := t }
def wSteer : State := timed [] Tension.reset
def wSteerBusy : State := timed [] { Tension.reset with steerBusy := true }
def wSteerHeld : State := timed [] { Tension.reset with steerBusy := true, held := some (true, 5) }
def wPptHeld : State := timed [] { Tension.reset with steerBusy := true, held := some (false, 5) }
def wLoopOpen : State := timed [(F.TM_CTRL_OPEN, 1), (F.TM_STAT_FREERUN, 0)] Tension.reset
def wCapture : Capture := { kind := 1, index := 3, data := 1, num := 0, time := 5, row := 9 }
def wCaptured : State := timed [] { Tension.reset with captures := [wCapture] }
/-- A trigger armed at the counter's 0 ns, in a row that reaches it, the counter before it and past it. -/
def wTrigger : State := timed [(F.TM_TRIG_EN 5, 1), (F.TM_TRIG_ACTION 5, 1), (F.TM_TRIG_TARGET 5, 3)] { Tension.reset with started := true }
def wTriggerLate : State := let x := wTrigger.side0; both { x with counter := 9 }
def wHalt : State := both (side .halt [])

/-! ### States for the audio ports -/

/-- A Side in Solo with its gates open and its ports as given. -/
def ported (l : List (Fld × Nat)) (p : Ports) : State := both { side .solo (gatesOpen ++ l) with ports := p }
def half (h : Nat) (x : Half) : Ports := { Ports.reset with halves := Ports.reset.halves.setIfInBounds h x }
def wPorts : State := ported [] Ports.reset
def wStopping : State := ported [(F.AP_HSTAT_RUNNING 0, 1)] (half 0 { Half.reset with stopping := true })
def wShadowDue : State := ported [] { Ports.reset with shadowDue := true }
/-- Both halves of port 0 run, of 8 slots of 24 bits, in the second of their frames. -/
def wFraming : State :=
  let cfg := 30
  let p := half 0 { Half.reset with cfg := cfg, mask := 255 }
  ported [(F.AP_HSTAT_RUNNING 0, 1), (F.AP_HSTAT_RUNNING 1, 1), (F.AP_FRAME_FRAME 0, 1), (F.AP_FRAME_FRAME 1, 1),
      (F.AP_TIMING_CUR_TIMING_CUR 0, 256), (F.AP_TIMING_CUR_TIMING_CUR 1, 256)]
    { p with halves := p.halves.setIfInBounds 1 { Half.reset with cfg := cfg, mask := 255 } }
def wBridge : State := ported [(F.AP_BR_EN 5, 1)] Ports.reset
def wBridgeLocked : State := ported [(F.AP_BR_EN 5, 1), (F.AP_BR_LOCK 5, 1)] Ports.reset
def wPdm : State := ported [(F.AP_PDM_CFG_CLK_OUT, 0)] { Ports.reset with pdmOn := true }
def wGpioWanted : State := ported [(F.TM_CAP_GPIO, 3), (F.AP_GPIO_DIR, 0)] Ports.reset
def wGpioPlain : State := ported [(F.AP_GPIO_DIR, 0)] Ports.reset
def wGpioGlitch : State := ported [(F.AP_GPIO_DG, 1)] Ports.reset
/-- A Follow; a bridge channel of a microphone, and one of port 0, whose bridged half has brought 64 consistent blocks. -/
def wFollowPorts : State := both (side .follow gatesOpen)
def wBridgeMic : State := ported [(F.AP_BR_EN 5, 1), (F.AP_BR_KIND 5, 1)] Ports.reset
def wBridgeTdm : State :=
  ported [(F.AP_BR_EN 5, 1), (F.AP_HSTAT_RUNNING 0, 1), (F.AP_CFG_CUR_CFG_CUR 0, 2 ^ 18)] (half 0 { Half.reset with blocks := 64 })
/-- A frame of `n` bit clocks. -/
def wTdm (n : Nat) : TdmFrame :=
  { fs := ⟨0, 0⟩, last := ⟨1000000000, 1000000000⟩, clock := 5000, bits := n, line := List.replicate n (true, false) }

/-! ### States for the network and Shemas -/

def netted (l : List (Fld × Nat)) (f : Side → Side) : State := both (f (side .solo (gatesOpen ++ l)))
def wSerLocked : State := netted [(F.CK_SERPLL_LOCK, 6), (F.CK_SERPLL_RATE1, 1), (F.CK_SERPLL_RATE2, 1)] id
def upBoth : List (Fld × Nat) := [(F.NW_PORT_UP 0, 1), (F.NW_PORT_UP 1, 1)]
def wEthUp : State := netted upBoth id
def wEthAddr : State :=
  netted upBoth (fun x => { x with net := { x.net with ports := x.net.ports.set 0 { NetPort.reset with addr := 0xC0A80001 } } })
/-- Receive flow 0 on the first leg: one L24 channel, P = 1, O = 2. -/
def wFlow : State := netted upBoth (fun x => x.putBytes (flowBase 0) (leBytes 4 0x15 ++ leBytes 4 0x20001))
def wTxFrame (kind : Nat) : TxFrame :=
  { queue := 1, kind := kind, ref := 4, stamp := 0, dst := 0, src := 0, dport := 0, sport := 0, dscp := 0, ttl := 64, vlan := 0, mac := 0, payload := [] }
def wQueued (kind : Nat) : State := netted upBoth (fun x => { x with net := { x.net with txq := x.net.txq.set 0 [wTxFrame kind] } })
/-- Cue 3 is armed and releases buffer 0. -/
def wArmedCue : State := netted (upBoth ++ [(F.TK_CUE_STATE 3, 2), (F.TK_CUE_PKTS 3, 1)]) id
/-- Link 0 in a state, with its own and its peer's. -/
def linked (st : Nat) (k : Link) (skeins : Sparse Nat) (l : List (Fld × Nat)) : State :=
  netted ((F.SH_LINK_STATE 0, st) :: l) (fun x => { x with row := 9, shemas := { x.shemas with links := x.shemas.links.set 0 k, skeins := skeins } })
def wHello (n : Nat) : State := linked 1 { Link.reset with hellos := n } [] []
def wLinkUp : State := linked 2 Link.reset [] []
/-- Receive skein 0 of link 0 on, of one channel. -/
def wSkeinOn : State := linked 2 Link.reset [(0, 1)] []
def wLinkMissing : State := linked 2 { Link.reset with missRun := 4 } [] []
def wCell : Cell := { seq := 1, src := 2, body := .broadcast 1 5 0, crcOk := true }
def wUnacked : State := linked 2 { Link.reset with unacked := [(5, wCell)] } [] []
def wBlock : SkeinBlock := { skein := 0, channels := 1, hops := 0, held := false, words := [5], crcOk := true }
def wRowFrame (good : Bool) (l : List SkeinBlock) : RowFrame :=
  { row := 9, devid := 0, side := 0, link := 0, keepalive := true, rate := 0, skeins := l, cells := [], credit := 3, txPrev := 0, rxPrev := 0
    rxPrevRow := 0, ack := 0, hcrcOk := good }
/-- A media frame in port 0's queue, its shaper's credit used up. -/
def wShaper : State :=
  netted upBoth (fun x => { x with net := { x.net with txq := x.net.txq.set 0 [wTxFrame 1], ports := x.net.ports.set 0 { NetPort.reset with credit := -5 } } })

/-! ### States for the fabric and the DMA engine -/

/-- A request of master 1 for 32 bytes at an address, and the transaction it becomes. -/
def wReq (write : Bool) (a : BitVec 32) : FabReq :=
  { master := 1, id := 0, write := write, dest := .space a, narrow := false, beats := 0, data := List.replicate 32 5
    strobes := List.replicate 32 true, collide := [] }
def wTx (resp : Nat) : FabTx := { master := 1, id := 0, write := false, target := 12, addr := 0x06020000, beat := 0, resp := resp, data := [] }
def wBus (n resp err : Nat) : State :=
  let x := side .solo ((F.FB_STAT_ERR, err) :: gatesOpen)
  both { x with fab := { x.fab with out := List.replicate n (wTx resp) } }
def wBusIdle : State := wBus 0 0 0
def wBusFull : State := wBus 16 0 0
def wBusOk : State := wBus 1 0 0
def wBusErr : State := wBus 1 3 0
def wBusErrs : State := wBus 1 3 1
/-- The DMA engine with a job of channel 5 on line 53, 32 bytes, and its transfers issued so far. -/
def wDmaJob (next : Nat) : DmaJob :=
  { ch := 5, line := 53, src := 0x06020000, len := 32, dst := 0x06021000, toHost := false, off := 0, next := next, skipped := false, retry := false }
def dma (j : Option DmaJob) (l : List (Fld × Nat)) : State :=
  let x := side .solo (gatesOpen ++ [(F.DMA_CTRL_EN, 1), (F.DMA_CH_EN 5, 1), (F.DMA_CH_SRC 5, 0x06020000), (F.DMA_CH_LEN 5, 32),
    (F.DMA_CH_DST_LO 5, 0x06021000), (F.DMA_CH_REC_BASE_LO 5, 0x06022000), (F.DMA_CH_REC_COUNT 5, 4)] ++ l)
  block { x with dma := { x.dma with job := j } } x [(F.HP_STRAP_HOSTSEL, 0), (F.HP_PCIE_BME, 1), (F.HP_PCIE_SPEED, 1)]
def wDmaIdle : State := dma none []
def wDmaPending : State := dma none [(F.DMA_PEND_HI, 2 ^ 21)]
def wDmaHalted : State := dma (some (wDmaJob 0)) [(F.DMA_CH_LENT 5, 1), (F.DMA_CH_HALTED 5, 1), (F.DMA_STAT_HALTED, 1)]
def wDmaMoved : State := dma (some (wDmaJob 1)) [(F.DMA_STAT_BUSY, 1)]
def wDmaToHost : State := dma (some (wDmaJob 1)) [(F.DMA_STAT_BUSY, 1), (F.DMA_CH_HOSTDST 5, 1)]
def wDmaMoving : State := dma (some (wDmaJob 0)) [(F.DMA_STAT_BUSY, 1)]
def wDmaLine : State := dma none [(F.DMA_PEND_LO, 1)]

/-! ### Messages at the front of a ring -/

/-- A Pattern that uses core 0, and an image of eight bytes under way. -/
def wPattern : Pattern := { header := List.replicate 32 0 ++ 1 :: List.replicate 31 0, latency := List.replicate 65544 0, objects := [] }
def wImage : ImageLoad := { kind := 0, src := 0, len := 8, flashAddr := 0, data := [] }

/-- A Side in Ready, or in Solo, whose firmware runs, its gates open, with some fields set. -/
def rdySide (l : List (Fld × Nat)) : Side := side .ready (gatesOpen ++ (F.PW_BOOT_STAGE, 5) :: l)
def solSide (l : List (Fld × Nat)) : Side := side .solo (gatesOpen ++ (F.PW_BOOT_STAGE, 5) :: l)
def rdy (l : List (Fld × Nat)) : State := both (rdySide l)
def sol (l : List (Fld × Nat)) : State := both (solSide l)
/-- The Side with that Pattern loaded. -/
def loadedSide (x : Side) : Side := { x with fw := { x.fw with pattern := some wPattern } }
def loaded (x : Side) : State := both (loadedSide x)
/-- Takes in the queue's first entries. -/
def queued (x : Side) (l : List Take) : Side := { x with takes := { x.takes with queue := Vector.ofFn (fun i : Fin 8 => l[i.val]?) } }
def taking (x : Side) (l : List Take) : State := both (queued x l)
/-- Destination 0 is Feed 0 and Sum 0 is delivered: their crosspoint is an object. -/
def crossed (x : Side) : State :=
  let x := x.putBytes 0x0A030000 [2, 0, 0, 0, 0, 0, 0, 0]
  both { x with cross := { x.cross with deliver := [(0, 0, 0, 0, 0)] }, gauge := { x.gauge with used := [0] } }
/-- The message in slot 0 with a route tag. -/
def routed (s : State) (tag : Nat) : State := { s with host := { s.host with tags := [(0, tag)] } }
/-- The message's header with one byte changed. -/
def patched (s : State) (i v : Nat) : State :=
  { s with host := { s.host with ram := s.host.ram.map (fun c => if c.1 = i then (c.1, BitVec.ofNat 8 v) else c) } }
def mNop : State := inbox (rdy []) 1 1 0 ([]) 0
def mNopVersion : State := patched mNop 0 3
def mNopDevid : State := let s := inbox (rdy []) 1 1 0 [] 0; { s with host := s.host.set F.HP_ID_DEVID 5 }
def mNopSelOther : State := inbox (rdy []) 1 1 1 ([]) 0
def mNopLong : State := inbox (rdy []) 1 1 0 (List.replicate 4080 0) 0
def mNopCrc : State := inbox (rdy []) 1 1 0 [1] 5
def mClassNone : State := inbox (rdy []) 0 1 0 ([]) 0
def mOpNone : State := inbox (rdy []) 1 9 0 ([]) 0
def mHostClose : State := inbox (rdy []) 1 4 3 ([]) 0
def mSideRoute : State := inbox (rdy []) 12 3 0 ([0, 0, 0, 0, 0, 0, 0, 0]) 1696784233
def mInfo : State := inbox (loaded (rdySide [])) 1 2 0 ([]) 0
def mClose : State := inbox (rdy []) 1 4 0 ([]) 0
def mCloseLong : State := inbox (rdy []) 1 4 0 ([1]) 2768625435
def mCloseLocked : State := inbox (both { rdySide [] with fuses := { (rdySide []).fuses with lc := 3 } }) 1 4 0 [] 0
def mCloseStranger : State := inbox (both { rdySide [] with fuses := { (rdySide []).fuses with lc := 2 } }) 1 4 0 [] 0
def mCloseLead : State := inbox (both { rdySide [] with mode := .lead }) 1 4 0 [] 0
def mOpen : State := inbox (rdy []) 1 3 0 (List.replicate 16 7) 1612278905
def mRun : State := inbox (rdy []) 1 5 0 ([9, 0, 0, 0, 0, 0, 0, 0]) 2054014018
def mRunLate : State := inbox (rdy []) 1 5 0 ([0, 0, 0, 0, 0, 0, 0, 0]) 1696784233
def mRunInSolo : State := inbox (sol []) 1 5 0 ([9, 0, 0, 0, 0, 0, 0, 0]) 2054014018
def mBindOff : State := inbox (sol []) 1 6 0 ([9, 0, 0, 0, 0, 0, 0, 0]) 2054014018
def mBindOffLate : State := inbox (sol []) 1 6 0 ([0, 0, 0, 0, 0, 0, 0, 0]) 1696784233
def mResetSide0 : State := inbox (rdy []) 1 7 0 ([0, 0, 0, 0]) 558161692
def mResetSide1 : State := inbox (rdy []) 1 7 0 ([1, 0, 0, 0]) 2583214201
def mEvtAck : State := inbox (rdy [(F.XA_SAT_FIRST_VALID, 1)]) 17 1 0 ([4, 0, 0, 0]) 2921744459
def mEvtAckIdle : State := inbox (rdy []) 17 1 0 ([4, 0, 0, 0]) 2921744459
def mEvtAckNone : State := inbox (rdy []) 17 1 0 ([1, 0, 0, 0]) 2583214201
def mEvtAttn : State := inbox (rdy []) 17 2 0 ([5, 0, 3, 0]) 1035435245
def mEvtLost : State := inbox (rdy []) 17 3 0 ([1, 0, 0, 0]) 2583214201
def mPatBeginBad : State := inbox (both { side .castOn [] with fw := { (side .castOn []).fw with image := none } }) 2 1 0 ([2, 0, 0, 0, 8, 0, 0, 0, 0, 0, 0, 0]) 1141588805
def mPatBegin : State := inbox (both { side .castOn [] with fw := { (side .castOn []).fw with image := none } }) 2 1 0 ([0, 0, 0, 0, 8, 0, 0, 0, 0, 0, 0, 0]) 2821774810
def mPatBeginReady : State := inbox (rdy []) 2 1 0 ([0, 1, 0, 0, 8, 0, 0, 0, 0, 0, 0, 0]) 1774060058
def mPatDataNone : State := inbox (both { side .castOn [] with fw := { (side .castOn []).fw with image := none } }) 2 2 0 ([4, 0, 0, 0, 9]) 1249831289
def mPatData : State := inbox (both { side .castOn [] with fw := { (side .castOn []).fw with image := some wImage } }) 2 2 0 ([4, 0, 0, 0, 9]) 1249831289
def mPatDataOver : State := inbox (both { side .castOn [] with fw := { (side .castOn []).fw with image := some wImage } }) 2 2 0 ([8, 0, 0, 0, 9]) 2408449144
def mPatEndNone : State := inbox (both { side .castOn [] with fw := { (side .castOn []).fw with image := none } }) 2 3 0 ([]) 0
def mPatEnd : State := inbox (both { side .castOn [] with fw := { (side .castOn []).fw with image := some wImage } }) 2 3 0 ([]) 0
def mPatEndFw : State := inbox (both { loadedSide (side .castOn []) with fw := { (loadedSide (side .castOn [])).fw with image := some { wImage with kind := 1, len := 0 } } }) 2 3 0 ([]) 0
def mPatInfoNone : State := inbox (rdy []) 2 4 0 ([]) 0
def mPatInfo : State := inbox (loaded (rdySide [])) 2 4 0 ([]) 0
def mPatLatencyBad : State := inbox (loaded (rdySide [])) 2 5 0 ([3, 0, 0, 0]) 871461106
def mPatLatency : State := inbox (loaded (rdySide [])) 2 5 0 ([0, 4, 0, 0]) 642611136
def mObjNone : State := inbox (sol []) 3 1 0 ([0, 0, 0, 0, 1, 0, 0, 0, 255, 255, 255, 255, 255, 255, 255, 1, 5, 0, 0, 0]) 2140146964
def mObjGain : State := inbox (crossed (solSide [])) 3 1 0 ([0, 0, 0, 0, 1, 0, 0, 0, 2, 0, 0, 0, 0, 0, 3, 0, 5, 0, 0, 0]) 4241233439
def mObjGainTb : State := inbox (crossed (solSide [])) 3 1 0 ([9, 0, 0, 0, 1, 0, 0, 0, 2, 0, 0, 0, 0, 0, 3, 0, 5, 0, 0, 0]) 74513387
def mObjGainWaits : State := inbox (both (queued (crossed (solSide [])).side0 [{ wTake 5 (some 50) with mask := 2 ^ 32 }])) 3 1 0 ([0, 0, 0, 0, 1, 0, 0, 0, 2, 0, 0, 0, 0, 0, 3, 0, 5, 0, 0, 0]) 4241233439
def mObjSelect : State := inbox (crossed (solSide [])) 3 1 0 ([0, 0, 0, 0, 1, 0, 0, 0, 1, 0, 0, 0, 0, 0, 4, 0, 0, 128, 0, 0]) 1086070757
def mObjSelectBad : State := inbox (crossed (solSide [])) 3 1 0 ([0, 0, 0, 0, 1, 0, 0, 0, 1, 0, 0, 0, 0, 0, 4, 0, 0, 0, 0, 0]) 2710111333
def mStage : State := inbox (sol []) 4 1 0 ([0, 0, 0, 0, 1, 0, 0, 0, 0, 0, 0, 0, 7, 0, 0, 0]) 3939057539
def mStageBad : State := inbox (sol []) 4 1 0 ([0, 0, 0, 0, 1, 0, 0, 0, 0, 0, 16, 0, 7, 0, 0, 0]) 3911138584
def mStageTb : State := inbox (sol []) 4 1 0 ([9, 0, 0, 0, 1, 0, 0, 0, 0, 0, 0, 0, 7, 0, 0, 0]) 934424925
def mStageWaits : State := inbox (taking (solSide []) [{ wTake 5 (some 50) with mask := 2 ^ 32 }]) 4 1 0 ([0, 0, 0, 0, 1, 0, 0, 0, 0, 0, 0, 0, 7, 0, 0, 0]) 3939057539
def mStageRow : State := inbox (sol []) 4 2 0 ([0, 0, 0, 0, 0, 0, 0, 0, 1, 0, 0, 0, 5, 0, 0, 0]) 399490041
def mStageRowBad : State := inbox (sol []) 4 2 0 ([0, 0, 0, 0, 0, 4, 0, 0, 1, 0, 0, 0, 5, 0, 0, 0]) 2803288187
def mStageRowTb : State := inbox (sol []) 4 2 0 ([9, 0, 0, 0, 0, 0, 0, 0, 1, 0, 0, 0, 5, 0, 0, 0]) 3400840487
def mStageRowWaits : State := inbox (taking (solSide []) [{ wTake 5 (some 50) with mask := 2 ^ 32 }]) 4 2 0 ([0, 0, 0, 0, 0, 0, 0, 0, 1, 0, 0, 0, 5, 0, 0, 0]) 399490041
def mHalfCfg : State := inbox (sol [(F.AP_TIMING_FRAME_BITS 0, 64)]) 10 1 0 (List.replicate 12 0 ++ [255, 0, 0, 0]) 851332516
def mHalfCfgBad : State := inbox (sol [(F.AP_TIMING_FRAME_BITS 0, 64)]) 10 1 0 ([0, 0, 0, 0, 16, 0, 0, 0, 0, 0, 0, 0, 255, 0, 0, 0]) 1051107416
def mHalfCfgTb : State := inbox (sol [(F.AP_TIMING_FRAME_BITS 0, 64)]) 10 1 0 ([9, 0, 0, 0, 0, 0, 0, 0, 0, 0, 0, 0, 255, 0, 0, 0]) 4022682490
def mHalfCfgWaits : State := inbox (taking (solSide [(F.AP_TIMING_FRAME_BITS 0, 64)]) [{ wTake 5 (some 50) with mask := 2 ^ 34 }]) 10 1 0 (List.replicate 12 0 ++ [255, 0, 0, 0]) 851332516
def mFlowTake : State := inbox (sol []) 11 3 0 ([0, 0, 0, 0, 128, 0, 0, 0, 5, 1, 1, 0, 0, 0, 0, 0, 1, 0, 0, 0, 0, 0, 0, 0]) 1513581850
def mFlowTakeRx : State := inbox (sol []) 11 3 0 ([0, 0, 0, 0, 0, 0, 0, 0, 5, 1, 1, 0, 0, 0, 0, 0, 1, 0, 0, 0, 0, 0, 0, 0]) 835071286
def mFlowTakeBad : State := inbox (sol []) 11 3 0 ([0, 0, 0, 0, 0, 1, 0, 0, 5, 1, 1, 0, 0, 0, 0, 0, 1, 0, 0, 0, 0, 0, 0, 0]) 3861163374
def mFlowTakeTb : State := inbox (sol []) 11 3 0 ([9, 0, 0, 0, 128, 0, 0, 0, 5, 1, 1, 0, 0, 0, 0, 0, 1, 0, 0, 0, 0, 0, 0, 0]) 153040003
def mFlowTakeWaits : State := inbox (taking (solSide []) [{ wTake 5 (some 50) with mask := 2 ^ 35 }]) 11 3 0 ([0, 0, 0, 0, 128, 0, 0, 0, 5, 1, 1, 0, 0, 0, 0, 0, 1, 0, 0, 0, 0, 0, 0, 0]) 1513581850
def mDescribe : State := inbox (crossed (solSide [])) 3 2 0 ([0, 0, 0, 0, 0, 0, 5, 0]) 408234796
def mClearHwm : State := inbox (loaded (rdySide [])) 3 3 0 ([0, 0, 0, 0, 0, 0, 11, 0]) 2262173346
def mClearHwmBad : State := inbox (crossed (solSide [])) 3 3 0 ([0, 0, 0, 0, 0, 0, 5, 0]) 408234796
def mDesc : State := inbox (sol []) 4 3 0 ([3, 1, 4, 0] ++ List.replicate 128 1) 831907191
def mDescNamed : State := inbox (taking (solSide []) [{ wTake 5 (some 50) with mask := 2 ^ 32, desc := 3 }]) 4 3 0 ([3, 1, 4, 0] ++ List.replicate 128 1) 831907191
def mReadNone : State := inbox (sol []) 16 1 0 ([0, 0, 0, 0, 0, 0, 255, 1]) 2164331149
def mReadLink : State := inbox (sol []) 16 1 0 ([0, 0, 0, 0, 0, 0, 10, 0]) 2681026531
def mReadMeter : State := inbox (crossed (solSide [])) 16 1 0 ([0, 0, 0, 0, 0, 0, 5, 0]) 408234796
def mReadFlow : State := inbox (sol []) 16 1 0 ([0, 0, 0, 0, 0, 0, 7, 0]) 711149998
def mReadSkein : State := inbox (sol []) 16 1 0 ([0, 0, 0, 0, 0, 0, 8, 0]) 2918929761
def mReadGpio : State := inbox (sol []) 16 1 0 ([0, 0, 0, 0, 0, 0, 15, 0]) 3803890598
def mRangeBad : State := inbox (sol []) 16 2 0 ([0, 0, 0, 0, 2, 0, 0, 0]) 3475707874
def mRange : State := inbox (sol []) 16 2 0 ([0, 0, 2, 6, 4, 0, 0, 0]) 684203157
def mRangeHost : State := inbox (sol []) 16 2 3 ([0, 0, 0, 0, 4, 0, 0, 0]) 3930081342
def mListBad : State := inbox (sol []) 16 3 0 ([0, 0, 0, 0, 0, 0, 0, 0]) 1696784233
def mList : State := inbox (sol []) 16 3 0 ([7, 0, 0, 0, 0, 0, 0, 0]) 1877464688
def mPostBad : State := inbox (loaded (solSide [])) 5 1 0 ([0, 0, 0, 0, 0, 0, 0, 0, 2, 0, 0, 0, 0, 0, 0, 0, 0, 0, 0, 0]) 3824026898
def mPostFull : State := inbox (taking (loadedSide (solSide [])) [wTake 1 (some 50), wTake 2 (some 51), wTake 3 (some 52), wTake 4 (some 53), wTake 6 (some 54), wTake 7 (some 55), wTake 8 (some 56), wTake 9 (some 57)]) 5 1 0 ([0, 0, 0, 0, 0, 0, 0, 0, 1, 0, 0, 0, 0, 0, 0, 0, 0, 0, 0, 0]) 2490423266
def mPostFloat : State := inbox (loaded (solSide [])) 5 1 0 ([0, 0, 0, 0, 0, 0, 0, 0, 1, 0, 0, 0, 0, 0, 0, 0, 0, 0, 0, 0]) 2490423266
def mPostFollow : State := routed (inbox (loaded { solSide [] with mode := .follow }) 5 1 2 ([0, 0, 0, 0, 0, 0, 0, 0, 1, 0, 0, 0, 0, 0, 0, 0, 0, 0, 0, 0]) 2490423266) 1
def mPostKeptLate : State := routed (inbox (loaded { solSide [(F.TK_STAT_FAIL, 1)] with mode := .follow, takes := { (solSide []).takes with kept := [(1, 2)] } }) 5 1 2 ([0, 0, 0, 0, 0, 0, 0, 0, 1, 0, 0, 0, 0, 0, 0, 0, 0, 0, 0, 0]) 2490423266) 1
def mPostKept : State := routed (inbox (loaded { solSide [(F.TK_STAT_FAIL, 1)] with mode := .follow, takes := { (solSide []).takes with kept := [(1, 9)] } }) 5 1 2 ([0, 0, 0, 0, 0, 0, 0, 0, 1, 0, 0, 0, 0, 0, 0, 0, 0, 0, 0, 0]) 2490423266) 1
def mPostLate : State := inbox (loaded (solSide [])) 5 1 0 ([2, 0, 0, 0, 0, 0, 0, 0, 1, 0, 0, 0, 0, 0, 0, 0, 0, 0, 0, 0]) 1589551470
def mPostRowFull : State := inbox (taking (loadedSide (solSide [])) [wTake 1 (some 50), wTake 2 (some 51), wTake 3 (some 52), wTake 4 (some 53), wTake 6 (some 54), wTake 7 (some 55), wTake 8 (some 56), wTake 9 (some 57)]) 5 1 0 ([9, 0, 0, 0, 0, 0, 0, 0, 1, 0, 0, 0, 0, 0, 0, 0, 0, 0, 0, 0]) 1825323542
def mPostCrossTaken : State := inbox (taking (loadedSide (solSide [])) [{ wTake 5 (some 50) with mask := 2 ^ 32 }]) 5 1 0 ([50, 0, 0, 0, 0, 0, 0, 0, 0, 0, 0, 0, 1, 0, 0, 0, 1, 0, 0, 0]) 1261924820
def mPostRow : State := inbox (loaded (solSide [])) 5 1 0 ([9, 0, 0, 0, 0, 0, 0, 0, 1, 0, 0, 0, 0, 0, 0, 0, 0, 0, 0, 0]) 1825323542
def mCancelNone : State := inbox (sol []) 5 2 0 ([5, 0, 0, 0]) 379203374
def mCancelDone : State := inbox (taking (solSide []) [{ wTake 5 (some 50) with state := 2 }]) 5 2 0 ([5, 0, 0, 0]) 379203374
def mCancel : State := inbox (taking (solSide []) [wTake 5 (some 50)]) 5 2 0 ([5, 0, 0, 0]) 379203374
def mMargin : State := inbox (sol []) 6 9 0 ([4, 0, 0, 0]) 2921744459
def mBeginBusy : State := inbox (both (loadedSide (solSide [(F.TK_CUE_STATE 3, 2), (F.TK_CUE_MASK_LO 3, 1)]))) 6 1 0 ([3, 0, 0, 0, 0, 0, 0, 0, 1] ++ List.replicate 203 0) 831431706
def mBeginTrig : State := inbox (both (loadedSide (solSide [(F.TK_CUE_STATE 3, 0), (F.TK_CUE_MASK_LO 3, 1)]))) 6 1 0 ([3, 0, 0, 0, 32, 0, 0, 0, 1] ++ List.replicate 203 0) 1503605616
def mBeginBuffer : State := inbox (both (loadedSide (solSide [(F.TK_CUE_STATE 3, 0), (F.TK_CUE_MASK_LO 3, 1)]))) 6 1 0 ([3, 0, 0, 0, 0, 0, 0, 0, 1, 0, 0, 0, 0, 0, 0, 0, 0, 0, 4] ++ List.replicate 130 0 ++ [1] ++ List.replicate 62 0) 3404397545
def mBeginMask : State := inbox (both (loadedSide (solSide [(F.TK_CUE_STATE 3, 0), (F.TK_CUE_MASK_LO 3, 1)]))) 6 1 0 ([3, 0, 0, 0, 0, 0, 0, 0, 2] ++ List.replicate 203 0) 3351870806
def mBegin : State := inbox (both (loadedSide (solSide [(F.TK_CUE_STATE 3, 0), (F.TK_CUE_MASK_LO 3, 1)]))) 6 1 0 ([3, 0, 0, 0, 0, 0, 0, 0, 1] ++ List.replicate 203 0) 831431706
def mAddBusy : State := inbox (both (loadedSide (solSide [(F.TK_CUE_STATE 3, 2), (F.TK_CUE_MASK_LO 3, 1)]))) 6 2 0 ([3, 0, 1, 4, 1, 0, 0, 0, 0, 0, 0, 0, 7, 0, 0, 0]) 2662793361
def mAddNone : State := inbox (both (loadedSide (solSide [(F.TK_CUE_STATE 3, 0), (F.TK_CUE_MASK_LO 3, 1)]))) 6 2 0 ([3, 0, 1, 1, 1, 0, 0, 0, 0, 0, 0, 0, 7, 0, 0, 0]) 2207822722
def mAddBad : State := inbox (both (loadedSide (solSide [(F.TK_CUE_STATE 3, 0), (F.TK_CUE_MASK_LO 3, 1), (F.TK_CUE_MASK_HI 3, 1)]))) 6 2 0 ([3, 0, 1, 4, 1, 0, 0, 0, 0, 0, 16, 0, 7, 0, 0, 0]) 2640380426
def mAddUnnamed : State := inbox (both (loadedSide (solSide [(F.TK_CUE_STATE 3, 0), (F.TK_CUE_MASK_LO 3, 1)]))) 6 2 0 ([3, 0, 1, 4, 1, 0, 0, 0, 0, 0, 0, 0, 7, 0, 0, 0]) 2662793361
def mAddFull : State := inbox (both (loadedSide (solSide [(F.TK_CUE_STATE 3, 0), (F.TK_CUE_MASK_LO 3, 1), (F.TK_CUE_MASK_HI 3, 1), (F.TK_CUE_SIZE 3, 65276)]))) 6 2 0 ([3, 0, 1, 4, 1, 0, 0, 0, 0, 0, 0, 0, 7, 0, 0, 0]) 2662793361
def mAdd : State := inbox (both (loadedSide (solSide [(F.TK_CUE_STATE 3, 0), (F.TK_CUE_MASK_LO 3, 1), (F.TK_CUE_MASK_HI 3, 1)]))) 6 2 0 ([3, 0, 1, 4, 1, 0, 0, 0, 0, 0, 0, 0, 7, 0, 0, 0]) 2662793361
def mEndBusy : State := inbox (both (loadedSide (solSide [(F.TK_CUE_STATE 3, 3), (F.TK_CUE_MASK_LO 3, 1)]))) 6 3 0 ([3, 0, 0, 0]) 871461106
def mEndBad : State := inbox ((fun x => both (x.putBytes (cueBase 3 + 0x100) (leBytes 4 0x10000000 ++ leBytes 4 0x07800000 ++ leBytes 4 7))) (loadedSide (solSide [(F.TK_CUE_SIZE 3, 12)]))) 6 3 0 ([3, 0, 0, 0]) 871461106
def mEnd : State := inbox (both (loadedSide (solSide [(F.TK_CUE_STATE 3, 0), (F.TK_CUE_MASK_LO 3, 1)]))) 6 3 0 ([3, 0, 0, 0]) 871461106
def mArmBusy : State := inbox (both (loadedSide (solSide [(F.TK_CUE_STATE 3, 2), (F.TK_CUE_MASK_LO 3, 1)]))) 6 4 0 ([3, 0, 0, 0, 9, 0, 0, 0, 0, 0, 0, 0]) 319033268
def mArmEmpty : State := inbox (both (loadedSide (solSide [(F.TK_CUE_STATE 3, 0), (F.TK_CUE_MASK_LO 3, 1)]))) 6 4 0 ([3, 0, 0, 0, 9, 0, 0, 0, 0, 0, 0, 0]) 319033268
def mArm : State := inbox (both (loadedSide (solSide [(F.TK_CUE_STATE 3, 1), (F.TK_CUE_MASK_LO 3, 1)]))) 6 4 0 ([3, 0, 0, 0, 9, 0, 0, 0, 0, 0, 0, 0]) 319033268
def mArmNoTime : State := inbox (both (loadedSide (solSide [(F.TK_CUE_STATE 3, 1), (F.TK_CUE_MASK_LO 3, 1), (F.TK_CUE_TRIG 3, 1), (F.TM_STAT_TIME_VALID, 0)]))) 6 4 0 ([3, 0, 0, 0, 9, 0, 0, 0, 0, 0, 0, 0]) 319033268
def mArmRow : State := inbox (both (loadedSide (solSide [(F.TK_CUE_STATE 3, 1), (F.TK_CUE_MASK_LO 3, 1), (F.TK_CUE_TRIG 3, 1), (F.TM_STAT_TIME_VALID, 1)]))) 6 4 0 ([3, 0, 0, 0, 9, 0, 0, 0, 0, 0, 0, 0]) 319033268
def mArmTaken : State := inbox (taking (loadedSide (solSide [(F.TK_CUE_STATE 3, 1), (F.TK_CUE_TRIG 3, 1), (F.TM_STAT_TIME_VALID, 1), (F.TK_CUE_MASK_HI 3, 1)])) [{ wTake 5 (some 9) with mask := 2 ^ 32 }]) 6 4 0 ([3, 0, 0, 0, 9, 0, 0, 0, 0, 0, 0, 0]) 319033268
def mDisarm0 : State := inbox (both (loadedSide (solSide [(F.TK_CUE_STATE 3, 0), (F.TK_CUE_MASK_LO 3, 1)]))) 6 5 0 ([3, 0, 0, 0]) 871461106
def mDisarm1 : State := inbox (both (loadedSide (solSide [(F.TK_CUE_STATE 3, 1), (F.TK_CUE_MASK_LO 3, 1)]))) 6 5 0 ([3, 0, 0, 0]) 871461106
def mDisarm2 : State := inbox (both (loadedSide (solSide [(F.TK_CUE_STATE 3, 2), (F.TK_CUE_MASK_LO 3, 1)]))) 6 5 0 ([3, 0, 0, 0]) 871461106
def mDisarm3 : State := inbox (both (loadedSide (solSide [(F.TK_CUE_STATE 3, 3), (F.TK_CUE_MASK_LO 3, 1)]))) 6 5 0 ([3, 0, 0, 0]) 871461106
def mFire0 : State := inbox (both (loadedSide (solSide [(F.TK_CUE_STATE 3, 0), (F.TK_CUE_MASK_LO 3, 1)]))) 6 6 0 ([3, 0, 0, 0]) 871461106
def mFire1 : State := inbox (both (loadedSide (solSide [(F.TK_CUE_STATE 3, 1), (F.TK_CUE_MASK_LO 3, 1)]))) 6 6 0 ([3, 0, 0, 0]) 871461106
def mFire2 : State := inbox (both (loadedSide (solSide [(F.TK_CUE_STATE 3, 2), (F.TK_CUE_MASK_LO 3, 1)]))) 6 6 0 ([3, 0, 0, 0]) 871461106
def mFire3 : State := inbox (both (loadedSide (solSide [(F.TK_CUE_STATE 3, 3), (F.TK_CUE_MASK_LO 3, 1)]))) 6 6 0 ([3, 0, 0, 0]) 871461106
def mAbort0 : State := inbox (both (loadedSide (solSide [(F.TK_CUE_STATE 3, 0), (F.TK_CUE_MASK_LO 3, 1)]))) 6 7 0 ([3, 0, 0, 0]) 871461106
def mAbort1 : State := inbox (both (loadedSide (solSide [(F.TK_CUE_STATE 3, 1), (F.TK_CUE_MASK_LO 3, 1)]))) 6 7 0 ([3, 0, 0, 0]) 871461106
def mAbort2 : State := inbox (both (loadedSide (solSide [(F.TK_CUE_STATE 3, 2), (F.TK_CUE_MASK_LO 3, 1)]))) 6 7 0 ([3, 0, 0, 0]) 871461106
def mAbort3 : State := inbox (both (loadedSide (solSide [(F.TK_CUE_STATE 3, 3), (F.TK_CUE_MASK_LO 3, 1)]))) 6 7 0 ([3, 0, 0, 0]) 871461106
def mClear0 : State := inbox (both (loadedSide (solSide [(F.TK_CUE_STATE 3, 0), (F.TK_CUE_MASK_LO 3, 1)]))) 6 8 0 ([3, 0, 0, 0]) 871461106
def mClear1 : State := inbox (both (loadedSide (solSide [(F.TK_CUE_STATE 3, 1), (F.TK_CUE_MASK_LO 3, 1)]))) 6 8 0 ([3, 0, 0, 0]) 871461106
def mClear2 : State := inbox (both (loadedSide (solSide [(F.TK_CUE_STATE 3, 2), (F.TK_CUE_MASK_LO 3, 1)]))) 6 8 0 ([3, 0, 0, 0]) 871461106
def mClear3 : State := inbox (both (loadedSide (solSide [(F.TK_CUE_STATE 3, 3), (F.TK_CUE_MASK_LO 3, 1)]))) 6 8 0 ([3, 0, 0, 0]) 871461106
def mFireMask : State := inbox (both (loadedSide (solSide [(F.TK_CUE_STATE 3, 1), (F.TK_CUE_MASK_LO 3, 2)]))) 6 6 0 ([3, 0, 0, 0]) 871461106
def mAbortDone : State := inbox (taking (loadedSide (solSide [(F.TK_CUE_STATE 3, 3)])) [{ wTake 5 (some 50) with cue := some 3, state := 2 }]) 6 7 0 ([3, 0, 0, 0]) 871461106
def mAbortQueued : State := inbox (taking (loadedSide (solSide [(F.TK_CUE_STATE 3, 3)])) [{ wTake 5 (some 50) with cue := some 3 }]) 6 7 0 ([3, 0, 0, 0]) 871461106
def mPointBad : State := inbox (sol []) 7 1 0 ([0, 0, 1, 0, 0, 0, 0, 0, 0, 0, 10, 0, 60, 0, 0, 0, 5, 0, 0, 0]) 303631269
def mPoint : State := inbox (sol []) 7 1 0 ([0, 0, 1, 0, 0, 0, 0, 0, 10, 0, 10, 0, 60, 0, 0, 0, 5, 0, 0, 0]) 4163822532
def mMtrReset : State := inbox (sol []) 7 2 0 ([0, 0, 3, 0]) 174689503
def mMtrResetBad : State := inbox (sol []) 7 2 0 ([255, 15, 3, 0]) 3744517395
def mGroup : State := inbox (sol []) 7 3 0 ([0, 1, 0, 0, 192, 93, 0, 0, 0, 0, 1, 0]) 2615469998
def mGroupBad : State := inbox (sol []) 7 3 0 ([0, 2, 0, 0, 192, 93, 0, 0, 0, 0, 1, 0]) 33980847
def mGroupOther : State := inbox (both ((solSide []).putBytes (meterParam 0) [0, 0, 9, 0])) 7 3 0 ([0, 1, 0, 0, 192, 93, 0, 0, 0, 0, 1, 0]) 2615469998
def mSkeinNone : State := inbox (sol []) 12 1 0 ([128, 0, 0, 0, 0, 0, 0, 0]) 907631283
def mSkein : State := inbox (sol []) 12 1 0 ([16, 0, 0, 0, 1, 0, 0, 0]) 2703591719
def mSkeinFed : State := inbox (both ((solSide []).putBytes 0x0A030000 [5, 0, 0, 0, 0, 0, 0, 0])) 12 1 0 ([16, 0, 0, 0, 129, 0, 0, 0]) 1283211036
def mSkeinFed0 : State := inbox (both ((solSide []).putBytes 0x0A030000 [5, 0, 0, 0, 0, 0, 0, 0])) 12 1 0 ([0, 0, 0, 0, 129, 0, 0, 0]) 818351671
def mSkeinWide : State := inbox (both { solSide [] with rate := 4, shemas := { (solSide []).shemas with skeins := (List.range 15).map (fun n => (4 * (n + 1), 1 + 255 * 4096)) } }) 12 1 0 ([0, 0, 0, 0, 1, 240, 15, 0]) 4022523667
def mAsymBad : State := inbox (sol []) 12 2 0 ([4, 0, 0, 0, 9, 0, 0, 0]) 2623577625
def mAsym : State := inbox (sol []) 12 2 0 ([3, 0, 0, 0, 9, 0, 0, 0]) 2527434496
def mRouteBad : State := inbox (sol []) 12 3 3 ([64, 0, 0, 0, 9, 0, 0, 0]) 834097678
def mRoute : State := inbox (sol []) 12 3 3 ([63, 0, 0, 0, 9, 0, 0, 0]) 1153945906
def mRelayBad : State := inbox (sol []) 12 4 3 ([2, 0, 0, 0]) 2337085335
def mRelay : State := inbox (sol []) 12 4 3 ([1, 0, 0, 0]) 2583214201
def mCand0 : State := inbox (sol []) 8 1 0 ([0, 1, 6, 1, 7, 0, 5, 0, 9, 0, 0, 0]) 2269031051
def mCand7 : State := inbox (sol []) 8 1 0 ([7, 1, 6, 1, 7, 0, 5, 0, 9, 0, 0, 0]) 4087759620
def mCandBad : State := inbox (sol []) 8 1 0 ([0, 2, 6, 1, 7, 0, 5, 0, 9, 0, 0, 0]) 517786762
def mLoop : State := inbox (sol []) 8 2 0 ([3, 9, 4, 0, 5, 0, 6, 0, 0, 0, 0, 0]) 3763627801
def mOpenBad : State := inbox (sol []) 8 3 0 ([2, 0, 0, 0]) 2337085335
def mLoopOpenMsg : State := inbox (sol []) 8 3 0 ([1, 0, 0, 0]) 2583214201
def mLoopClose : State := inbox (sol [(F.TM_CTRL_OPEN, 1), (F.TM_STAT_FREERUN, 0)]) 8 3 0 ([0, 0, 0, 0]) 558161692
def mLoopSame : State := inbox (sol []) 8 3 0 ([0, 0, 0, 0]) 558161692
def mFw : State := inbox (sol []) 8 4 0 ([77, 0, 0, 0, 0, 0, 0, 0]) 3619293269
def mPpt : State := inbox (sol []) 8 5 0 ([77, 0, 0, 0]) 1211785212
def mPush : State := inbox (sol []) 8 6 0 ([77, 0, 0, 0, 0, 0, 0, 0]) 3619293269
def mObs : State := inbox (sol []) 8 7 0 ([1, 2, 3, 0, 5, 0, 0, 0]) 2405256258
def mObsSame : State := inbox (sol [(F.CK_OBS_SEL, 1)]) 8 7 0 ([1, 2, 3, 0, 5, 0, 0, 0]) 2405256258
def mObsBad : State := inbox (sol []) 8 7 0 ([32, 2, 3, 0, 5, 0, 0, 0]) 3129028234
def mSnap : State := inbox (sol []) 9 1 0 ([]) 0
def mStepBad : State := inbox (sol []) 9 2 0 ([3, 0, 0, 0, 1, 0, 0, 0]) 1393672175
def mStepNoRef : State := inbox (sol []) 9 2 0 ([1, 0, 0, 0, 1, 0, 0, 0]) 288667794
def mStep : State := inbox (sol []) 9 2 0 ([2, 0, 0, 0, 1, 0, 0, 0]) 2679881585
def mTrig : State := inbox (sol []) 9 3 0 ([5, 1, 3, 0, 9] ++ List.replicate 19 0) 290822968
def mTrigBad : State := inbox (sol []) 9 3 0 ([31, 1, 3, 0, 9] ++ List.replicate 19 0) 1695028404
def mCapSet : State := inbox (sol []) 9 4 0 ([1, 0, 0, 0, 9, 0, 0, 0]) 3565195389
def mCapSetBad : State := inbox (sol []) 9 4 0 ([2, 0, 0, 0, 9, 0, 0, 0]) 1510971294
def mPhy : State := inbox (sol []) 9 5 0 ([1, 0, 0, 0, 9, 0, 0, 0, 0, 0, 0, 0]) 4282356011
def mTimeAsym : State := inbox (sol []) 9 6 0 ([1, 0, 0, 0, 9, 0, 0, 0]) 3565195389
def mUtc : State := inbox (sol []) 9 7 0 ([]) 0
def mStart : State := inbox (sol []) 10 2 0 ([0, 0, 0, 0, 0, 2, 0, 0]) 1722157831
def mStartBad : State := inbox (sol []) 10 2 0 ([0, 0, 2, 0, 0, 2, 0, 0]) 728672780
def mStartTwin : State := inbox (sol [(F.PW_MODE_ARR, 2)]) 10 2 0 ([0, 0, 1, 0, 0, 2, 0, 0]) 2918897826
def mStartRuns : State := inbox (sol [(F.AP_HSTAT_RUNNING 0, 1)]) 10 2 0 ([0, 0, 0, 0, 0, 2, 0, 0]) 1722157831
def mStop : State := inbox (sol []) 10 3 0 ([0, 0, 0, 0]) 558161692
def mStopRuns : State := inbox (sol [(F.AP_HSTAT_RUNNING 0, 1)]) 10 3 0 ([0, 0, 0, 0]) 558161692
def mApply : State := inbox (sol []) 10 4 0 ([0, 0, 0, 0]) 558161692
def mApplyRuns : State := inbox (sol [(F.AP_HSTAT_RUNNING 0, 1), (F.AP_CTRL_EN 0, 1)]) 10 4 0 ([0, 0, 0, 0]) 558161692
def mPdmOut : State := inbox (sol [(F.PW_MODE_ARR, 2)]) 10 5 0 ([2, 0, 0, 0]) 2337085335
def mPdmRate : State := inbox (both { solSide [(F.PW_MODE_ARR, 0)] with rate := 2 }) 10 5 0 ([2, 0, 0, 0]) 2337085335
def mPdmIn : State := inbox (sol []) 10 5 0 ([17, 0, 0, 0]) 3387027430
def mWclk : State := inbox (sol []) 10 6 0 ([1, 1, 5, 0]) 3847038475
def mWclkBad : State := inbox (sol []) 10 6 0 ([8, 1, 5, 0]) 2554685825
def mGpio : State := inbox (sol []) 10 7 0 ([5, 0, 5, 0, 1, 0, 0, 0, 2, 0, 0, 0, 3, 0, 0, 0]) 3648265426
def mBridgeMsg : State := inbox (sol []) 10 8 0 ([5, 0, 0, 3, 4, 0, 0, 0]) 3841997962
def mBridgeBad : State := inbox (sol []) 10 8 0 ([128, 1, 0, 3, 4, 0, 0, 0]) 1487715456
def mPortBad : State := inbox (sol []) 11 1 0 ([2, 0, 0, 0, 0, 0, 0, 0, 1, 0, 168, 192, 0, 255, 255, 255, 0, 0, 0, 0]) 3764440691
def mPortProf : State := inbox (sol []) 11 1 0 ([0, 0, 0, 3, 0, 0, 0, 0, 1, 0, 168, 192, 0, 255, 255, 255, 0, 0, 0, 0]) 2033509243
def mPort : State := inbox (sol []) 11 1 0 ([0, 0, 0, 0, 0, 0, 0, 0, 1, 0, 168, 192, 0, 255, 255, 255, 0, 0, 0, 0]) 716093695
def mPortRate : State := inbox (sol []) 11 1 0 ([0, 2, 0, 0, 0, 0, 0, 0, 1, 0, 168, 192, 0, 255, 255, 255, 0, 0, 0, 0]) 1578810894
def mFlowSetBad : State := inbox (sol []) 11 2 0 ([0, 1, 0, 0, 4, 0, 6, 0, 1, 0, 2, 0, 3] ++ List.replicate 43 0) 2677484500
def mFlowSet : State := inbox (sol []) 11 2 0 ([0, 0, 0, 0, 4, 0, 6, 0, 1, 0, 2, 0, 3] ++ List.replicate 43 0) 3180632260
def mFlowSetOn : State := inbox (both ((solSide []).putBytes (flowBase 0) [1])) 11 2 0 ([0, 0, 0, 0, 4, 0, 6, 0, 1, 0, 2, 0, 3] ++ List.replicate 43 0) 3180632260
def mFlowEnBad : State := inbox (sol []) 11 4 0 ([0, 1, 1, 0]) 966624362
def mFlowEnOff : State := inbox (sol []) 11 4 0 ([0, 0, 0, 0]) 558161692
def mFlowEnSize : State := inbox (sol []) 11 4 0 ([0, 0, 1, 0]) 945811037
def mFlowEn : State := inbox (both ((solSide []).putBytes (flowBase 0) (leBytes 4 4 ++ leBytes 4 48 ++ leBytes 4 3))) 11 4 0 ([0, 0, 1, 0]) 945811037
def mFlowEnStored : State := inbox (both ((List.range 14).foldl (fun x i => x.putBytes (flowBase (i + 1)) (leBytes 4 (1 + 4 + 63 * 64) ++ leBytes 4 6 ++ leBytes 4 2047)) ((solSide []).putBytes (flowBase 0) (leBytes 4 4 ++ leBytes 4 48 ++ leBytes 4 2047)))) 11 4 0 ([0, 0, 1, 0]) 945811037
def mFlowEnBank : State := inbox (both (((solSide [(F.MM_BANK_CUR 49, 1), (F.MM_BANK_STATE 49, 1)]).putBytes (flowBase 0) (leBytes 4 4 ++ leBytes 4 48 ++ leBytes 4 3)))) 11 4 0 ([0, 0, 1, 0]) 945811037
def mChstatus : State := inbox (sol []) 11 5 0 ([0, 0, 0, 0] ++ List.replicate 24 1) 1992210970
def mChstatusBad : State := inbox (sol []) 11 5 0 ([0, 1, 0, 0] ++ List.replicate 24 1) 405971291
def mBufferLong : State := inbox (sol []) 11 6 0 ([0, 0, 0, 0, 1, 1, 0, 224, 5, 0, 0, 0, 46, 64, 0, 0, 5, 0, 0, 0, 7, 7, 7, 7]) 2220950267
def mBufferBad : State := inbox (sol []) 11 6 0 ([0, 0, 0, 0, 1, 1, 0, 224, 5, 0, 0, 0, 46, 0, 0, 0, 4, 0, 0, 0, 7, 7, 7, 7]) 2659392394
def mBuffer : State := inbox (sol []) 11 6 0 ([0, 0, 0, 0, 1, 1, 0, 224, 5, 0, 0, 0, 46, 64, 0, 0, 4, 0, 0, 0, 7, 7, 7, 7]) 1221263973
def mBufferBank : State := inbox (sol [(F.MM_BANK_CUR 49, 1), (F.MM_BANK_STATE 49, 1)]) 11 6 0 ([0, 0, 0, 0, 1, 1, 0, 224, 5, 0, 0, 0, 46, 64, 0, 0, 4, 0, 0, 0, 7, 7, 7, 7]) 1221263973
def mTwinBad : State := inbox (block (loadedSide (rdySide [])) (loadedSide (rdySide [])) [(F.HP_SEAM_TOKEN_OWNER, 3)]) 13 1 0 ([9, 0, 0, 0, 0, 0, 0, 0, 2, 0, 0, 0]) 1282749557
def mTwinBanks : State := inbox (both { (loadedSide (rdySide [])) with regs := (((loadedSide (rdySide [])).set (F.MM_BANK_CUR 44) 1).set (F.MM_BANK_STATE 44) 1).regs }) 13 1 0 ([9, 0, 0, 0, 0, 0, 0, 0, 0, 0, 0, 0]) 3866950910
def mTwinLate : State := inbox (block (loadedSide (rdySide [])) (loadedSide (rdySide [])) [(F.HP_SEAM_TOKEN_OWNER, 3)]) 13 1 0 ([2, 0, 0, 0, 0, 0, 0, 0, 0, 0, 0, 0]) 2548979952
def mTwinUnfit : State := inbox (rdy []) 13 1 0 ([9, 0, 0, 0, 0, 0, 0, 0, 0, 0, 0, 0]) 3866950910
def mTwinLead : State := inbox (block (loadedSide (rdySide [])) (loadedSide (rdySide [])) [(F.HP_SEAM_TOKEN_OWNER, 3)]) 13 1 0 ([9, 0, 0, 0, 0, 0, 0, 0, 0, 0, 0, 0]) 3866950910
def mTwinFollow : State := inbox (block (loadedSide (rdySide [])) (loadedSide (rdySide [])) [(F.HP_SEAM_TOKEN_OWNER, 3)]) 13 1 0 ([9, 0, 0, 0, 0, 0, 0, 0, 1, 0, 0, 0]) 1589681051
def mCable : State := routed (inbox (block { loadedSide (solSide []) with mode := .lead } { loadedSide (solSide []) with mode := .follow } []) 13 2 2 ([9, 0, 0, 0, 0, 0, 0, 0]) 2054014018) 1
def mCableLate : State := routed (inbox (block { loadedSide (solSide []) with mode := .lead } { loadedSide (solSide []) with mode := .follow } []) 13 2 2 ([2, 0, 0, 0, 0, 0, 0, 0]) 654825492) 1
def mCablePending : State := routed (inbox (block { loadedSide (solSide [(F.TW_HAND_KIND, 1), (F.TW_HAND_STATE, 1)]) with mode := .lead } { loadedSide (solSide []) with mode := .follow } []) 13 2 2 ([9, 0, 0, 0, 0, 0, 0, 0]) 2054014018) 1
def mBlendShort : State := routed (inbox (block { loadedSide (solSide []) with mode := .lead } { loadedSide (solSide []) with mode := .rework } []) 13 3 2 ([9, 0, 0, 0, 0, 0, 0, 0, 5, 0, 0, 0]) 3517058252) 1
def mBlendLate : State := routed (inbox (block { loadedSide (solSide []) with mode := .lead } { loadedSide (solSide []) with mode := .rework } []) 13 3 2 ([2, 0, 0, 0, 0, 0, 0, 0, 96, 0, 0, 0]) 2898833395) 1
def mBlendUnfit : State := routed (inbox (block { loadedSide (solSide []) with mode := .lead } { loadedSide (solSide []) with mode := .rework } []) 13 3 2 ([9, 0, 0, 0, 0, 0, 0, 0, 96, 0, 0, 0]) 3713666045) 1
def mBlendMsg : State := routed (inbox (block { loadedSide (solSide [(F.TW_SILENT_LINK, 0), (F.TW_SILENT_SEAM, 0), (F.TW_CTRL_TIMEOUT, 8)]) with mode := .lead } { loadedSide (solSide [(F.PB_CTRL_RUN, 1), (F.TW_SILENT_LINK, 0), (F.TW_SILENT_SEAM, 0), (F.TW_CTRL_TIMEOUT, 8)]) with mode := .rework } []) 13 3 2 ([9, 0, 0, 0, 0, 0, 0, 0, 96, 0, 0, 0]) 3713666045) 1
def mReworkMsg : State := routed (inbox (block { loadedSide (solSide []) with mode := .follow } { loadedSide (solSide []) with mode := .lead } []) 13 4 2 ([9, 0, 0, 0, 0, 0, 0, 0]) 2054014018) 1
def mReworkLate : State := routed (inbox (block { loadedSide (solSide []) with mode := .follow } { loadedSide (solSide []) with mode := .lead } []) 13 4 2 ([2, 0, 0, 0, 0, 0, 0, 0]) 654825492) 1
def mSplit : State := routed (inbox (block { loadedSide (solSide []) with mode := .lead } { loadedSide (solSide []) with mode := .follow } []) 13 6 2 ([9, 0, 0, 0, 0, 0, 0, 0]) 2054014018) 1
def mSplitLate : State := routed (inbox (block { loadedSide (solSide []) with mode := .lead } { loadedSide (solSide []) with mode := .follow } []) 13 6 2 ([2, 0, 0, 0, 0, 0, 0, 0]) 654825492) 1
def mJoin : State := routed (inbox (block (loadedSide (solSide [])) (loadedSide (solSide [])) []) 13 7 2 ([9, 0, 0, 0, 0, 0, 0, 0]) 2054014018) 1
def mJoinFit : State := routed (inbox (block (loadedSide (solSide [])) (loadedSide (rdySide [])) []) 13 7 2 ([9, 0, 0, 0, 0, 0, 0, 0]) 2054014018) 1
def mJoinLate : State := routed (inbox (block (loadedSide (solSide [])) (loadedSide (solSide [])) []) 13 7 2 ([2, 0, 0, 0, 0, 0, 0, 0]) 654825492) 1
def mRejoinUnfit : State := routed (inbox (block { loadedSide (solSide []) with mode := .rework } { loadedSide (solSide []) with mode := .lead } []) 13 5 2 ([]) 0) 1
def mRejoin : State := routed (inbox (block { loadedSide (solSide [(F.PB_CTRL_RUN, 1), (F.TW_SILENT_LINK, 0), (F.TW_SILENT_SEAM, 0), (F.TW_CTRL_TIMEOUT, 8)]) with mode := .rework } { loadedSide (solSide []) with mode := .lead } []) 13 5 2 ([]) 0) 1
def mConfig : State := routed (inbox (block { loadedSide (solSide []) with mode := .lead } { loadedSide (solSide []) with mode := .follow } []) 13 8 2 ([8, 1, 1, 0, 4, 0, 0, 0]) 1418627994) 1
def mConfigBad : State := routed (inbox (block { loadedSide (solSide []) with mode := .lead } { loadedSide (solSide []) with mode := .follow } []) 13 8 2 ([8, 2, 1, 0, 4, 0, 0, 0]) 1701220615) 1
def mBankBad : State := inbox (sol []) 14 1 0 ([52, 0, 0, 0]) 1577955562
def mBank : State := inbox (rdy []) 14 1 0 ([0, 1, 0, 0]) 545699115
def mBankBusy : State := inbox (sol []) 14 1 0 ([12, 1, 0, 0]) 1783630483
def mSwatchBad : State := inbox (rdy []) 14 2 0 ([0, 2, 0, 0]) 583011186
def mSwatchBusy : State := inbox (sol []) 14 2 0 ([12, 1, 0, 0]) 1783630483
def mSwatch : State := inbox (rdy []) 14 2 0 ([0, 1, 0, 0]) 545699115
def mEccClear : State := inbox (rdy []) 14 3 0 ([51, 0, 0, 0]) 3285878867
def mEccClearBad : State := inbox (rdy []) 14 3 0 ([52, 0, 0, 0]) 1577955562
def mLend : State := inbox (rdy []) 15 1 0 ([12, 0, 0, 0, 0, 16, 0, 0, 0, 0, 0, 0, 0, 16, 0, 0, 0, 144, 0, 0, 0, 0, 0, 0, 4, 0, 0, 0]) 2557285493
def mLendBad : State := inbox (rdy []) 15 1 0 ([11, 0, 0, 0, 0, 16, 0, 0, 0, 0, 0, 0, 0, 16, 0, 0, 0, 144, 0, 0, 0, 0, 0, 0, 4, 0, 0, 0]) 2623858470
def mReturnBad : State := inbox (rdy []) 15 2 0 ([11, 0, 0, 0]) 4131739677
def mReturnUnlent : State := inbox (rdy []) 15 2 0 ([12, 0, 0, 0]) 1804755108
def mReturn : State := inbox (rdy [(F.DMA_CH_LENT 12, 1), (F.DMA_CH_DATA_BASE_LO 12, 0x1000), (F.DMA_CH_DATA_LEN 12, 4096)]) 15 2 0 ([12, 0, 0, 0]) 1804755108
def mResumeBad : State := inbox (rdy []) 15 3 0 ([11, 0, 0, 0]) 4131739677
def mResumeUnlent : State := inbox (rdy []) 15 3 0 ([12, 0, 0, 0]) 1804755108
def mResume : State := inbox (rdy [(F.DMA_CH_LENT 12, 1), (F.DMA_CH_DATA_BASE_LO 12, 0x1000), (F.DMA_CH_DATA_LEN 12, 4096)]) 15 3 0 ([12, 0, 0, 0]) 1804755108
def mCopyBad : State := inbox (rdy []) 15 4 0 ([11, 0, 0, 0, 0, 0, 2, 6, 0, 16, 0, 0, 0, 0, 0, 0, 32, 0, 0, 0]) 1927835760
def mCopyUnlent : State := inbox (rdy []) 15 4 0 ([12, 0, 0, 0, 0, 0, 2, 6, 0, 16, 0, 0, 0, 0, 0, 0, 32, 0, 0, 0]) 2477577955
def mCopy : State := inbox (rdy [(F.DMA_CH_LENT 12, 1), (F.DMA_CH_DATA_BASE_LO 12, 0x1000), (F.DMA_CH_DATA_LEN 12, 4096)]) 15 4 0 ([12, 0, 0, 0, 0, 0, 2, 6, 0, 16, 0, 0, 0, 0, 0, 0, 32, 0, 0, 0]) 2477577955
def mResumeSkip : State := inbox (rdy [(F.DMA_CH_LENT 12, 1)]) 15 3 0 ([12, 2, 0, 0]) 1746318538
def mResumeHalted : State := inbox (both { rdySide [(F.DMA_CH_LENT 12, 1), (F.DMA_CH_HALTED 12, 1)] with dma := { (rdySide []).dma with parked := [{ wDmaJob 0 with ch := 12 }] } }) 15 3 0 ([12, 1, 0, 0]) 1783630483
def mCopyBusy : State := inbox (rdy [(F.DMA_CH_LENT 12, 1), (F.DMA_PEND_HI, 2 ^ 28)]) 15 4 0 ([12, 0, 0, 0, 0, 0, 2, 6, 0, 16, 0, 0, 0, 0, 0, 0, 32, 0, 0, 0]) 2477577955
def mCopyShort : State := inbox (rdy [(F.DMA_CH_LENT 12, 1)]) 15 4 0 ([12, 0, 0, 0, 0, 0, 2, 6, 0, 16, 0, 0, 0, 0, 0, 0, 0, 0, 0, 0]) 866023901

theorem witness_HostAccesses_1 :
    ((wReset.host.open = true) ∧ ((15 : Fin 16).val ≠ 0) ∧ ((15 : Fin 16).val = 15)) ∧
    ((wReset.host.open = true) ∧ ((15 : Fin 16).val ≠ 0) ∧ (((15 : Fin 16).val).testBit 0 = true) ∧ ((1 : BitVec 32).toNat.testBit 0 = true)) ∧
    ((wReset.host.open = true) ∧ ((15 : Fin 16).val ≠ 0) ∧ (((15 : Fin 16).val).testBit 0 = true) ∧ ((4294967295 : BitVec 32).toNat.testBit 1 = true)) ∧
    ((wReset.host.open = true) ∧ ((1 : Fin 16).val ≠ 0) ∧ ((1 : Fin 16).val ≠ 15)) ∧
    ((wReady.host.open = true) ∧ ((wReady.side SideId.s0).alive = true) ∧ (wReady.host.flag F.HP_ACC_ERR_SIDE0 = false) ∧ (wReady.host.flag F.HP_ACC_ERR_SIDE1 = false) ∧ (false = false)) ∧
    ((wReady.host.open = true) ∧ ((wReady.side SideId.s0).alive = true) ∧ (wReady.host.flag F.HP_ACC_ERR_SIDE0 = false) ∧ (wReady.host.flag F.HP_ACC_ERR_SIDE1 = false) ∧ (true = true)) := by refine ⟨?_, ?_, ?_, ?_, ?_, ?_⟩ <;> decide +kernel

theorem witness_HostAccesses_2 :
    ((wReady.host.open = true) ∧ ((wReady.side SideId.s0).alive = true) ∧ (wReady.host.flag F.HP_ACC_ERR_SIDE0 = false) ∧ (wReady.host.flag F.HP_ACC_ERR_SIDE1 = false) ∧ (Option.any (fun k => !(wReady.side SideId.s0).gateOpen k) (blockGate ((198912 : Fin 4194304).val / 4 * 4)) = true)) ∧
    ((wReady.host.open = true) ∧ ((wReady.side SideId.s0).alive = true) ∧ (wReady.host.flag F.HP_ACC_ERR_SIDE0 = false) ∧ (wReady.host.flag F.HP_ACC_ERR_SIDE1 = false) ∧ (Option.all (fun k => (wReady.side SideId.s0).gateOpen k && !(wReady.side SideId.s0).clk.closing.testBit k) (blockGate ((0 : Fin 4194304).val / 4 * 4)) = true)) := by refine ⟨?_, ?_⟩ <;> decide +kernel

theorem witness_HostReads_1 :
    ((wSpi.host.spiOn = true) ∧ ((1 : BitVec 32).toNat % 4 ≠ 0 ∨ 12582912 ≤ (1 : BitVec 32).toNat)) ∧
    ((wSpi.host.spiOn = true) ∧ ((0 : BitVec 32).toNat % 4 = 0) ∧ ((0 : BitVec 32).toNat < 1048576) ∧ ((0 : BitVec 32).toNat ≠ 131072)) ∧
    ((wSpi.host.spiOn = true) ∧ ((wSpi.side SideId.s0).alive = true) ∧ ((0 : Fin 4194304).val % 4 = 0) ∧ ((4194304 : BitVec 32).toNat = 4194304 + 4194304 * SideId.s0.num + (0 : Fin 4194304).val) ∧ (Option.all (fun k => (wSpi.side SideId.s0).gateOpen k && !(wSpi.side SideId.s0).clk.closing.testBit k) (blockGate (0 : Fin 4194304).val) = true)) ∧
    ((wSpi.host.spiOn = true) ∧ ((1 : BitVec 32).toNat % 4 ≠ 0)) ∧
    ((wSpi.host.spiOn = true) ∧ ((0 : BitVec 32).toNat % 4 = 0) ∧ ((0 : BitVec 32).toNat < 1048576) ∧ ((0 : BitVec 32).toNat + 4 * 0 ≤ 1048576)) ∧
    ((wReset.host.open = true) ∧ ((wReset.side SideId.s0).alive = false)) := by refine ⟨?_, ?_, ?_, ?_, ?_, ?_⟩ <;> decide +kernel

theorem witness_HostReads_2 :
    ((wReady.host.open = true) ∧ ((wReady.side SideId.s0).alive = true) ∧ (wReady.host.get (F.HP_MB_APER_BASE SideId.s0.num) = 0) ∧ ((wReady.side SideId.s0).get (F.MM_BANK_TESTING ((0 : Fin 4194304).val / 2097152)) = 0) ∧ ((wReady.side SideId.s0).upset (4 * (0 : Fin 4194304).val) = 0)) := by decide +kernel

theorem witness_HostBuses :
    ((wSpi.host.spiOn = true)) ∧
    ((wSpiLate.host.spiOn = true) ∧ (wSpiLate.host.spi = some wLate) ∧ (wLate.late = true ∨ 4096 < wLate.data.length)) ∧
    ((wSpiShort.host.spiOn = true) ∧ (wSpiShort.host.spi = some wShort) ∧ (wShort.late = false) ∧ (wShort.addr % 4 = 0) ∧ (wShort.data.length < 4)) ∧
    ((wSpiWord.host.spiOn = true) ∧ (wSpiWord.host.spi = some wWord) ∧ (wWord.late = false) ∧ (wWord.bar2 = true) ∧ (wWord.addr < 262144) ∧ (wWord.addr % 4 = 0) ∧ (wWord.data.length = 4) ∧ (wSpiWord.host.posted 0 false (wWord.addr / 4096) = false)) ∧
    ((wSpiReg.host.spiOn = true) ∧ (wSpiReg.host.spi = some wReg) ∧ (wReg.late = false) ∧ (wReg.bar2 = false) ∧ (wReg.addr = 4 * (81922 : Fin 4194304).val) ∧ (wReg.data = leBytes 4 (1 : BitVec 32).toNat)) ∧
    ((wReset.host.held = false) ∧ (wReset.host.flag F.HP_STRAP_HOSTSEL = false)) := by refine ⟨?_, ?_, ?_, ?_, ?_, ?_⟩ <;> decide +kernel

theorem witness_HostAndSideResets_1 :
    ((wReset.host.held = false)) ∧
    ((wHeld.host.held = true)) ∧
    (((wReset.side SideId.s0).mode ≠ Mode.dark) ∧ (100 ≤ 100)) ∧
    ((0 < 10)) ∧
    (((wReady.side SideId.s0).alive = true) ∧ ((0 : BitVec 16) ≠ 42435)) ∧
    (((wReset.side SideId.s0).mode ≠ Mode.dark) ∧ ((wReset.side SideId.s0).fuses.lc ≤ 1)) := by refine ⟨?_, ?_, ?_, ?_, ?_, ?_⟩ <;> decide +kernel

theorem witness_HostAndSideResets_2 :
    (((wStage0.side SideId.s0).mode = Mode.reset) ∧ ((wStage0.side SideId.s0).clk.stage = 0) ∧ (wStage0.side0.fuses.lc = wStage0.side1.fuses.lc)) := by decide +kernel

theorem witness_InboundRings_1 :
    ((wReset.host.open = true) ∧ ((0 : Fin 4096).val + ([] : List Byte).length ≤ 4096) ∧ (wReset.host.posted SideId.s0.num false (0 : Fin 64).val = false)) ∧
    ((wFull.host.open = true) ∧ ((0 : Fin 4096).val + ([] : List Byte).length ≤ 4096) ∧ (wFull.host.posted SideId.s0.num false (0 : Fin 64).val = true)) ∧
    ((wReset.host.open = true) ∧ ((0 : Fin 4096).val + ([] : List Byte).length ≤ 4096) ∧ (wReset.host.posted 0 false (0 : Fin 64).val = false) ∧ (wReset.host.posted 1 false (0 : Fin 64).val = false)) ∧
    ((wFull.host.open = true) ∧ ((0 : Fin 4096).val + ([] : List Byte).length ≤ 4096) ∧ (wFull.host.posted 0 false (0 : Fin 64).val = true ∨ wFull.host.posted 1 false (0 : Fin 64).val = true)) ∧
    ((wReset.host.open = true) ∧ ((0 : Fin 128).val = wReset.host.get (F.HP_MB_IN_PROD_IDX SideId.s0.num)) ∧ (wReset.host.ringCount SideId.s0.num false < 64)) ∧
    ((wFull.host.open = true) ∧ ((64 : Fin 128).val = wFull.host.get (F.HP_MB_IN_PROD_IDX SideId.s0.num)) ∧ (64 ≤ wFull.host.ringCount SideId.s0.num false)) := by refine ⟨?_, ?_, ?_, ?_, ?_, ?_⟩ <;> decide +kernel

theorem witness_InboundRings_2 :
    ((wReset.host.open = true) ∧ ((127 : Fin 128).val ≠ wReset.host.get (F.HP_MB_IN_PROD_IDX SideId.s0.num))) ∧
    ((wReset.host.open = true) ∧ ((0 : Fin 128).val = wReset.host.get (F.HP_MB_IN_PROD_IDX 0)) ∧ ((0 : Fin 128).val = wReset.host.get (F.HP_MB_IN_PROD_IDX 1)) ∧ (wReset.host.ringCount 0 false < 64) ∧ (wReset.host.ringCount 1 false < 64)) ∧
    ((wFull.host.open = true) ∧ ((64 : Fin 128).val = wFull.host.get (F.HP_MB_IN_PROD_IDX 0)) ∧ ((64 : Fin 128).val = wFull.host.get (F.HP_MB_IN_PROD_IDX 1)) ∧ (64 ≤ wFull.host.ringCount 0 false ∨ 64 ≤ wFull.host.ringCount 1 false)) ∧
    ((wReset.host.open = true) ∧ ((127 : Fin 128).val ≠ wReset.host.get (F.HP_MB_IN_PROD_IDX 0) ∨ (127 : Fin 128).val ≠ wReset.host.get (F.HP_MB_IN_PROD_IDX 1))) := by refine ⟨?_, ?_, ?_, ?_⟩ <;> decide +kernel

theorem witness_OutboundRingAndRelay :
    ((wOut.host.held = false) ∧ ((wOut.side SideId.s0).alive = true) ∧ ((wOut.side SideId.s0).fw.outQ = wReply :: []) ∧ (wReply.via = none) ∧ (wReply.reset = none) ∧ ((wOut.side SideId.s0).fw.lossDue = false) ∧ ((0 : Fin 128).val = wOut.host.get (F.HP_MB_OUT_PROD_IDX SideId.s0.num)) ∧ (wOut.host.ringCount SideId.s0.num true < 64) ∧ (wOut.host.flag (if SideId.s0 = SideId.s0 then F.HP_MB_CTRL_OUT_EN0 else F.HP_MB_CTRL_OUT_EN1) = true)) ∧
    ((wReset.host.open = true) ∧ (((0 : Fin 128).val + 128 - wReset.host.get (F.HP_MB_OUT_CONS_IDX SideId.s0.num)) % 128 ≤ wReset.host.ringCount SideId.s0.num true)) ∧
    ((wReset.host.open = true) ∧ (wReset.host.ringCount SideId.s0.num true < ((127 : Fin 128).val + 128 - wReset.host.get (F.HP_MB_OUT_CONS_IDX SideId.s0.num)) % 128)) ∧
    ((wRelay.host.held = false) ∧ (wRelay.host.flag F.HP_RLY_CTRL_EN = true) ∧ (wRelay.host.relay = wRelayed :: []) ∧ (wRelayed.dest = RelayDest.inbound SideId.s1) ∧ (wRelayed.via = none) ∧ (wRelay.host.ringCount SideId.s1.num false < 64)) ∧
    ((wRoute.host.held = false) ∧ (wRoute.routeOf (63 : Fin 64).val = none) ∧ (wRoute.host.relay = wRouted :: []) ∧ (wRouted.dest = RelayDest.route (63 : Fin 64).val) ∧ (wRouted.via = none)) := by refine ⟨?_, ?_, ?_, ?_, ?_⟩ <;> decide +kernel

theorem witness_BootFlash :
    ((wReset.flashReach FlashUser.host = true) ∧ (wReset.host.get F.HP_BF_OWN_OWNER = 0)) ∧
    ((wFlash.flashReach FlashUser.host = true) ∧ (wFlash.host.get F.HP_BF_OWN_OWNER ≠ 0)) ∧
    ((wReset.flashReach FlashUser.host = true) ∧ (wReset.host.get F.HP_BF_OWN_OWNER ≠ flashUser FlashUser.host)) ∧
    ((wFlash.flashReach (FlashUser.side SideId.s0) = true) ∧ (wFlash.host.get F.HP_BF_OWN_OWNER = flashUser (FlashUser.side SideId.s0)) ∧ (wFlash.host.flag F.HP_BF_STAT_BUSY = false) ∧ (wFlash.host.get F.HP_BF_CMD_LEN ≤ 256)) ∧
    ((wReset.flashReach FlashUser.host = true) ∧ (wReset.host.get F.HP_BF_OWN_OWNER ≠ flashUser FlashUser.host ∨ wReset.host.flag F.HP_BF_STAT_BUSY = true ∨ 256 < wReset.host.get F.HP_BF_CMD_LEN)) ∧
    ((wFlashBusy.host.held = false) ∧ (wFlashBusy.host.flag F.HP_BF_STAT_BUSY = true) ∧ (wFlashBusy.host.flashDrop = false) ∧ (wFlashBusy.host.get F.HP_BF_CMD_LEN = 4) ∧ (wFlashBusy.host.flag F.HP_BF_CMD_DIR = false)) := by refine ⟨?_, ?_, ?_, ?_, ?_, ?_⟩ <;> decide +kernel

theorem witness_DordenCollector_1 :
    (((wCol1.side SideId.s0).alive = true) ∧ (0 < (7 : Fin 256).val) ∧ ((7 : Fin 256).val < 128) ∧ (((wCol1.side SideId.s0).col.src false (7 : Fin 256).val).sense = 2) ∧ (((wCol1.side SideId.s0).col.src false (7 : Fin 256).val).maxrate = 0) ∧ (((wCol1.side SideId.s0).col.src false (7 : Fin 256).val).storm = false) ∧ (0 < 1)) ∧
    ((((wCol1.side SideId.s0).alive = true) ∧ ((wCol1.side SideId.s0).col.stack.length < 16) ∧ (1 < ((wCol1.side SideId.s0).col.src false 4).sense)) ∧ ((wCol1.side SideId.s0).col.Picks false 4)) ∧
    ((((wReady.side SideId.s0).alive = true)) ∧ (∀ (k : Nat), ((wReady.side SideId.s0).col.src false k).qualifies (wReady.side SideId.s0).col.rp = false)) ∧
    ((((wCol16.side SideId.s0).alive = true) ∧ (16 ≤ (wCol16.side SideId.s0).col.stack.length)) ∧ ((wCol16.side SideId.s0).col.Picks false 4)) ∧
    (((wCol1.side SideId.s0).alive = true) ∧ ((wCol1.side SideId.s0).col.stack = (2, 9) :: ([] : List (Nat × Nat)))) ∧
    (((wReady.side SideId.s0).alive = true) ∧ ((wReady.side SideId.s0).col.stack = [])) :=
  ⟨by decide +kernel,
    ⟨by decide +kernel, by refine (Collector.best_eq_some _ _ _).1 ?_; decide +kernel⟩,
    ⟨by decide +kernel, by refine (Collector.best_eq_none _ _).1 ?_; decide +kernel⟩,
    ⟨by decide +kernel, by refine (Collector.best_eq_some _ _ _).1 ?_; decide +kernel⟩,
    by decide +kernel,
    by decide +kernel⟩

theorem witness_DordenCollector_2 :
    (((wReady.side SideId.s0).alive = true) ∧ (0 < (1 : Fin 256).val) ∧ ((1 : Fin 256).val < 128) ∧ (((wReady.side SideId.s0).col.src false (1 : Fin 256).val).sense ≠ (7 : Fin 8).val)) := by decide +kernel

theorem witness_HostCollector :
    (((wCol1.host.open = true) ∧ (LevelsFollow wCol1) ∧ (wCol1.host.col.stack.length < 16)) ∧ (wCol1.host.col.Picks true 4)) ∧
    (((wCol16.host.open = true) ∧ (LevelsFollow wCol16) ∧ (16 ≤ wCol16.host.col.stack.length)) ∧ (wCol16.host.col.Picks true 4)) ∧
    (((wReset.host.open = true) ∧ (LevelsFollow wReset)) ∧ (∀ (k : Nat), (wReset.host.col.src true k).qualifies wReset.host.col.rp = false)) ∧
    ((wCol1.host.open = true) ∧ (LevelsFollow wCol1) ∧ (wCol1.host.col.stack = (2, 9) :: ([] : List (Nat × Nat)))) ∧
    ((wReset.host.open = true) ∧ (LevelsFollow wReset) ∧ (wReset.host.col.stack = [])) :=
  ⟨⟨by unfold LevelsFollow; decide +kernel, by refine (Collector.best_eq_some _ _ _).1 ?_; decide +kernel⟩,
    ⟨by unfold LevelsFollow; decide +kernel, by refine (Collector.best_eq_some _ _ _).1 ?_; decide +kernel⟩,
    ⟨by unfold LevelsFollow; decide +kernel, by refine (Collector.best_eq_none _ _).1 ?_; decide +kernel⟩,
    by unfold LevelsFollow; decide +kernel,
    by unfold LevelsFollow; decide +kernel⟩

theorem witness_SeamOperations_1 :
    (((seams 3 SeamOp.grant SeamOp.grant).host.held = false) ∧ (((seams 3 SeamOp.grant SeamOp.grant).side SideId.s0).twin.req = some SeamOp.grant) ∧ ((seams 3 SeamOp.grant SeamOp.grant).host.get F.HP_SEAM_TOKEN_OWNER = 3)) ∧
    (((seams 0 SeamOp.grant SeamOp.grant).host.held = false) ∧ (((seams 0 SeamOp.grant SeamOp.grant).side SideId.s0).twin.req = some SeamOp.grant) ∧ ((seams 0 SeamOp.grant SeamOp.grant).host.get F.HP_SEAM_TOKEN_OWNER ≠ 3)) ∧
    (((seams 0 SeamOp.grant SeamOp.seize).host.held = false) ∧ (((seams 0 SeamOp.grant SeamOp.seize).side SideId.s1).twin.req = some SeamOp.seize) ∧ ((seams 0 SeamOp.grant SeamOp.seize).host.get F.HP_SEAM_TOKEN_OWNER ≠ SideId.s1.num)) ∧
    (((seams 0 SeamOp.seize SeamOp.grant).host.held = false) ∧ (((seams 0 SeamOp.seize SeamOp.grant).side SideId.s0).twin.req = some SeamOp.seize) ∧ ((seams 0 SeamOp.seize SeamOp.grant).host.get F.HP_SEAM_TOKEN_OWNER = SideId.s0.num)) ∧
    (((seams 0 SeamOp.transfer SeamOp.grant).host.held = false) ∧ (((seams 0 SeamOp.transfer SeamOp.grant).side SideId.s0).twin.req = some SeamOp.transfer) ∧ ((seams 0 SeamOp.transfer SeamOp.grant).host.get F.HP_SEAM_TOKEN_OWNER = SideId.s0.num)) ∧
    (((seams 0 SeamOp.grant SeamOp.transfer).host.held = false) ∧ (((seams 0 SeamOp.grant SeamOp.transfer).side SideId.s1).twin.req = some SeamOp.transfer) ∧ ((seams 0 SeamOp.grant SeamOp.transfer).host.get F.HP_SEAM_TOKEN_OWNER ≠ SideId.s1.num)) := by refine ⟨?_, ?_, ?_, ?_, ?_, ?_⟩ <;> decide +kernel

theorem witness_SeamOperations_2 :
    (((seams 0 SeamOp.release SeamOp.grant).host.held = false) ∧ (((seams 0 SeamOp.release SeamOp.grant).side SideId.s0).twin.req = some SeamOp.release) ∧ ((seams 0 SeamOp.release SeamOp.grant).host.get F.HP_SEAM_TOKEN_OWNER = SideId.s0.num)) ∧
    (((seams 0 SeamOp.grant SeamOp.release).host.held = false) ∧ (((seams 0 SeamOp.grant SeamOp.release).side SideId.s1).twin.req = some SeamOp.release) ∧ ((seams 0 SeamOp.grant SeamOp.release).host.get F.HP_SEAM_TOKEN_OWNER ≠ SideId.s1.num)) ∧
    (((seams 0 SeamOp.grant SeamOp.grant).host.held = false) ∧ ((seams 0 SeamOp.grant SeamOp.grant).side0.mode ≠ Mode.lead) ∧ ((seams 0 SeamOp.grant SeamOp.grant).side1.mode ≠ Mode.lead) ∧ ((seams 0 SeamOp.grant SeamOp.grant).host.get F.HP_SEAM_TOKEN_OWNER ≠ 3)) ∧
    ((wLead.host.held = false) ∧ (wLead.side0.mode = Mode.lead ∨ wLead.side1.mode = Mode.lead)) ∧
    (((seams 0 SeamOp.grant SeamOp.grant).host.held = false) ∧ (((seams 0 SeamOp.grant SeamOp.grant).side SideId.s0).twin.req = some SeamOp.grant) ∧ (((seams 0 SeamOp.grant SeamOp.grant).side SideId.s0.other).twin.req = some SeamOp.grant)) ∧
    (((seams 0 SeamOp.grant SeamOp.seize).host.held = false) ∧ (((seams 0 SeamOp.grant SeamOp.seize).side SideId.s1).twin.req = some SeamOp.seize) ∧ (((seams 0 SeamOp.grant SeamOp.seize).side SideId.s1.other).twin.req = some SeamOp.grant)) := by refine ⟨?_, ?_, ?_, ?_, ?_, ?_⟩ <;> decide +kernel

theorem witness_SeamOperations_3 :
    (((seams 0 SeamOp.grant SeamOp.transfer).host.held = false) ∧ (((seams 0 SeamOp.grant SeamOp.transfer).side SideId.s1).twin.req = some SeamOp.transfer) ∧ (((seams 0 SeamOp.grant SeamOp.transfer).side SideId.s1.other).twin.req = some SeamOp.grant)) ∧
    (((seams 0 SeamOp.grant SeamOp.release).host.held = false) ∧ (((seams 0 SeamOp.grant SeamOp.release).side SideId.s1).twin.req = some SeamOp.release) ∧ (((seams 0 SeamOp.grant SeamOp.release).side SideId.s1.other).twin.req = some SeamOp.grant)) := by refine ⟨?_, ?_⟩ <;> decide +kernel

theorem witness_Supplies :
    (((wReset.side SideId.s0).mode ≠ Mode.dark) ∧ ((wReset.side SideId.s0).bit F.PW_SUPPLY_ON_BACKUP (0 : Fin 4).val = false)) ∧
    (((wBackup.side SideId.s0).mode ≠ Mode.dark) ∧ ((wBackup.side SideId.s0).bit F.PW_SUPPLY_ON_BACKUP (0 : Fin 4).val = true)) ∧
    (((wDark.side SideId.s0).mode = Mode.dark) ∧ (((0 : Fin 16).val ||| (15 : Fin 16).val) % 16 = 15)) := by refine ⟨?_, ?_, ?_⟩ <;> decide +kernel

theorem witness_ClockStartUp_1 :
    (((wReset.side SideId.s0).mode = Mode.reset) ∧ ((wReset.side SideId.s0).clk.asserted = 0) ∧ ((wReset.side SideId.s0).clk.stage = 1)) ∧
    (((wStage2.side SideId.s0).mode = Mode.reset) ∧ ((wStage2.side SideId.s0).clk.asserted = 0) ∧ ((wStage2.side SideId.s0).clk.stage = 2) ∧ (520 ≤ meanOf16 (Vector.replicate 16 600).toList.sum) ∧ (meanOf16 (Vector.replicate 16 600).toList.sum ≤ 820)) ∧
    (((wStage2.side SideId.s0).mode = Mode.reset) ∧ ((wStage2.side SideId.s0).clk.asserted = 0) ∧ ((wStage2.side SideId.s0).clk.stage = 2) ∧ (meanOf16 (Vector.replicate 16 519).toList.sum < 520) ∧ ((wStage2.side SideId.s0).flag F.CK_XLOSS_VALID = false)) ∧
    (((wStage4.side SideId.s0).mode = Mode.reset) ∧ ((wStage4.side SideId.s0).clk.asserted = 0) ∧ ((wStage4.side SideId.s0).clk.stage = 4) ∧ ((wStage4.side SideId.s0).flag F.CK_SERPLL_HOLD = false)) ∧
    (((wStage4Locked.side SideId.s0).mode = Mode.reset) ∧ ((wStage4Locked.side SideId.s0).clk.asserted = 0) ∧ ((wStage4Locked.side SideId.s0).clk.stage = 4) ∧ ((wStage4Locked.side SideId.s0).flag F.CK_SYSPLL_LOCK = true) ∧ ((wStage4Locked.side SideId.s0).bit F.CK_SERPLL_LOCK 0 = true)) ∧
    (((wSwitching.side SideId.s0).mode = Mode.reset) ∧ ((wSwitching.side SideId.s0).clk.asserted = 0) ∧ ((wSwitching.side SideId.s0).clk.stage = 4) ∧ ((wSwitching.side SideId.s0).flag F.CK_SYSPLL_LOCK = true) ∧ ((wSwitching.side SideId.s0).bit F.CK_SERPLL_LOCK 0 = true) ∧ ((wSwitching.side SideId.s0).flag F.CK_MUX_STAT_SWITCHING = true)) := by refine ⟨?_, ?_, ?_, ?_, ?_, ?_⟩ <;> decide +kernel

theorem witness_ClockStartUp_2 :
    (((wStage4.side SideId.s0).mode = Mode.reset) ∧ ((wStage4.side SideId.s0).clk.asserted = 0) ∧ ((wStage4.side SideId.s0).clk.stage = 4) ∧ ((wStage4.side SideId.s0).flag F.CK_SYSPLL_LOCK = false) ∧ ((wStage4.side SideId.s0).flag F.CK_XLOSS_VALID = false)) ∧
    (((wStage2.side SideId.s0).mode = Mode.reset) ∧ ((wStage2.side SideId.s0).clk.asserted = 0) ∧ (2 ≤ (wStage2.side SideId.s0).clk.stage) ∧ ((wStage2.side SideId.s0).flag F.CK_XLOSS_VALID = false)) ∧
    (((wStage3.side SideId.s0).mode = Mode.reset) ∧ ((wStage3.side SideId.s0).clk.asserted = 0) ∧ ((wStage3.side SideId.s0).clk.stage = 3)) ∧
    (((wStage5.side SideId.s0).mode = Mode.reset) ∧ ((wStage5.side SideId.s0).clk.asserted = 0) ∧ ((wStage5.side SideId.s0).clk.stage = 5)) := by refine ⟨?_, ?_, ?_, ?_⟩ <;> decide +kernel

theorem witness_ClockLossCoasts_1 :
    (((wCalibrated.side SideId.s0).clocked = true) ∧ ((wCalibrated.side SideId.s0).flag F.CK_XLOSS_VALID = false) ∧ (0 < 2 ^ 16) ∧ ((wCalibrated.side SideId.s0).flag F.CK_XMON_STAT_CAL_DONE = true) ∧ (8 * 0 < 7 * (wCalibrated.side SideId.s0).get F.CK_XMON_CNT_CAL)) ∧
    (((wCalibrated.side SideId.s0).clocked = true) ∧ ((wCalibrated.side SideId.s0).flag F.CK_XLOSS_VALID = false) ∧ (691 < 2 ^ 16) ∧ ((wCalibrated.side SideId.s0).flag F.CK_XMON_STAT_CAL_DONE = true) ∧ (7 * (wCalibrated.side SideId.s0).get F.CK_XMON_CNT_CAL ≤ 8 * 691) ∧ (9 * (wCalibrated.side SideId.s0).get F.CK_XMON_CNT_CAL < 8 * 691)) ∧
    (((wReady.side SideId.s0).clocked = true) ∧ ((wReady.side SideId.s0).flag F.CK_XLOSS_VALID = false) ∧ (10 ≤ 10) ∧ (10 ≤ 30)) ∧
    (((wCalibrated.side SideId.s0).clocked = true) ∧ ((wCalibrated.side SideId.s0).flag F.CK_XLOSS_VALID = false) ∧ ((wCalibrated.side SideId.s0).flag F.CK_SYSPLL_LOCK = true)) ∧
    (((wStage2.side SideId.s0).mode = Mode.reset) ∧ (2 ≤ (wStage2.side SideId.s0).clk.stage) ∧ ((wStage2.side SideId.s0).flag F.CK_XLOSS_VALID = false) ∧ (1 = 5 → (wStage2.side SideId.s0).flag F.CK_SYSPLL_LOCK = true)) ∧
    (((wStage2.side SideId.s0).mode = Mode.reset) ∧ (2 ≤ (wStage2.side SideId.s0).clk.stage) ∧ ((wStage2.side SideId.s0).flag F.CK_XLOSS_VALID = false) ∧ (4 = 5 → (wStage2.side SideId.s0).flag F.CK_SYSPLL_LOCK = true)) := by refine ⟨?_, ?_, ?_, ?_, ?_, ?_⟩ <;> decide +kernel

theorem witness_ClockLossCoasts_2 :
    (((wStage4Locked.side SideId.s0).mode = Mode.reset) ∧ (2 ≤ (wStage4Locked.side SideId.s0).clk.stage) ∧ ((wStage4Locked.side SideId.s0).flag F.CK_XLOSS_VALID = false) ∧ (5 = 5 → (wStage4Locked.side SideId.s0).flag F.CK_SYSPLL_LOCK = true)) ∧
    ((538 < 2 ^ 16) ∧ ((wCalibrated.side SideId.s0).alive = true) ∧ ((wCalibrated.side SideId.s0).flag F.CK_XMON_STAT_CAL_DONE = true) ∧ (7 * (wCalibrated.side SideId.s0).get F.CK_XMON_CNT_CAL ≤ 8 * 538) ∧ (8 * 538 ≤ 9 * (wCalibrated.side SideId.s0).get F.CK_XMON_CNT_CAL)) := by refine ⟨?_, ?_⟩ <;> decide +kernel

theorem witness_GatesAndClkobs_1 :
    (((wReady.side SideId.s0).alive = true) ∧ (gateExists (0 : Fin 41).val = true) ∧ (wReady.mayWrite SideId.s0 Writer.firmware = true) ∧ ((wReady.side SideId.s0).gateHard (0 : Fin 41).val = false) ∧ ((wReady.side SideId.s0).gateOpen (0 : Fin 41).val = true)) ∧
    (((wClosing.side SideId.s0).alive = true) ∧ (gateExists (33 : Fin 41).val = true) ∧ ((wClosing.side SideId.s0).clk.closing.testBit (33 : Fin 41).val = true) ∧ ((wClosing.side SideId.s0).fabBusy (33 : Fin 41).val = false) ∧ ((∀ (k : Fin 32), (wClosing.side SideId.s0).cores[k].inRow = false) ∧ (wClosing.side SideId.s0).cross.inRow = false ∧ (wClosing.side SideId.s0).gauge.waits = none ∧ (wClosing.side SideId.s0).pages.unfinished = []) ∧ ((wClosing.side SideId.s0).clk.held = [] ∧ (wClosing.side SideId.s0).dma.job = none ∧ (wClosing.side SideId.s0).fab.wait = [])) ∧
    (((wHardGate.side SideId.s0).alive = true) ∧ (gateExists (0 : Fin 41).val = true) ∧ (wHardGate.mayWrite SideId.s0 Writer.firmware = true) ∧ ((wHardGate.side SideId.s0).gateHard (0 : Fin 41).val = true) ∧ ((wHardGate.side SideId.s0).gateOpen (0 : Fin 41).val = true) ∧ ((wHardGate.side SideId.s0).fabBusy (0 : Fin 41).val = false) ∧ ((∀ (k : Fin 32), (wHardGate.side SideId.s0).cores[k].inRow = false) ∧ (wHardGate.side SideId.s0).cross.inRow = false ∧ (wHardGate.side SideId.s0).gauge.waits = none ∧ (wHardGate.side SideId.s0).pages.unfinished = []) ∧ ((wHardGate.side SideId.s0).clk.held = [] ∧ (wHardGate.side SideId.s0).dma.job = none ∧ (wHardGate.side SideId.s0).fab.wait = [])) ∧
    (((wReady.side SideId.s0).alive = true) ∧ (gateExists (0 : Fin 41).val = true) ∧ (wReady.mayWrite SideId.s0 Writer.firmware = true) ∧ ((wReady.side SideId.s0).clk.held = [] ∧ (wReady.side SideId.s0).dma.job = none ∧ (wReady.side SideId.s0).fab.wait = [])) ∧
    (((wCrossClosing.side SideId.s0).alive = true) ∧ (gateExists (32 : Fin 41).val = true) ∧ ((32 : Fin 41).val = 32) ∧ ((wCrossClosing.side SideId.s0).clk.closing = 2 ^ 32) ∧ ((wCrossClosing.side SideId.s0).gateOpen 32 = true) ∧ ((wCrossClosing.side SideId.s0).clk.held = [] ∧ (wCrossClosing.side SideId.s0).dma.job = none ∧ (wCrossClosing.side SideId.s0).fab.wait = []) ∧ (wCrossClosing.mayWrite SideId.s0 Writer.firmware = true)) ∧
    ((wReady.mayWrite SideId.s0 Writer.firmware = true) ∧ ((wReady.side SideId.s0).get F.CK_OBS_SEL ≠ (31 : Fin 32).val) ∧ ((wReady.side SideId.s0).clk.obsSel ≠ (31 : Fin 32).val) ∧ ((wReady.side SideId.s0).obsRuns (31 : Fin 32).val = true) ∧ ((wReady.side SideId.s0).obsRuns (wReady.side SideId.s0).clk.obsSel = true)) := by refine ⟨?_, ?_, ?_, ?_, ?_, ?_⟩ <;> decide +kernel

theorem witness_GatesAndClkobs_2 :
    ((wReady.mayWrite SideId.s0 Writer.firmware = true) ∧ ((wReady.side SideId.s0).get F.CK_OBS_SEL ≠ (0 : Fin 32).val) ∧ ((wReady.side SideId.s0).clk.obsSel ≠ (0 : Fin 32).val) ∧ ((wReady.side SideId.s0).obsRuns (0 : Fin 32).val = false)) ∧
    ((wObsStopped.mayWrite SideId.s0 Writer.firmware = true) ∧ ((wObsStopped.side SideId.s0).get F.CK_OBS_SEL ≠ (31 : Fin 32).val) ∧ ((wObsStopped.side SideId.s0).clk.obsSel ≠ (31 : Fin 32).val) ∧ ((wObsStopped.side SideId.s0).obsRuns (31 : Fin 32).val = true) ∧ ((wObsStopped.side SideId.s0).obsRuns (wObsStopped.side SideId.s0).clk.obsSel = false)) ∧
    ((wObsWaits.mayWrite SideId.s0 Writer.firmware = true) ∧ ((wObsWaits.side SideId.s0).get F.CK_OBS_SEL ≠ (31 : Fin 32).val) ∧ ((wObsWaits.side SideId.s0).clk.obsSel ≠ (31 : Fin 32).val) ∧ ((wObsWaits.side SideId.s0).flag F.CK_MUX_STAT_OBS_SWITCHING = true) ∧ ((wObsWaits.side SideId.s0).obsRuns ((wObsWaits.side SideId.s0).get F.CK_OBS_SEL) = true)) := by refine ⟨?_, ?_, ?_⟩ <;> decide +kernel

theorem witness_Multiplies_1 :
    (((Instr.tap .s0 0 ⟨15, ⟨.x, .postInc 1⟩, ⟨.c, .ind 2⟩, 3, 1⟩, FSel.add) ∈ if true = true then [(Instr.tap SideId.s0 (0 : Fin 32) (⟨15, ⟨.x, .postInc 1⟩, ⟨.c, .ind 2⟩, 3, 1⟩ : FmtM), FSel.add), (Instr.taps SideId.s0 (0 : Fin 32) (⟨15, ⟨.x, .postInc 1⟩, ⟨.c, .ind 2⟩, 3, 1⟩ : FmtM), FSel.sub), (Instr.tapl SideId.s0 (0 : Fin 32) (⟨15, ⟨.x, .postInc 1⟩, ⟨.c, .ind 2⟩, 3, 1⟩ : FmtM), FSel.load), (Instr.tapn SideId.s0 (0 : Fin 32) (⟨15, ⟨.x, .postInc 1⟩, ⟨.c, .ind 2⟩, 3, 1⟩ : FmtM), FSel.neg)] else [(Instr.macmMac SideId.s0 (0 : Fin 32) (⟨15, ⟨.x, .postInc 1⟩, ⟨.c, .ind 2⟩, 3, 1⟩ : FmtM), FSel.add), (Instr.macmMsu SideId.s0 (0 : Fin 32) (⟨15, ⟨.x, .postInc 1⟩, ⟨.c, .ind 2⟩, 3, 1⟩ : FmtM), FSel.sub), (Instr.macmMpy SideId.s0 (0 : Fin 32) (⟨15, ⟨.x, .postInc 1⟩, ⟨.c, .ind 2⟩, 3, 1⟩ : FmtM), FSel.load), (Instr.macmMpyn SideId.s0 (0 : Fin 32) (⟨15, ⟨.x, .postInc 1⟩, ⟨.c, .ind 2⟩, 3, 1⟩ : FmtM), FSel.neg)]) ∧ ((wCore.side SideId.s0).Issues (0 : Fin 32) (if true = true then StOp.tap (Instr.tap .s0 0 ⟨15, ⟨.x, .postInc 1⟩, ⟨.c, .ind 2⟩, 3, 1⟩, FSel.add).snd (⟨15, ⟨.x, .postInc 1⟩, ⟨.c, .ind 2⟩, 3, 1⟩ : FmtM) else StOp.macm (Instr.tap .s0 0 ⟨15, ⟨.x, .postInc 1⟩, ⟨.c, .ind 2⟩, 3, 1⟩, FSel.add).snd (⟨15, ⟨.x, .postInc 1⟩, ⟨.c, .ind 2⟩, 3, 1⟩ : FmtM))) ∧ (true = true ∧ mofTapOk (⟨15, ⟨.x, .postInc 1⟩, ⟨.c, .ind 2⟩, 3, 1⟩ : FmtM).mofa = true)) ∧
    (((Instr.macmMac .s0 0 ⟨15, ⟨.x, .postInc 1⟩, ⟨.c, .ind 2⟩, 3, 1⟩, FSel.add) ∈ if false = true then [(Instr.tap SideId.s0 (0 : Fin 32) (⟨15, ⟨.x, .postInc 1⟩, ⟨.c, .ind 2⟩, 3, 1⟩ : FmtM), FSel.add), (Instr.taps SideId.s0 (0 : Fin 32) (⟨15, ⟨.x, .postInc 1⟩, ⟨.c, .ind 2⟩, 3, 1⟩ : FmtM), FSel.sub), (Instr.tapl SideId.s0 (0 : Fin 32) (⟨15, ⟨.x, .postInc 1⟩, ⟨.c, .ind 2⟩, 3, 1⟩ : FmtM), FSel.load), (Instr.tapn SideId.s0 (0 : Fin 32) (⟨15, ⟨.x, .postInc 1⟩, ⟨.c, .ind 2⟩, 3, 1⟩ : FmtM), FSel.neg)] else [(Instr.macmMac SideId.s0 (0 : Fin 32) (⟨15, ⟨.x, .postInc 1⟩, ⟨.c, .ind 2⟩, 3, 1⟩ : FmtM), FSel.add), (Instr.macmMsu SideId.s0 (0 : Fin 32) (⟨15, ⟨.x, .postInc 1⟩, ⟨.c, .ind 2⟩, 3, 1⟩ : FmtM), FSel.sub), (Instr.macmMpy SideId.s0 (0 : Fin 32) (⟨15, ⟨.x, .postInc 1⟩, ⟨.c, .ind 2⟩, 3, 1⟩ : FmtM), FSel.load), (Instr.macmMpyn SideId.s0 (0 : Fin 32) (⟨15, ⟨.x, .postInc 1⟩, ⟨.c, .ind 2⟩, 3, 1⟩ : FmtM), FSel.neg)]) ∧ ((wCore.side SideId.s0).Issues (0 : Fin 32) (if false = true then StOp.tap (Instr.macmMac .s0 0 ⟨15, ⟨.x, .postInc 1⟩, ⟨.c, .ind 2⟩, 3, 1⟩, FSel.add).snd (⟨15, ⟨.x, .postInc 1⟩, ⟨.c, .ind 2⟩, 3, 1⟩ : FmtM) else StOp.macm (Instr.macmMac .s0 0 ⟨15, ⟨.x, .postInc 1⟩, ⟨.c, .ind 2⟩, 3, 1⟩, FSel.add).snd (⟨15, ⟨.x, .postInc 1⟩, ⟨.c, .ind 2⟩, 3, 1⟩ : FmtM))) ∧ (¬(false = true ∧ mofTapOk (⟨15, ⟨.x, .postInc 1⟩, ⟨.c, .ind 2⟩, 3, 1⟩ : FmtM).mofa = true))) ∧
    (((wCore.side SideId.s0).Issues (0 : Fin 32) (StOp.macr FSel.add (⟨15, 7, false, 1, ⟨.x, .postInc 1⟩, 2, 1, 3, 1⟩ : FmtR))) ∧ ((⟨15, 7, false, 1, ⟨.x, .postInc 1⟩, 2, 1, 3, 1⟩ : FmtR).csel = false ∧ (⟨15, 7, false, 1, ⟨.x, .postInc 1⟩, 2, 1, 3, 1⟩ : FmtR).mdir = 1)) ∧
    (((wCore.side SideId.s0).Issues (0 : Fin 32) (StOp.macr FSel.add (⟨15, 7, false, 1, ⟨.x, .postInc 1⟩, 2, 2, 3, 1⟩ : FmtR))) ∧ (¬((⟨15, 7, false, 1, ⟨.x, .postInc 1⟩, 2, 2, 3, 1⟩ : FmtR).csel = false ∧ (⟨15, 7, false, 1, ⟨.x, .postInc 1⟩, 2, 2, 3, 1⟩ : FmtR).mdir = 1))) ∧
    (((wCore.side SideId.s0).Issues (0 : Fin 32) (StOp.macr FSel.add (⟨15, 7, false, 1, ⟨.x, .postInc 1⟩, 2, 2, 3, 1⟩ : FmtR))) ∧ ((⟨15, 7, false, 1, ⟨.x, .postInc 1⟩, 2, 2, 3, 1⟩ : FmtR).csel = false ∧ (⟨15, 7, false, 1, ⟨.x, .postInc 1⟩, 2, 2, 3, 1⟩ : FmtR).mdir = 2 ∧ (wCore.side SideId.s0).mofWrites ((0 : Fin 32).val) (⟨15, 7, false, 1, ⟨.x, .postInc 1⟩, 2, 2, 3, 1⟩ : FmtR).mof = true)) ∧
    (((wCore.side SideId.s0).Issues (0 : Fin 32) (StOp.macr FSel.add (⟨15, 7, false, 1, ⟨.x, .postInc 1⟩, 2, 1, 3, 1⟩ : FmtR))) ∧ (¬((⟨15, 7, false, 1, ⟨.x, .postInc 1⟩, 2, 1, 3, 1⟩ : FmtR).csel = false ∧ (⟨15, 7, false, 1, ⟨.x, .postInc 1⟩, 2, 1, 3, 1⟩ : FmtR).mdir = 2 ∧ (wCore.side SideId.s0).mofWrites ((0 : Fin 32).val) (⟨15, 7, false, 1, ⟨.x, .postInc 1⟩, 2, 1, 3, 1⟩ : FmtR).mof = true))) := by refine ⟨?_, ?_, ?_, ?_, ?_, ?_⟩ <;> (unfold Side.Issues; decide +kernel)

theorem witness_Multiplies_2 :
    (((wCore.side SideId.s0).Issues (0 : Fin 32) (StOp.macr FSel.sub (⟨15, 7, false, 1, ⟨.x, .postInc 1⟩, 2, 1, 3, 1⟩ : FmtR))) ∧ ((⟨15, 7, false, 1, ⟨.x, .postInc 1⟩, 2, 1, 3, 1⟩ : FmtR).csel = false ∧ (⟨15, 7, false, 1, ⟨.x, .postInc 1⟩, 2, 1, 3, 1⟩ : FmtR).mdir = 1)) ∧
    (((wCore.side SideId.s0).Issues (0 : Fin 32) (StOp.macr FSel.sub (⟨15, 7, false, 1, ⟨.x, .postInc 1⟩, 2, 2, 3, 1⟩ : FmtR))) ∧ (¬((⟨15, 7, false, 1, ⟨.x, .postInc 1⟩, 2, 2, 3, 1⟩ : FmtR).csel = false ∧ (⟨15, 7, false, 1, ⟨.x, .postInc 1⟩, 2, 2, 3, 1⟩ : FmtR).mdir = 1))) ∧
    (((wCore.side SideId.s0).Issues (0 : Fin 32) (StOp.macr FSel.sub (⟨15, 7, false, 1, ⟨.x, .postInc 1⟩, 2, 2, 3, 1⟩ : FmtR))) ∧ ((⟨15, 7, false, 1, ⟨.x, .postInc 1⟩, 2, 2, 3, 1⟩ : FmtR).csel = false ∧ (⟨15, 7, false, 1, ⟨.x, .postInc 1⟩, 2, 2, 3, 1⟩ : FmtR).mdir = 2 ∧ (wCore.side SideId.s0).mofWrites ((0 : Fin 32).val) (⟨15, 7, false, 1, ⟨.x, .postInc 1⟩, 2, 2, 3, 1⟩ : FmtR).mof = true)) ∧
    (((wCore.side SideId.s0).Issues (0 : Fin 32) (StOp.macr FSel.sub (⟨15, 7, false, 1, ⟨.x, .postInc 1⟩, 2, 1, 3, 1⟩ : FmtR))) ∧ (¬((⟨15, 7, false, 1, ⟨.x, .postInc 1⟩, 2, 1, 3, 1⟩ : FmtR).csel = false ∧ (⟨15, 7, false, 1, ⟨.x, .postInc 1⟩, 2, 1, 3, 1⟩ : FmtR).mdir = 2 ∧ (wCore.side SideId.s0).mofWrites ((0 : Fin 32).val) (⟨15, 7, false, 1, ⟨.x, .postInc 1⟩, 2, 1, 3, 1⟩ : FmtR).mof = true))) ∧
    (((wCore.side SideId.s0).Issues (0 : Fin 32) (StOp.macr FSel.load (⟨15, 7, false, 1, ⟨.x, .postInc 1⟩, 2, 1, 3, 1⟩ : FmtR))) ∧ ((⟨15, 7, false, 1, ⟨.x, .postInc 1⟩, 2, 1, 3, 1⟩ : FmtR).csel = false ∧ (⟨15, 7, false, 1, ⟨.x, .postInc 1⟩, 2, 1, 3, 1⟩ : FmtR).mdir = 1)) ∧
    (((wCore.side SideId.s0).Issues (0 : Fin 32) (StOp.macr FSel.load (⟨15, 7, false, 1, ⟨.x, .postInc 1⟩, 2, 2, 3, 1⟩ : FmtR))) ∧ (¬((⟨15, 7, false, 1, ⟨.x, .postInc 1⟩, 2, 2, 3, 1⟩ : FmtR).csel = false ∧ (⟨15, 7, false, 1, ⟨.x, .postInc 1⟩, 2, 2, 3, 1⟩ : FmtR).mdir = 1))) := by refine ⟨?_, ?_, ?_, ?_, ?_, ?_⟩ <;> (unfold Side.Issues; decide +kernel)

theorem witness_Multiplies_3 :
    (((wCore.side SideId.s0).Issues (0 : Fin 32) (StOp.macr FSel.load (⟨15, 7, false, 1, ⟨.x, .postInc 1⟩, 2, 2, 3, 1⟩ : FmtR))) ∧ ((⟨15, 7, false, 1, ⟨.x, .postInc 1⟩, 2, 2, 3, 1⟩ : FmtR).csel = false ∧ (⟨15, 7, false, 1, ⟨.x, .postInc 1⟩, 2, 2, 3, 1⟩ : FmtR).mdir = 2 ∧ (wCore.side SideId.s0).mofWrites ((0 : Fin 32).val) (⟨15, 7, false, 1, ⟨.x, .postInc 1⟩, 2, 2, 3, 1⟩ : FmtR).mof = true)) ∧
    (((wCore.side SideId.s0).Issues (0 : Fin 32) (StOp.macr FSel.load (⟨15, 7, false, 1, ⟨.x, .postInc 1⟩, 2, 1, 3, 1⟩ : FmtR))) ∧ (¬((⟨15, 7, false, 1, ⟨.x, .postInc 1⟩, 2, 1, 3, 1⟩ : FmtR).csel = false ∧ (⟨15, 7, false, 1, ⟨.x, .postInc 1⟩, 2, 1, 3, 1⟩ : FmtR).mdir = 2 ∧ (wCore.side SideId.s0).mofWrites ((0 : Fin 32).val) (⟨15, 7, false, 1, ⟨.x, .postInc 1⟩, 2, 1, 3, 1⟩ : FmtR).mof = true))) ∧
    (((wCore.side SideId.s0).Issues (0 : Fin 32) (StOp.macr FSel.neg (⟨15, 7, false, 1, ⟨.x, .postInc 1⟩, 2, 1, 3, 1⟩ : FmtR))) ∧ ((⟨15, 7, false, 1, ⟨.x, .postInc 1⟩, 2, 1, 3, 1⟩ : FmtR).csel = false ∧ (⟨15, 7, false, 1, ⟨.x, .postInc 1⟩, 2, 1, 3, 1⟩ : FmtR).mdir = 1)) ∧
    (((wCore.side SideId.s0).Issues (0 : Fin 32) (StOp.macr FSel.neg (⟨15, 7, false, 1, ⟨.x, .postInc 1⟩, 2, 2, 3, 1⟩ : FmtR))) ∧ (¬((⟨15, 7, false, 1, ⟨.x, .postInc 1⟩, 2, 2, 3, 1⟩ : FmtR).csel = false ∧ (⟨15, 7, false, 1, ⟨.x, .postInc 1⟩, 2, 2, 3, 1⟩ : FmtR).mdir = 1))) ∧
    (((wCore.side SideId.s0).Issues (0 : Fin 32) (StOp.macr FSel.neg (⟨15, 7, false, 1, ⟨.x, .postInc 1⟩, 2, 2, 3, 1⟩ : FmtR))) ∧ ((⟨15, 7, false, 1, ⟨.x, .postInc 1⟩, 2, 2, 3, 1⟩ : FmtR).csel = false ∧ (⟨15, 7, false, 1, ⟨.x, .postInc 1⟩, 2, 2, 3, 1⟩ : FmtR).mdir = 2 ∧ (wCore.side SideId.s0).mofWrites ((0 : Fin 32).val) (⟨15, 7, false, 1, ⟨.x, .postInc 1⟩, 2, 2, 3, 1⟩ : FmtR).mof = true)) ∧
    (((wCore.side SideId.s0).Issues (0 : Fin 32) (StOp.macr FSel.neg (⟨15, 7, false, 1, ⟨.x, .postInc 1⟩, 2, 1, 3, 1⟩ : FmtR))) ∧ (¬((⟨15, 7, false, 1, ⟨.x, .postInc 1⟩, 2, 1, 3, 1⟩ : FmtR).csel = false ∧ (⟨15, 7, false, 1, ⟨.x, .postInc 1⟩, 2, 1, 3, 1⟩ : FmtR).mdir = 2 ∧ (wCore.side SideId.s0).mofWrites ((0 : Fin 32).val) (⟨15, 7, false, 1, ⟨.x, .postInc 1⟩, 2, 1, 3, 1⟩ : FmtR).mof = true))) := by refine ⟨?_, ?_, ?_, ?_, ?_, ?_⟩ <;> (unfold Side.Issues; decide +kernel)

theorem witness_DoublesAndLoadsOfAccumulators_1 :
    (((wCore.side SideId.s0).Issues (0 : Fin 32) (StOp.dmac FSel.add (⟨15, false, 1, ⟨.x, .postInc 1⟩, ⟨.c, .ind 2⟩, 3, 1⟩ : FmtD)))) ∧
    (((wCore.side SideId.s0).Issues (0 : Fin 32) (StOp.dmac FSel.sub (⟨15, false, 1, ⟨.x, .postInc 1⟩, ⟨.c, .ind 2⟩, 3, 1⟩ : FmtD)))) ∧
    (((wCore.side SideId.s0).Issues (0 : Fin 32) (StOp.dmac FSel.load (⟨15, false, 1, ⟨.x, .postInc 1⟩, ⟨.c, .ind 2⟩, 3, 1⟩ : FmtD)))) ∧
    (((wCore.side SideId.s0).Issues (0 : Fin 32) (StOp.dmac FSel.neg (⟨15, false, 1, ⟨.x, .postInc 1⟩, ⟨.c, .ind 2⟩, 3, 1⟩ : FmtD)))) ∧
    (((wCore.side SideId.s0).Issues (0 : Fin 32) (StOp.lda FSel.add (⟨15, ⟨.x, .postInc 1⟩, 7, 3, true, true⟩ : LdaF)))) ∧
    (((wCore.side SideId.s0).Issues (0 : Fin 32) (StOp.lda FSel.sub (⟨15, ⟨.x, .postInc 1⟩, 7, 3, true, true⟩ : LdaF)))) := by refine ⟨?_, ?_, ?_, ?_, ?_, ?_⟩ <;> (unfold Side.Issues; decide +kernel)

theorem witness_DoublesAndLoadsOfAccumulators_2 :
    (((wCore.side SideId.s0).Issues (0 : Fin 32) (StOp.lda FSel.load (⟨15, ⟨.x, .postInc 1⟩, 7, 3, true, true⟩ : LdaF)))) ∧
    (((wCore.side SideId.s0).Issues (0 : Fin 32) (StOp.lda FSel.neg (⟨15, ⟨.x, .postInc 1⟩, 7, 3, true, true⟩ : LdaF)))) := by refine ⟨?_, ?_⟩ <;> (unfold Side.Issues; decide +kernel)

theorem witness_AccumulatorArithmetic_1 :
    (((wCore.side SideId.s0).Issues (0 : Fin 32) (StOp.arith AFn.add (⟨15, 0, 1, 2, 15⟩ : FmtA)))) ∧
    (((wCore.side SideId.s0).Issues (0 : Fin 32) (StOp.arith AFn.sub (⟨15, 0, 1, 2, 15⟩ : FmtA)))) ∧
    (((wCore.side SideId.s0).Issues (0 : Fin 32) (StOp.arith AFn.neg (⟨15, 0, 1, 2, 15⟩ : FmtA)))) ∧
    (((wCore.side SideId.s0).Issues (0 : Fin 32) (StOp.arith AFn.abs (⟨15, 0, 1, 2, 15⟩ : FmtA)))) ∧
    (((wCore.side SideId.s0).Issues (0 : Fin 32) (StOp.arith AFn.ash (⟨15, 0, 1, 2, 15⟩ : FmtA)))) ∧
    (((wCore.side SideId.s0).Issues (0 : Fin 32) (StOp.arith AFn.max (⟨15, 0, 1, 2, 15⟩ : FmtA)))) := by refine ⟨?_, ?_, ?_, ?_, ?_, ?_⟩ <;> (unfold Side.Issues; decide +kernel)

theorem witness_AccumulatorArithmetic_2 :
    (((wCore.side SideId.s0).Issues (0 : Fin 32) (StOp.arith AFn.min (⟨15, 0, 1, 2, 15⟩ : FmtA)))) ∧
    (((wCore.side SideId.s0).Issues (0 : Fin 32) (StOp.arith AFn.reserved (⟨15, 0, 1, 2, 15⟩ : FmtA)))) ∧
    (((0 : BitVec 4) = 0)) ∧
    (((1 : BitVec 4) ≠ 0) ∧ (wLoopErr.side0.flag (F.SK_OVF_PC_VALID (0 : Fin 32).val) = true)) ∧
    (((1 : BitVec 4) ≠ 0) ∧ (Side.reset.flag (F.SK_OVF_PC_VALID (0 : Fin 32).val) = false)) :=
  ⟨by unfold Side.Issues; decide +kernel,
    by unfold Side.Issues; decide +kernel,
    by decide +kernel,
    by decide +kernel,
    by decide +kernel⟩

theorem witness_RegisterLoads :
    (((wCore.side SideId.s0).Issues (0 : Fin 32) (StOp.ld (⟨15, ⟨.x, .postInc 1⟩, 7⟩ : LdF)))) ∧
    (((⟨15, ⟨.x, .postInc 1⟩, 7, 3, 15, false⟩ : LdwF).dest = false) ∧ ((wCore.side SideId.s0).Issues (0 : Fin 32) (StOp.ldw (⟨15, ⟨.x, .postInc 1⟩, 7, 3, 15, false⟩ : LdwF)))) ∧
    (((⟨15, ⟨.x, .postInc 1⟩, 7, 3, 15, true⟩ : LdwF).dest = true) ∧ ((wCore.side SideId.s0).Issues (0 : Fin 32) (StOp.ldw (⟨15, ⟨.x, .postInc 1⟩, 7, 3, 15, true⟩ : LdwF)))) ∧
    (((wCore.side SideId.s0).Issues (0 : Fin 32) (StOp.mov (⟨15, 0, 7⟩ : MovF)))) ∧
    (((wCore.side SideId.s0).Issues (0 : Fin 32) (StOp.cmov (⟨15, 0, 7, 3⟩ : CmovF)))) := by refine ⟨?_, ?_, ?_, ?_, ?_⟩ <;> (unfold Side.Issues; decide +kernel)

theorem witness_StoresAndRoundingMoves_1 :
    (((wCore.side SideId.s0).Issues (0 : Fin 32) (StOp.st (⟨15, ⟨.x, .postInc 1⟩, 7⟩ : LdF))) ∧ ((wCore.side SideId.s0).mofWrites ((0 : Fin 32).val) (⟨15, ⟨.x, .postInc 1⟩, 7⟩ : LdF).mof = true)) ∧
    (((wCore.side SideId.s0).Issues (0 : Fin 32) (StOp.st (⟨15, ⟨.c, .ind 1⟩, 7⟩ : LdF))) ∧ (¬(wCore.side SideId.s0).mofWrites ((0 : Fin 32).val) (⟨15, ⟨.c, .ind 1⟩, 7⟩ : LdF).mof = true)) ∧
    (((wCore.side SideId.s0).Issues (0 : Fin 32) (StOp.sta (⟨15, ⟨.x, .postInc 1⟩, 3, 15⟩ : StaF))) ∧ ((wCore.side SideId.s0).mofWrites ((0 : Fin 32).val) (⟨15, ⟨.x, .postInc 1⟩, 3, 15⟩ : StaF).mof = true)) ∧
    (((wCore.side SideId.s0).Issues (0 : Fin 32) (StOp.sta (⟨15, ⟨.c, .ind 1⟩, 3, 15⟩ : StaF))) ∧ (¬(wCore.side SideId.s0).mofWrites ((0 : Fin 32).val) (⟨15, ⟨.c, .ind 1⟩, 3, 15⟩ : StaF).mof = true)) ∧
    (((wCore.side SideId.s0).Issues (0 : Fin 32) (StOp.mva (⟨15, 7, 3, 15⟩ : MvaF)))) ∧
    (((wCore.side SideId.s0).Issues (0 : Fin 32) (StOp.dsta (⟨15, ⟨.x, .postInc 1⟩, 1, 3, 15⟩ : DstaF)))) := by refine ⟨?_, ?_, ?_, ?_, ?_, ?_⟩ <;> (unfold Side.Issues; decide +kernel)

theorem witness_StoresAndRoundingMoves_2 :
    (((wCore.side SideId.s0).Issues (0 : Fin 32) (StOp.dsta (⟨15, ⟨.c, .ind 1⟩, 1, 3, 15⟩ : DstaF))) ∧ (¬(wCore.side SideId.s0).mofWrites ((0 : Fin 32).val) (⟨15, ⟨.c, .ind 1⟩, 1, 3, 15⟩ : DstaF).mof = true)) ∧
    (((wCore.side SideId.s0).Issues (0 : Fin 32) (StOp.dmva (⟨15, 1, 3, 15⟩ : DmvaF)))) ∧
    ((-8 ≤ (0 : Int)) ∧ ((0 : Int) ≤ 7)) :=
  ⟨by unfold Side.Issues; decide +kernel,
    by unfold Side.Issues; decide +kernel,
    by decide +kernel⟩

theorem witness_SharedRegistersAndFlow_1 :
    (((wCore.side SideId.s0).Issues (0 : Fin 32) (StOp.pset (⟨2, 7, 65535⟩ : PsetF)))) ∧
    (((wCore.side SideId.s0).Issues (0 : Fin 32) (StOp.padd (⟨7, 65535⟩ : PaddF)))) ∧
    (((wCore.side SideId.s0).Issues (0 : Fin 32) (StOp.pmov (⟨0, 7, 1, 0⟩ : PmovF)))) ∧
    (((wCore.side SideId.s0).Issues (0 : Fin 32) (StOp.clrf (0 : Fin 8)))) ∧
    (((wCore.side SideId.s0).Issues (0 : Fin 32) (StOp.loop (⟨false, 0, 16383, 65535⟩ : LoopF)))) ∧
    (((wCore.side SideId.s0).Issues (0 : Fin 32) (StOp.jmp (⟨15, 0, 16383⟩ : JmpF))) ∧ ((⟨15, 0, 16383⟩ : JmpF).cond = 0 ∨ ((⟨15, 0, 16383⟩ : JmpF).cond = 1 ∧ ∃ l, laneOn (⟨15, 0, 16383⟩ : JmpF).le l = true ∧ (wCore.side SideId.s0).cores[(0 : Fin 32)].r.z.getLsbD ↑l = true) ∨ ((⟨15, 0, 16383⟩ : JmpF).cond = 2 ∧ (⟨15, 0, 16383⟩ : JmpF).le ≠ 0 ∧ ∀ (l : Fin 4), laneOn (⟨15, 0, 16383⟩ : JmpF).le l = true → (wCore.side SideId.s0).cores[(0 : Fin 32)].r.z.getLsbD ↑l = true) ∨ ((⟨15, 0, 16383⟩ : JmpF).cond = 3 ∧ ∃ l, laneOn (⟨15, 0, 16383⟩ : JmpF).le l = true ∧ (wCore.side SideId.s0).cores[(0 : Fin 32)].r.n.getLsbD ↑l = true) ∨ (⟨15, 0, 16383⟩ : JmpF).cond = 4 ∧ (⟨15, 0, 16383⟩ : JmpF).le ≠ 0 ∧ ∀ (l : Fin 4), laneOn (⟨15, 0, 16383⟩ : JmpF).le l = true → (wCore.side SideId.s0).cores[(0 : Fin 32)].r.n.getLsbD ↑l = true)) := by refine ⟨?_, ?_, ?_, ?_, ?_, ?_⟩ <;> (unfold Side.Issues; decide +kernel)

theorem witness_SharedRegistersAndFlow_2 :
    (((wCore.side SideId.s0).Issues (0 : Fin 32) (StOp.jmp (⟨15, 7, 16383⟩ : JmpF))) ∧ (¬((⟨15, 7, 16383⟩ : JmpF).cond = 0 ∨ ((⟨15, 7, 16383⟩ : JmpF).cond = 1 ∧ ∃ l, laneOn (⟨15, 7, 16383⟩ : JmpF).le l = true ∧ (wCore.side SideId.s0).cores[(0 : Fin 32)].r.z.getLsbD ↑l = true) ∨ ((⟨15, 7, 16383⟩ : JmpF).cond = 2 ∧ (⟨15, 7, 16383⟩ : JmpF).le ≠ 0 ∧ ∀ (l : Fin 4), laneOn (⟨15, 7, 16383⟩ : JmpF).le l = true → (wCore.side SideId.s0).cores[(0 : Fin 32)].r.z.getLsbD ↑l = true) ∨ ((⟨15, 7, 16383⟩ : JmpF).cond = 3 ∧ ∃ l, laneOn (⟨15, 7, 16383⟩ : JmpF).le l = true ∧ (wCore.side SideId.s0).cores[(0 : Fin 32)].r.n.getLsbD ↑l = true) ∨ (⟨15, 7, 16383⟩ : JmpF).cond = 4 ∧ (⟨15, 7, 16383⟩ : JmpF).le ≠ 0 ∧ ∀ (l : Fin 4), laneOn (⟨15, 7, 16383⟩ : JmpF).le l = true → (wCore.side SideId.s0).cores[(0 : Fin 32)].r.n.getLsbD ↑l = true))) ∧
    (((wCore.side SideId.s0).Issues (0 : Fin 32) StOp.nop)) ∧
    (((wCore.side SideId.s0).Issues (0 : Fin 32) StOp.eor)) ∧
    (((wCore.side SideId.s0).Issues (0 : Fin 32) (StOp.reserved (0 : Fin 64)))) := by refine ⟨?_, ?_, ?_, ?_⟩ <;> (unfold Side.Issues; decide +kernel)

theorem witness_PointersAndFarAccesses_1 :
    (((0 : BitVec 14) = 0)) ∧
    (((1 : BitVec 14) ≠ 0) ∧ ((1 : BitVec 14).toNat ≤ 8192)) ∧
    (((wCore.side SideId.s0).Issues (0 : Fin 32) (if false = true then StOp.fld (⟨15, 7, 3, true⟩ : FarF) else StOp.fst (⟨15, 7, 3, true⟩ : FarF))) ∧ (decide (12 ≤ ((wCore.side SideId.s0).cores[(0 : Fin 32)].r.farAddr (⟨15, 7, 3, true⟩ : FarF).j).fst ∨ (wCore.side SideId.s0).bankOwnerOf ((wCore.side SideId.s0).cores[(0 : Fin 32)].r.farAddr (⟨15, 7, 3, true⟩ : FarF).j).fst ≠ 1 + (0 : Fin 32).val / 4 ∨ (wCore.side SideId.s0).bankOn ((wCore.side SideId.s0).cores[(0 : Fin 32)].r.farAddr (⟨15, 7, 3, true⟩ : FarF).j).fst = false) = true)) ∧
    (((wFarOwned.side SideId.s0).Issues (0 : Fin 32) (if false = true then StOp.fld (⟨15, 7, 3, true⟩ : FarF) else StOp.fst (⟨15, 7, 3, true⟩ : FarF))) ∧ (¬decide (12 ≤ ((wFarOwned.side SideId.s0).cores[(0 : Fin 32)].r.farAddr (⟨15, 7, 3, true⟩ : FarF).j).fst ∨ (wFarOwned.side SideId.s0).bankOwnerOf ((wFarOwned.side SideId.s0).cores[(0 : Fin 32)].r.farAddr (⟨15, 7, 3, true⟩ : FarF).j).fst ≠ 1 + (0 : Fin 32).val / 4 ∨ (wFarOwned.side SideId.s0).bankOn ((wFarOwned.side SideId.s0).cores[(0 : Fin 32)].r.farAddr (⟨15, 7, 3, true⟩ : FarF).j).fst = false) = true)) ∧
    (((wFarLoad.side SideId.s0).alive = true) ∧ ((wFarLoad.side SideId.s0).gateOpen (0 : Fin 32).val = true) ∧ ((wFarLoad.side SideId.s0).upsets = []) ∧ ((wFarLoad.side SideId.s0).cores[(0 : Fin 32)].far = (wFar true) :: []) ∧ ((wFar true).load = true)) ∧
    (((wFarDropped.side SideId.s0).alive = true) ∧ ((wFarDropped.side SideId.s0).gateOpen (0 : Fin 32).val = true) ∧ ((wFarDropped.side SideId.s0).upsets = []) ∧ ((wFarDropped.side SideId.s0).cores[(0 : Fin 32)].far = wFarDrop :: []) ∧ (wFarDrop.load = false) ∧ (wFarDrop.discarded = true)) :=
  ⟨by decide +kernel,
    by decide +kernel,
    by unfold Side.Issues; decide +kernel,
    by unfold Side.Issues; decide +kernel,
    by decide +kernel,
    by decide +kernel⟩

theorem witness_PointersAndFarAccesses_2 :
    (((wFarStore.side SideId.s0).alive = true) ∧ ((wFarStore.side SideId.s0).gateOpen (0 : Fin 32).val = true) ∧ ((wFarStore.side SideId.s0).upsets = []) ∧ ((wFarStore.side SideId.s0).cores[(0 : Fin 32)].far = (wFar false) :: []) ∧ ((wFar false).load = false) ∧ (¬(wFar false).discarded = true)) := by decide +kernel

theorem witness_CoreControlAndRowPulse_1 :
    ((wCoreHalted.Writes SideId.s0 Writer.firmware (F.SK_CTRL_RUN (0 : Fin 32).val).off) ∧ ((wCoreHalted.side SideId.s0).debugOn = true) ∧ ((wCoreHalted.side SideId.s0).cores[(0 : Fin 32)].halted = true) ∧ ((wCoreHalted.side SideId.s0).coreActive (0 : Fin 32) = true) ∧ ((wCoreHalted.side SideId.s0).upsets = [])) ∧
    ((wReady.Writes SideId.s0 Writer.firmware (F.SK_CTRL_RUN (0 : Fin 32).val).off) ∧ ((wReady.side SideId.s0).debugOn = true) ∧ ((wReady.side SideId.s0).cores[(0 : Fin 32)].halted = false)) ∧
    ((wCoreBreak.Writes SideId.s0 Writer.firmware (F.SK_CTRL_RUN (0 : Fin 32).val).off) ∧ ((wCoreBreak.side SideId.s0).coreActive (0 : Fin 32) = true) ∧ ((wCoreBreak.side SideId.s0).cores[(0 : Fin 32)].halted = false) ∧ ((wCoreBreak.side SideId.s0).debugOn = true) ∧ ((wCoreBreak.side SideId.s0).flag (F.SK_BRK_EN (0 : Fin 32).val) = true) ∧ ((wCoreBreak.side SideId.s0).get (F.SK_BRK_ADDR (0 : Fin 32).val) = (wCoreBreak.side SideId.s0).cores[(0 : Fin 32)].pc.toNat) ∧ ((wCoreBreak.side SideId.s0).cores[(0 : Fin 32)].brkPass = false)) ∧
    (((wReset.side SideId.s0).pulsing = false)) ∧
    (((wDone.side SideId.s0).pulsing = true) ∧ ((wDone.side SideId.s0).gateOpen (0 : Fin 32).val = true) ∧ (names (wDone.side SideId.s0).pulse.mask (0 : Fin 32).val = false) ∧ ((wDone.side SideId.s0).producing = true) ∧ ((wDone.side SideId.s0).flag (F.SK_CTRL_RUN (0 : Fin 32).val) = true) ∧ ((wDone.side SideId.s0).cores[(0 : Fin 32)].done = true)) ∧
    (((wCore.side SideId.s0).pulsing = true) ∧ ((wCore.side SideId.s0).gateOpen (0 : Fin 32).val = true) ∧ (names (wCore.side SideId.s0).pulse.mask (0 : Fin 32).val = false) ∧ ((wCore.side SideId.s0).producing = true) ∧ ((wCore.side SideId.s0).flag (F.SK_CTRL_RUN (0 : Fin 32).val) = true) ∧ ((wCore.side SideId.s0).cores[(0 : Fin 32)].done = false) ∧ ((wCore.side SideId.s0).cores[(0 : Fin 32)].inRow = true)) :=
  ⟨by unfold State.Writes; decide +kernel,
    by unfold State.Writes; decide +kernel,
    by unfold State.Writes; decide +kernel,
    by decide +kernel,
    by decide +kernel,
    by decide +kernel⟩

theorem witness_CoreControlAndRowPulse_2 :
    (((wRefill.side SideId.s0).pulsing = true) ∧ ((wRefill.side SideId.s0).gateOpen (0 : Fin 32).val = true) ∧ (names (wRefill.side SideId.s0).pulse.mask (0 : Fin 32).val = false) ∧ ((wRefill.side SideId.s0).producing = true) ∧ ((wRefill.side SideId.s0).flag (F.SK_CTRL_RUN (0 : Fin 32).val) = true) ∧ ((wRefill.side SideId.s0).cores[(0 : Fin 32)].done = false) ∧ ((wRefill.side SideId.s0).cores[(0 : Fin 32)].inRow = false)) ∧
    (((wReady.side SideId.s0).pulsing = true) ∧ ((wReady.side SideId.s0).gateOpen (0 : Fin 32).val = true) ∧ (names (wReady.side SideId.s0).pulse.mask (0 : Fin 32).val = false) ∧ ((wReady.side SideId.s0).producing = false ∨ (wReady.side SideId.s0).flag (F.SK_CTRL_RUN (0 : Fin 32).val) = false)) ∧
    (((wNamed.side SideId.s0).pulsing = true) ∧ ((wNamed.side SideId.s0).gateOpen (0 : Fin 32).val = true) ∧ (names (wNamed.side SideId.s0).pulse.mask (0 : Fin 32).val = true) ∧ ((wNamed.side SideId.s0).cores[(0 : Fin 32)].refill = false)) ∧
    (((wGaugeRefill.side SideId.s0).pulsing = true) ∧ ((wGaugeRefill.side SideId.s0).gateOpen 32 = true)) ∧
    (((wGaugeRefill.side SideId.s0).pulsing = true) ∧ ((wGaugeRefill.side SideId.s0).gateOpen 33 = true)) ∧
    (((wBlend.side SideId.s0).pulsing = true) ∧ ((wBlend.side SideId.s0).awaitsRow = true) ∧ (islandTransmits Island.port = true)) := by refine ⟨?_, ?_, ?_, ?_, ?_, ?_⟩ <;> decide +kernel

theorem witness_RowWork :
    (((wDueCore.side SideId.s0).alive = true) ∧ ((wDueCore.side SideId.s0).gateOpen (0 : Fin 32).val = true) ∧ ((wDueCore.side SideId.s0).pages.due = (8 * (0 : Fin 32).val + (0 : Fin 8).val, 7, (0 : Fin 3).val) :: ([] : List (Nat × Nat × Nat)))) ∧
    (((wDueFeed.side SideId.s0).alive = true) ∧ ((wDueFeed.side SideId.s0).gateOpen 32 = true) ∧ ((wDueFeed.side SideId.s0).pages.due = (256, 7, 0) :: ([] : List (Nat × Nat × Nat)))) ∧
    (((wRefill.side SideId.s0).alive = true) ∧ ((wRefill.side SideId.s0).gateOpen (0 : Fin 32).val = true) ∧ ((wRefill.side SideId.s0).cores[(0 : Fin 32)].refill = true) ∧ ((wRefill.side SideId.s0).get (F.SK_CBANK_ACTIVE (0 : Fin 32).val) < 2) ∧ ((wRefill.side SideId.s0).upsets = [])) ∧
    (((wGaugeRefill.side SideId.s0).alive = true) ∧ ((wGaugeRefill.side SideId.s0).gateOpen 33 = true) ∧ ((wGaugeRefill.side SideId.s0).gauge.refill = true) ∧ ((wGaugeRefill.side SideId.s0).active < 2) ∧ ((wGaugeRefill.side SideId.s0).upsets = [])) ∧
    (((wEor.side SideId.s0).alive = true) ∧ (7 < 65536) ∧ ((wEor.side SideId.s0).clocked = true) ∧ ((wEor.side SideId.s0).gateOpen (0 : Fin 32).val = true) ∧ ((wEor.side SideId.s0).cores[(0 : Fin 32)].inRow = true) ∧ ((wEor.side SideId.s0).cores[(0 : Fin 32)].eorIssued = true) ∧ (∀ (f : FarAcc), f ∈ (wEor.side SideId.s0).cores[(0 : Fin 32)].far → f.load = true)) ∧
    (((wAck.side SideId.s0).alive = true) ∧ (names (wAck.side SideId.s0).takes.ackDue (0 : Fin 40).val = true)) := by refine ⟨?_, ?_, ?_, ?_, ?_, ?_⟩ <;> decide +kernel

theorem witness_RowBoundaryAndCrossRow_1 :
    (((wCross.side SideId.s0).tm.partnerStep = none) ∧ ((wCross.side SideId.s0).tm.step = none) ∧ ((wCross.side SideId.s0).tm.align = none) ∧ ((wCross.side SideId.s0).tm.resume = none) ∧ ((wCross.side SideId.s0).fw.held = []) ∧ ((wCross.side SideId.s0).awaitsRow = false) ∧ (wCross.rejoinSide = none) ∧ ((wCross.side SideId.s0).pulsing = true) ∧ ((wCross.side SideId.s0).tm.started = true)) ∧
    (((wReady.side SideId.s0).tm.partnerStep = none) ∧ ((wReady.side SideId.s0).tm.step = none) ∧ ((wReady.side SideId.s0).tm.align = none) ∧ ((wReady.side SideId.s0).tm.resume = none) ∧ ((wReady.side SideId.s0).fw.held = []) ∧ ((wReady.side SideId.s0).awaitsRow = false) ∧ (wReady.rejoinSide = none) ∧ ((wReady.side SideId.s0).pulsing = true) ∧ ((wReady.side SideId.s0).tm.started = false)) ∧
    (((wReset.side SideId.s0).tm.partnerStep = none) ∧ ((wReset.side SideId.s0).tm.step = none) ∧ ((wReset.side SideId.s0).tm.align = none) ∧ ((wReset.side SideId.s0).tm.resume = none) ∧ ((wReset.side SideId.s0).fw.held = []) ∧ ((wReset.side SideId.s0).awaitsRow = false) ∧ (wReset.rejoinSide = none) ∧ ((wReset.side SideId.s0).clocked = false)) ∧
    ((7 < 65536) ∧ ((wCross.side SideId.s0).clocked = true) ∧ ((wCross.side SideId.s0).gateOpen 32 = true) ∧ ((wCross.side SideId.s0).cross.inRow = true) ∧ ((wCross.side SideId.s0).cross.wasIdle = false) ∧ ((wCross.side SideId.s0).cross.feedRow = some (wCross.side SideId.s0).cross.row) ∧ (∀ (i : Nat), i < (wCross.side SideId.s0).sums → (wCross.side SideId.s0).ramping i = false) ∧ ((wCross.side SideId.s0).cross.refill = []) ∧ ((wCross.side SideId.s0).cross.collapse = []) ∧ ((wCross.side SideId.s0).upsets = []) ∧ ((wCross.side SideId.s0).cross.deliver = [])) ∧
    ((wGaugeRefill.Writes SideId.s0 Writer.firmware F.XA_CTRL_RUN.off) ∧ (true = true)) ∧
    ((wGaugeRefill.Writes SideId.s0 Writer.firmware F.XA_CTRL_RUN.off) ∧ (false = false)) :=
  ⟨by decide +kernel,
    by decide +kernel,
    by decide +kernel,
    by decide +kernel,
    by unfold State.Writes; decide +kernel,
    by unfold State.Writes; decide +kernel⟩

theorem witness_RowBoundaryAndCrossRow_2 :
    ((wGaugeRefill.Writes SideId.s0 Writer.firmware F.PB_CTRL_RUN.off)) := by unfold State.Writes; decide +kernel

theorem witness_BanksAndMarches_1 :
    ((wReady.mayWrite SideId.s0 Writer.firmware = true) ∧ ((3 : Fin 4) = 3)) ∧
    ((wReady.mayWrite SideId.s0 Writer.firmware = true) ∧ ((0 : Fin 4) ≠ 3)) ∧
    (((wChanging2.side SideId.s0).alive = true) ∧ ((wChanging2.side SideId.s0).get (F.MM_BANK_CUR (0 : Fin 52).val) = 3) ∧ ((wChanging2.side SideId.s0).get (F.MM_BANK_STATE (0 : Fin 52).val) < 4) ∧ ((wChanging2.side SideId.s0).get (F.MM_BANK_STATE (0 : Fin 52).val) = 2)) ∧
    (((wChanging1.side SideId.s0).alive = true) ∧ ((wChanging1.side SideId.s0).get (F.MM_BANK_CUR (0 : Fin 52).val) = 3) ∧ ((wChanging1.side SideId.s0).get (F.MM_BANK_STATE (0 : Fin 52).val) < 4) ∧ ((wChanging1.side SideId.s0).get (F.MM_BANK_STATE (0 : Fin 52).val) ≠ 2)) ∧
    (((wReady.side SideId.s0).alive = true) ∧ (wReady.mayWrite SideId.s0 Writer.firmware = true) ∧ ((wReady.side SideId.s0).swatchMay (if false = true then 255 else (0 : Fin 64).val) = true) ∧ ((false && false) = false)) ∧
    (((wReady.side SideId.s0).alive = true) ∧ (wReady.mayWrite SideId.s0 Writer.firmware = true) ∧ ((wReady.side SideId.s0).swatchMay (if false = true then 255 else (0 : Fin 64).val) = false ∨ (true && true) = true)) := by refine ⟨?_, ?_, ?_, ?_, ?_, ?_⟩ <;> decide +kernel

theorem witness_BanksAndMarches_2 :
    (((wMarch0.side SideId.s0).alive = true) ∧ ((wMarch0.side SideId.s0).swatch = some (wRun 0 [0, 1] 0 false)) ∧ ((wRun 0 [0, 1] 0 false).testing.contains (0 : Fin 649).val = true) ∧ ((wRun 0 [0, 1] 0 false).kind = 0)) ∧
    (((wMarch1.side SideId.s0).alive = true) ∧ ((wMarch1.side SideId.s0).swatch = some (wRun 1 [0, 1] 0 false)) ∧ ((wRun 1 [0, 1] 0 false).testing.contains (0 : Fin 649).val = true) ∧ ((wRun 1 [0, 1] 0 false).kind ≠ 0)) ∧
    (((wMarch0.side SideId.s0).alive = true) ∧ ((wMarch0.side SideId.s0).swatch = some (wRun 0 [0, 1] 0 false)) ∧ ((wRun 0 [0, 1] 0 false).testing.contains (0 : Fin 649).val = true) ∧ ((65535, 0, 0).fst < 65536) ∧ ((wRun 0 [0, 1] 0 false).repair = false) ∧ ((wRun 0 [0, 1] 0 false).second.contains (0 : Fin 649).val = false) ∧ ((wMarch0.side SideId.s0).flag F.MM_SWATCH_FAIL_VALID = false)) ∧
    (((wMarchOver.side SideId.s0).alive = true) ∧ ((wMarchOver.side SideId.s0).swatch = some (wRun 0 [] 1 false)) ∧ ((wRun 0 [] 1 false).left = []) ∧ ((wRun 0 [] 1 false).result < 4) ∧ ((wRun 0 [] 1 false).inMode = false)) ∧
    (((wSwatchGood.side SideId.s0).alive = true) ∧ ((wSwatchGood.side SideId.s0).swatch = some (wRun 0 [] 3 true)) ∧ ((wRun 0 [] 3 true).left = []) ∧ ((wRun 0 [] 3 true).result < 4) ∧ ((wRun 0 [] 3 true).inMode = true) ∧ ((wRun 0 [] 3 true).result ≠ 2)) ∧
    (((wSwatchBad.side SideId.s0).alive = true) ∧ ((wSwatchBad.side SideId.s0).swatch = some (wRun 0 [] 2 true)) ∧ ((wRun 0 [] 2 true).left = []) ∧ ((wRun 0 [] 2 true).result < 4) ∧ ((wRun 0 [] 2 true).inMode = true) ∧ ((wRun 0 [] 2 true).result = 2) ∧ ((wSwatchBad.side SideId.s0).mode = Mode.swatch)) := by refine ⟨?_, ?_, ?_, ?_, ?_, ?_⟩ <;> decide +kernel

theorem witness_TamperFrogAndHalts_1 :
    (((wFrog.side SideId.s0).mode = Mode.frog) ∧ ((wFrog.side SideId.s0).flag F.PW_STRAP_MTEST = false)) ∧
    (((wFrogTest.side SideId.s0).mode = Mode.frog) ∧ ((wFrogTest.side SideId.s0).flag F.PW_STRAP_MTEST = true)) ∧
    (((wReset.side SideId.s0).mode ≠ Mode.dark) ∧ (50 ≤ 50)) ∧
    ((0 < 10)) ∧
    ((wReady.mayWrite SideId.s0 Writer.firmware = true) ∧ ((wReady.side SideId.s0).flag F.PW_WDOG_EN = false)) ∧
    ((wDogged.mayWrite SideId.s0 Writer.firmware = true) ∧ ((wDogged.side SideId.s0).flag F.PW_WDOG_EN = true)) := by refine ⟨?_, ?_, ?_, ?_, ?_, ?_⟩ <;> decide +kernel

theorem witness_TamperFrogAndHalts_2 :
    (((wDogged.side SideId.s0).alive = true) ∧ ((wDogged.side SideId.s0).mode ≠ Mode.halt) ∧ ((wDogged.side SideId.s0).flag F.PW_WDOG_EN = true)) ∧
    ((4 ≤ (wReady.side SideId.s0).mode.code) ∧ ((wReady.side SideId.s0).mode ≠ Mode.halt)) := by refine ⟨?_, ?_⟩ <;> decide +kernel

theorem witness_BootSequence :
    (((wBoot0.side SideId.s0).mode = Mode.castOn) ∧ (wBoot0.host.held = false) ∧ ((wBoot0.side SideId.s0).get F.PW_BOOT_STAGE = 0) ∧ ((wBoot0.side SideId.s0).flag F.PW_BOOT_FLASH_ABSENT = false) ∧ ((wBoot0.side SideId.s0).fuses.lc ≠ 3) ∧ ((wBoot0.side SideId.s0).flag F.MM_SEC_STAT_TAMPERED = false) ∧ (wBoot0.host.get F.HP_BF_OWN_OWNER = 0) ∧ (directoryGood goodDir = true)) ∧
    (((wBoot0.side SideId.s0).mode = Mode.castOn) ∧ (wBoot0.host.held = false) ∧ ((wBoot0.side SideId.s0).get F.PW_BOOT_STAGE = 0) ∧ ((wBoot0.side SideId.s0).flag F.PW_BOOT_FLASH_ABSENT = false) ∧ ((wBoot0.side SideId.s0).fuses.lc ≠ 3) ∧ ((wBoot0.side SideId.s0).flag F.MM_SEC_STAT_TAMPERED = false) ∧ (wBoot0.host.get F.HP_BF_OWN_OWNER = 0) ∧ (directoryGood ([] : List Byte) = false)) ∧
    (((wBoot2.side SideId.s0).mode = Mode.castOn) ∧ (wBoot2.host.held = false) ∧ ((wBoot2.side SideId.s0).get F.PW_BOOT_STAGE = 2) ∧ (wBoot2.host.get F.HP_BF_OWN_OWNER = flashCode SideId.s0) ∧ ((wBoot2.side SideId.s0).firmwareResult (List.take (imgU (wBoot2.side SideId.s0).fw.boot (if (wBoot2.side SideId.s0).flag F.PW_BOOT_FW_COPY = true then 20 else 12) 4) ([] : List Byte)) ≠ 0) ∧ ((wBoot2.side SideId.s0).flag F.PW_BOOT_FW_COPY = false)) ∧
    (((wBoot2Second.side SideId.s0).mode = Mode.castOn) ∧ (wBoot2Second.host.held = false) ∧ ((wBoot2Second.side SideId.s0).get F.PW_BOOT_STAGE = 2) ∧ (wBoot2Second.host.get F.HP_BF_OWN_OWNER = flashCode SideId.s0) ∧ ((wBoot2Second.side SideId.s0).firmwareResult (List.take (imgU (wBoot2Second.side SideId.s0).fw.boot (if (wBoot2Second.side SideId.s0).flag F.PW_BOOT_FW_COPY = true then 20 else 12) 4) ([] : List Byte)) ≠ 0) ∧ ((wBoot2Second.side SideId.s0).flag F.PW_BOOT_FW_COPY = true)) ∧
    (((wBoot4.side SideId.s0).mode = Mode.castOn) ∧ (wBoot4.host.held = false) ∧ ((wBoot4.side SideId.s0).get F.PW_BOOT_STAGE = 4) ∧ ((wBoot4.side SideId.s0).fw.pattern = none) ∧ ((wBoot4.side SideId.s0).fw.image = none) ∧ (imgU (wBoot4.side SideId.s0).fw.boot (28 + 8 * SideId.s0.num) 4 ≠ 0) ∧ (wBoot4.host.get F.HP_BF_OWN_OWNER = 0) ∧ ((wBoot4.side SideId.s0).imageCheck (fitTo (imgU (wBoot4.side SideId.s0).fw.boot (28 + 8 * SideId.s0.num) 4) 0 ([] : List Byte)) ≠ none)) := by refine ⟨?_, ?_, ?_, ?_, ?_⟩ <;> decide +kernel

theorem witness_LifeCycle_1 :
    ((wReady.side0.fuses.change = none) ∧ (wReady.side1.fuses.change = none) ∧ ((wReady.side SideId.s0).alive = true) ∧ ((wReady.side SideId.s0).fuses.lc ≤ 1) ∧ (wReady.lcCause (3 : Fin 4).val = 0)) ∧
    ((wReady.side0.fuses.change = none) ∧ (wReady.side1.fuses.change = none) ∧ ((wReady.side SideId.s0).alive = true) ∧ ((wReady.side SideId.s0).fuses.lc ≤ 1) ∧ (wReady.lcCause (0 : Fin 4).val ≠ 0)) ∧
    ((wReady.side0.fuses.change = none) ∧ (wReady.side1.fuses.change = none) ∧ ((wReady.side SideId.s0).alive = true) ∧ ((wReady.side SideId.s0).fuses.lc ≤ 1) ∧ ((0 : BitVec 16) ≠ 31774)) ∧
    ((wReady.side0.fuses.change = none) ∧ (wReady.side1.fuses.change = none) ∧ (wReady.lcCause 3 = 0)) ∧
    ((wReset.side0.fuses.change = none) ∧ (wReset.side1.fuses.change = none) ∧ (wReset.lcCause 3 ≠ 0)) ∧
    ((wRetiring.side0.mode ≠ Mode.dark) ∧ (wRetiring.side1.mode ≠ Mode.dark) ∧ (wRetiring.side0.fuses.change = some { target := 3, recovery := false }) ∧ (wRetiring.side1.fuses.change = some { target := 3, recovery := false })) := by refine ⟨?_, ?_, ?_, ?_, ?_, ?_⟩ <;> decide +kernel

theorem witness_LifeCycle_2 :
    ((wClosing2.side0.mode ≠ Mode.dark) ∧ (wClosing2.side1.mode ≠ Mode.dark) ∧ (wClosing2.side0.fuses.change = some { target := 2, recovery := false }) ∧ (wClosing2.side1.fuses.change = some { target := 2, recovery := false })) := by decide +kernel

theorem witness_HeartbeatsAndRejoin_1 :
    (((wTwinIdle.side SideId.s0.other).twin.hbOut = some (wBeat 5)) ∧ (wTwinIdle.linkUp = true) ∧ ((wTwinIdle.side SideId.s0).rejoining = false) ∧ (∀ (p : Nat × Option Nat), p ∈ (wTwinIdle.side SideId.s0).twin.peers → (wTwinIdle.side SideId.s0).hasOwn p.fst = false) ∧ (compares (wTwinIdle.side SideId.s0) (wTwinIdle.side SideId.s0.other) = false)) ∧
    (((wBeatAhead.side SideId.s1.other).twin.hbOut = some (wBeat 5)) ∧ (wBeatAhead.linkUp = true) ∧ ((wBeatAhead.side SideId.s1).rejoining = false) ∧ (∀ (p : Nat × Option Nat), p ∈ (wBeatAhead.side SideId.s1).twin.peers → (wBeatAhead.side SideId.s1).hasOwn p.fst = false) ∧ (compares (wBeatAhead.side SideId.s1) (wBeatAhead.side SideId.s1.other) = true) ∧ ((wBeatAhead.side SideId.s1).hasOwn (((wBeat 5).row + 2 ^ 64 - 1) % 2 ^ 64) = false)) ∧
    (((wTwinEqual.side SideId.s0.other).twin.hbOut = some (wBeat 5)) ∧ (wTwinEqual.linkUp = true) ∧ ((wTwinEqual.side SideId.s0).rejoining = false) ∧ (∀ (p : Nat × Option Nat), p ∈ (wTwinEqual.side SideId.s0).twin.peers → (wTwinEqual.side SideId.s0).hasOwn p.fst = false) ∧ (compares (wTwinEqual.side SideId.s0) (wTwinEqual.side SideId.s0.other) = true) ∧ ((wTwinEqual.side SideId.s0).hasOwn (((wBeat 5).row + 2 ^ 64 - 1) % 2 ^ 64) = true) ∧ ((wTwinEqual.side SideId.s0).twin.chk (((wBeat 5).row + 2 ^ 64 - 1) % 2 ^ 64) = if (wBeat 5).valid = true then some (wBeat 5).chk else none) ∧ ((wTwinEqual.side SideId.s0).twin.chk (((wBeat 5).row + 2 ^ 64 - 1) % 2 ^ 64) ≠ none)) ∧
    (((wTwinDiffer.side SideId.s0.other).twin.hbOut = some (wBeat 6)) ∧ (wTwinDiffer.linkUp = true) ∧ ((wTwinDiffer.side SideId.s0).rejoining = false) ∧ (∀ (p : Nat × Option Nat), p ∈ (wTwinDiffer.side SideId.s0).twin.peers → (wTwinDiffer.side SideId.s0).hasOwn p.fst = false) ∧ (compares (wTwinDiffer.side SideId.s0) (wTwinDiffer.side SideId.s0.other) = true) ∧ ((wTwinDiffer.side SideId.s0).hasOwn (((wBeat 6).row + 2 ^ 64 - 1) % 2 ^ 64) = true) ∧ ((wTwinDiffer.side SideId.s0).twin.chk (((wBeat 6).row + 2 ^ 64 - 1) % 2 ^ 64) ≠ if (wBeat 6).valid = true then some (wBeat 6).chk else none) ∧ ((wTwinDiffer.side SideId.s0).flag F.TW_STAT_DIVERGE = false)) ∧
    (((wPassLast.side SideId.s1).passRuns = true) ∧ (wPassLast.linkUp = true) ∧ (∀ (p : Nat), p ∈ passPages (wPassLast.side SideId.s1) (wPassLast.side SideId.s1.other) → p ∈ (wPassLast.side SideId.s1).twin.sent)) ∧
    (((wReset.side SideId.s0).passRuns = false ∨ wReset.linkUp = false)) := by refine ⟨?_, ?_, ?_, ?_, ?_, ?_⟩ <;> decide +kernel

theorem witness_HeartbeatsAndRejoin_2 :
    ((((wPassEnd 1 0).side SideId.s1).rejoining = true) ∧ (((wPassEnd 1 0).side SideId.s1).twin.passEnd = true) ∧ (((wPassEnd 1 0).side SideId.s1).get F.TW_MIR_STATE = 1 ∨ ((wPassEnd 1 0).side SideId.s1).get F.TW_MIR_STATE = 2) ∧ ((pagesDiffer ((wPassEnd 1 0).side SideId.s1).twin.captured []).length ≤ ((wPassEnd 1 0).side SideId.s1).get F.TW_MIR_FINAL_MAX)) ∧
    ((((wPassEnd 2 63).side SideId.s1).rejoining = true) ∧ (((wPassEnd 2 63).side SideId.s1).twin.passEnd = true) ∧ (((wPassEnd 2 63).side SideId.s1).get F.TW_MIR_STATE = 1 ∨ ((wPassEnd 2 63).side SideId.s1).get F.TW_MIR_STATE = 2) ∧ (63 ≤ ((wPassEnd 2 63).side SideId.s1).get F.TW_MIR_PASS) ∧ (((wPassEnd 2 63).side SideId.s1).twin.failDue = none)) ∧
    (((wFinal.side SideId.s1).mode = Mode.rework) ∧ ((wFinal.side SideId.s1).get F.TW_MIR_STATE = 4) ∧ ((wFinal.side SideId.s1).get F.TW_MIR_WAIT = 0)) := by refine ⟨?_, ?_, ?_⟩ <;> decide +kernel

theorem witness_TwinPaths_1 :
    (((wTwinEqual.side SideId.s0).inTwin = true) ∧ (0 < (wTwinEqual.side SideId.s0).get F.TW_CTRL_TIMEOUT) ∧ (Option.any (fun h => decide (h.fst = (wTwinEqual.side SideId.s0).row) && (wTwinEqual.side SideId.s0).hears h.snd) (wTwinEqual.side SideId.s0).twin.heard = true)) ∧
    (((wPass1.side SideId.s0).inTwin = true) ∧ (0 < (wPass1.side SideId.s0).get F.TW_CTRL_TIMEOUT) ∧ (Option.any (fun h => decide (h.fst = (wPass1.side SideId.s0).row) && (wPass1.side SideId.s0).hears h.snd) (wPass1.side SideId.s0).twin.heard = false) ∧ (min ((wPass1.side SideId.s0).get F.TW_SILENT_LINK + 1) 255 < (wPass1.side SideId.s0).get F.TW_CTRL_TIMEOUT)) ∧
    (((wSilent.side SideId.s1).inTwin = true) ∧ (0 < (wSilent.side SideId.s1).get F.TW_CTRL_TIMEOUT) ∧ (Option.any (fun h => decide (h.fst = (wSilent.side SideId.s1).row) && (wSilent.side SideId.s1).hears h.snd) (wSilent.side SideId.s1).twin.heard = false) ∧ ((wSilent.side SideId.s1).get F.TW_CTRL_TIMEOUT ≤ min ((wSilent.side SideId.s1).get F.TW_SILENT_LINK + 1) 255) ∧ ((wSilent.side SideId.s1).seamHeard = false) ∧ ((wSilent.side SideId.s1).mode = Mode.follow) ∧ ((wSilent.side SideId.s1).takesOver = true) ∧ ((wSilent.side SideId.s1).twin.seized = false) ∧ ((wSilent.side SideId.s1).twin.req = none)) ∧
    (((wBeatsOwn.side SideId.s0).inTwin = true) ∧ (0 < (wBeatsOwn.side SideId.s0).get F.TW_CTRL_TIMEOUT) ∧ (wBeatsOwn.host.held = false) ∧ (wBeatsOwn.host.get (F.HP_SEAM_HB_COUNT SideId.s0.other.num) ≠ (wBeatsOwn.side SideId.s0).twin.seamCount) ∧ ((wBeatsOwn.side SideId.s0).hears (wBeatsOwn.host.get (F.HP_SEAM_HB_MODE SideId.s0.other.num)) = true) ∧ ((wBeatsOwn.side SideId.s0).linkHeard = true)) ∧
    (((wTwinEqual.side SideId.s0).inTwin = true) ∧ (0 < (wTwinEqual.side SideId.s0).get F.TW_CTRL_TIMEOUT) ∧ (min ((wTwinEqual.side SideId.s0).get F.TW_SILENT_SEAM + 1) 255 < (wTwinEqual.side SideId.s0).get F.TW_CTRL_TIMEOUT) ∧ ((wTwinEqual.side SideId.s0).linkHeard = true)) ∧
    (((wTwinEqual.side SideId.s0).mode = Mode.lead) ∧ (wTwinEqual.host.held = false) ∧ (wTwinEqual.host.get F.HP_SEAM_TOKEN_OWNER = 3)) := by refine ⟨?_, ?_, ?_, ?_, ?_, ?_⟩ <;> decide +kernel

theorem witness_TwinPaths_2 :
    (((wBeatsOwn.side SideId.s0).mode = Mode.lead) ∧ (wBeatsOwn.host.held = false) ∧ (wBeatsOwn.host.get F.HP_SEAM_TOKEN_OWNER = SideId.s0.num)) ∧
    (((wBeatsOther.side SideId.s0).mode = Mode.lead) ∧ (wBeatsOther.host.held = false) ∧ (wBeatsOther.host.get F.HP_SEAM_TOKEN_OWNER ≠ 3) ∧ (wBeatsOther.host.get F.HP_SEAM_TOKEN_OWNER ≠ SideId.s0.num)) ∧
    ((wReady.mayWrite SideId.s0 Writer.firmware = true)) := by refine ⟨?_, ?_, ?_⟩ <;> decide +kernel

theorem witness_TwinLinkTraffic_1 :
    (((wBlend.side SideId.s0).awaitsRow = true) ∧ (wBlend.linkUp = true) ∧ ((wBlend.side SideId.s0).pages.emitRow (((wBlend.side SideId.s0).row + 2 ^ 64 - 1) % 2 ^ 64) = some (wEmit 1)) ∧ ((wBlend.side SideId.s0.other).streamRow (wBlend.side SideId.s0).handRow (((wBlend.side SideId.s0).row + 2 ^ 64 - 1) % 2 ^ 64) = some (wEmit 3))) ∧
    (((wBlend.side SideId.s0).awaitsRow = true) ∧ ((wBlend.side SideId.s0.other).mode = Mode.rework) ∧ ((wBlend.side SideId.s0.other).blending = true)) ∧
    (((wReset.side SideId.s0).passRuns = false ∨ wReset.linkUp = false ∨ inPass (wReset.side SideId.s0) (wReset.side SideId.s0.other) (24608 : BitVec 20).toNat = false)) ∧
    (((wMirror.side SideId.s1).passRuns = true) ∧ (wMirror.linkUp = true) ∧ (inPass (wMirror.side SideId.s1) (wMirror.side SideId.s1.other) (24608 : BitVec 20).toNat = true) ∧ ((wMirror.side SideId.s1).PlainBytes (4096 * (24608 : BitVec 20).toNat) 4096) ∧ ((wMirror.side SideId.s1.other).PlainBytes (4096 * (24608 : BitVec 20).toNat) 4096)) ∧
    (((wMirror.side SideId.s1).passRuns = true) ∧ (wMirror.linkUp = true) ∧ (inPass (wMirror.side SideId.s1) (wMirror.side SideId.s1.other) (45312 : BitVec 20).toNat = true) ∧ ((45312 : BitVec 20).toNat = 45312 + 16 * (0 : Fin 32).val)) ∧
    (((wPass1.side SideId.s1).passRuns = true) ∧ (wPass1.linkUp = true) ∧ (inPass (wPass1.side SideId.s1) (wPass1.side SideId.s1.other) (45168 : BitVec 20).toNat = true) ∧ ((45168 : BitVec 20) = 45168)) :=
  ⟨by decide +kernel,
    by decide +kernel,
    by decide +kernel,
    by unfold Side.PlainBytes; decide +kernel,
    by decide +kernel,
    by decide +kernel⟩

theorem witness_TwinLinkTraffic_2 :
    (((wPass1.side SideId.s1).passRuns = true) ∧ (wPass1.linkUp = true) ∧ (inPass (wPass1.side SideId.s1) (wPass1.side SideId.s1.other) (45184 : BitVec 20).toNat = true) ∧ ((45184 : BitVec 20) = 45184)) ∧
    (((wPass1.side SideId.s1).passRuns = true) ∧ (wPass1.linkUp = true) ∧ (inPass (wPass1.side SideId.s1) (wPass1.side SideId.s1.other) (45200 : BitVec 20).toNat = true) ∧ ((45200 : BitVec 20) = 45200)) ∧
    (((wPass1.side SideId.s1).passRuns = true) ∧ (wPass1.linkUp = true) ∧ (inPass (wPass1.side SideId.s1) (wPass1.side SideId.s1.other) (45056 : BitVec 20).toNat = true) ∧ ((45056 : BitVec 20) = 45056)) ∧
    ((wFloat.linkUp = true) ∧ ((wFloat.side SideId.s0).mode = Mode.follow) ∧ ((wFloat.side SideId.s0.other).takes.rowsSent = (5, 100) :: []) ∧ ((wFloat.side SideId.s0).entryOf 5 = some (0 : Fin 8)) ∧ ((wFloat.side SideId.s0).takes.queue[(0 : Fin 8)] = some (wTake 5 none)) ∧ ((wTake 5 none).row = none) ∧ ((wTake 5 none).waits = false) ∧ ((wTake 5 none).cue = none) ∧ ((wFloat.side SideId.s0).fw.held = []) ∧ ((wFloat.side SideId.s0).row + 3 ≤ 100) ∧ (names (wTake 5 none).mask 32 = true → (wFloat.side SideId.s0).crossAt 100 = false)) ∧
    ((wFloat.linkUp = true) ∧ ((wFloat.side SideId.s0).mode = Mode.follow) ∧ ((wFloat.side SideId.s0.other).tm.stepOut = some ((100, -1) : Nat × Int))) := by refine ⟨?_, ?_, ?_, ?_, ?_⟩ <;> decide +kernel

theorem witness_CueLoaderAndFrames :
    (((wLoadCross.side SideId.s0).clocked = true) ∧ ((wLoadCross.side SideId.s0).takes.loader = (wJob false) :: []) ∧ ((wJob false).started = false) ∧ (names ((wLoadCross.side SideId.s0).cueMask (wJob false).slot) 32 = false)) ∧
    (((wLoadLater.side SideId.s0).clocked = true) ∧ ((wLoadLater.side SideId.s0).takes.loader = (wJob true) :: []) ∧ ((wJob true).started = true) ∧ ((wJob true).records = [((100794368 : BitVec 32).toNat, [(1 : BitVec 32).toNat])]) ∧ ((wLoadLater.side SideId.s0).PlainBytes (100794368 : BitVec 32).toNat 4) ∧ ((wLoadLater.side SideId.s0).deferred (wJob true).num (100794368 : BitVec 32).toNat = true)) ∧
    (((wLoadNow.side SideId.s0).clocked = true) ∧ ((wLoadNow.side SideId.s0).takes.loader = (wJob true) :: []) ∧ ((wJob true).started = true) ∧ ((wJob true).records = [((100794368 : BitVec 32).toNat, [(1 : BitVec 32).toNat])]) ∧ ((wLoadNow.side SideId.s0).PlainBytes (100794368 : BitVec 32).toNat 4) ∧ ((wLoadNow.side SideId.s0).deferred (wJob true).num (100794368 : BitVec 32).toNat = false) ∧ (((wLoadNow.side SideId.s0).takeList.all fun t => !t.waits) = true)) ∧
    (((wFrameLost.side SideId.s0).clocked = true) ∧ ((wFrameLost.side SideId.s0).gateOpen 33 = true) ∧ ((wFrameLost.side SideId.s0).gauge.captureDue = true) ∧ ((wFrameLost.side SideId.s0).get (F.PB_GRP_EN (0 : Fin 8).val) ≠ 0 ∧ (wFrameLost.side SideId.s0).get (F.PB_GRP_PERIOD (0 : Fin 8).val) ≠ 0 ∧ (wFrameLost.side SideId.s0).gauge.row % (wFrameLost.side SideId.s0).get (F.PB_GRP_PERIOD (0 : Fin 8).val) = 0) ∧ (∀ (h : Fin 8), h ≠ (0 : Fin 8) → ¬((wFrameLost.side SideId.s0).get (F.PB_GRP_EN ↑h) ≠ 0 ∧ (wFrameLost.side SideId.s0).get (F.PB_GRP_PERIOD ↑h) ≠ 0 ∧ (wFrameLost.side SideId.s0).gauge.row % (wFrameLost.side SideId.s0).get (F.PB_GRP_PERIOD ↑h) = 0)) ∧ ((wFrameLost.side SideId.s0).frameDropped (0 : Fin 8).val = true)) ∧
    (((wFrameLent.side SideId.s0).clocked = true) ∧ ((wFrameLent.side SideId.s0).gateOpen 33 = true) ∧ ((wFrameLent.side SideId.s0).gauge.captureDue = true) ∧ ((wFrameLent.side SideId.s0).get (F.PB_GRP_EN (0 : Fin 8).val) ≠ 0 ∧ (wFrameLent.side SideId.s0).get (F.PB_GRP_PERIOD (0 : Fin 8).val) ≠ 0 ∧ (wFrameLent.side SideId.s0).gauge.row % (wFrameLent.side SideId.s0).get (F.PB_GRP_PERIOD (0 : Fin 8).val) = 0) ∧ (∀ (h : Fin 8), h ≠ (0 : Fin 8) → ¬((wFrameLent.side SideId.s0).get (F.PB_GRP_EN ↑h) ≠ 0 ∧ (wFrameLent.side SideId.s0).get (F.PB_GRP_PERIOD ↑h) ≠ 0 ∧ (wFrameLent.side SideId.s0).gauge.row % (wFrameLent.side SideId.s0).get (F.PB_GRP_PERIOD ↑h) = 0)) ∧ ((wFrameLent.side SideId.s0).frameDropped (0 : Fin 8).val = false)) :=
  ⟨by decide +kernel,
    by unfold Side.PlainBytes; decide +kernel,
    by unfold Side.PlainBytes; decide +kernel,
    by decide +kernel,
    by decide +kernel⟩

theorem witness_TimeCandidates_1 :
    (((wReady.side SideId.s0).clocked = true) ∧ (∀ (k : Fin 8), (wReady.side SideId.s0).qualified ↑k = false) ∧ ((wReady.side SideId.s0).flag F.TM_STAT_REF_SPLIT = false) ∧ (¬((0 : Fin 8) = 2 ∨ (0 : Fin 8) = 3 ∨ (0 : Fin 8) = 6) → (0 : Int) = (0 : Int)) ∧ ((0 : Fin 8) = 2 ∨ (0 : Fin 8) = 3 ∨ (0 : Fin 8) = 6 → List.find? (fun p => decide (p.fst = (0 : Fin 8).val)) (wReady.side SideId.s0).tm.edges = some ((0 : Fin 8).val, (0 : Int)))) ∧
    (((wReady.side SideId.s0).clocked = true) ∧ (∀ (k : Fin 8), (wReady.side SideId.s0).qualified ↑k = false) ∧ ((wReady.side SideId.s0).flag F.TM_STAT_REF_SPLIT = false) ∧ ((2 : Fin 8) = 2 ∨ (2 : Fin 8) = 3 ∨ (2 : Fin 8) = 6) ∧ (List.find? (fun p => decide (p.fst = (2 : Fin 8).val)) (wReady.side SideId.s0).tm.edges = none)) ∧
    (((wReady.side SideId.s0).clocked = true) ∧ (∀ (k : Fin 8), (wReady.side SideId.s0).qualified ↑k = false) ∧ ((wReady.side SideId.s0).flag F.TM_STAT_REF_SPLIT = false) ∧ (wReady.mayWrite SideId.s0 Writer.firmware = true) ∧ ((0 : Fin 8) = 0 ∨ (0 : Fin 8) = 1 ∨ (0 : Fin 8) = 7)) ∧
    (((wReady.side SideId.s0).clocked = true) ∧ (∀ (k : Fin 8), (wReady.side SideId.s0).qualified ↑k = false) ∧ ((wReady.side SideId.s0).flag F.TM_STAT_REF_SPLIT = false) ∧ (wReady.mayWrite SideId.s0 Writer.firmware = true) ∧ (¬((2 : Fin 8) = 0 ∨ (2 : Fin 8) = 1 ∨ (2 : Fin 8) = 7))) ∧
    (((wSelectedOpen.side SideId.s0).clocked = true) ∧ (¬((0 : Fin 8) = 2 ∨ (0 : Fin 8) = 3 ∨ (0 : Fin 8) = 6) → (0 : Int) = (0 : Int)) ∧ ((0 : Fin 8) = 2 ∨ (0 : Fin 8) = 3 ∨ (0 : Fin 8) = 6 → List.find? (fun p => decide (p.fst = (0 : Fin 8).val)) (wSelectedOpen.side SideId.s0).tm.edges = some ((0 : Fin 8).val, (0 : Int))) ∧ ((wSelectedOpen.side SideId.s0).selects (0 : Fin 8).val = true) ∧ ((wSelectedOpen.side SideId.s0).qualified (0 : Fin 8).val = true) ∧ (∀ (k : Fin 8), k ≠ (0 : Fin 8) → (wSelectedOpen.side SideId.s0).qualified ↑k = false) ∧ ((0 : Fin 8) ≠ 2) ∧ ((0 : Fin 8) ≠ 5) ∧ ((wSelectedOpen.side SideId.s0).flag (F.TM_CAND_EN (0 : Fin 8).val) = true) ∧ ((wSelectedOpen.side SideId.s0).get (F.TM_CAND_CLASS (0 : Fin 8).val) ≠ 255) ∧ ((0 : Int).natAbs ≤ 250000000) ∧ ((wSelectedOpen.side SideId.s0).flag F.TM_STAT_REF_SPLIT = false) ∧ ((wSelectedOpen.side SideId.s0).flag F.TM_STAT_LOST = false) ∧ ((wSelectedOpen.side SideId.s0).flag F.TM_STAT_LOCK = false) ∧ ((wSelectedOpen.side SideId.s0).tm.lockRun < 15) ∧ ((wSelectedOpen.side SideId.s0).flag F.TM_CTRL_OPEN = true)) ∧
    (((wSelected.side SideId.s0).clocked = true) ∧ (¬((0 : Fin 8) = 2 ∨ (0 : Fin 8) = 3 ∨ (0 : Fin 8) = 6) → (0 : Int) = (0 : Int)) ∧ ((0 : Fin 8) = 2 ∨ (0 : Fin 8) = 3 ∨ (0 : Fin 8) = 6 → List.find? (fun p => decide (p.fst = (0 : Fin 8).val)) (wSelected.side SideId.s0).tm.edges = some ((0 : Fin 8).val, (0 : Int))) ∧ ((wSelected.side SideId.s0).selects (0 : Fin 8).val = true) ∧ ((wSelected.side SideId.s0).qualified (0 : Fin 8).val = true) ∧ (∀ (k : Fin 8), k ≠ (0 : Fin 8) → (wSelected.side SideId.s0).qualified ↑k = false) ∧ ((0 : Fin 8) ≠ 2) ∧ ((0 : Fin 8) ≠ 5) ∧ ((wSelected.side SideId.s0).flag (F.TM_CAND_EN (0 : Fin 8).val) = true) ∧ ((wSelected.side SideId.s0).get (F.TM_CAND_CLASS (0 : Fin 8).val) ≠ 255) ∧ ((0 : Int).natAbs ≤ 250000000) ∧ ((wSelected.side SideId.s0).flag F.TM_STAT_REF_SPLIT = false) ∧ ((wSelected.side SideId.s0).flag F.TM_STAT_LOST = false) ∧ ((wSelected.side SideId.s0).flag F.TM_STAT_LOCK = false) ∧ ((wSelected.side SideId.s0).tm.lockRun < 15) ∧ ((wSelected.side SideId.s0).flag F.TM_CTRL_OPEN = false)) := by refine ⟨?_, ?_, ?_, ?_, ?_, ?_⟩ <;> decide +kernel

theorem witness_TimeCandidates_2 :
    (((wFit.side SideId.s0).clocked = true) ∧ ((wFit.side SideId.s0).candFit (wFit.side SideId.s0.other).rate (0 : Fin 8).val = true) ∧ ((wFit.side SideId.s0).flag F.TM_STAT_FREERUN = true) ∧ ((wFit.side SideId.s0).flag F.TM_CAP_CTRL_SWITCHES = false)) ∧
    (((wFitIdle.side SideId.s0).clocked = true) ∧ ((wFitIdle.side SideId.s0).candFit (wFitIdle.side SideId.s0.other).rate (0 : Fin 8).val = true) ∧ ((wFitIdle.side SideId.s0).flag F.TM_STAT_FREERUN = false)) ∧
    (((wSelected.side SideId.s0).clocked = true) ∧ ((wSelected.side SideId.s0).qualified (0 : Fin 8).val = true) ∧ (∀ (k : Fin 8), k ≠ (0 : Fin 8) → (wSelected.side SideId.s0).qualified ↑k = false) ∧ ((wSelected.side SideId.s0).flag F.TM_STAT_FREERUN = false)) ∧
    (((wTwoSources.side SideId.s0).clocked = true) ∧ ((wTwoSources.side SideId.s0).qualified (0 : Fin 8).val = true) ∧ (∃ k, k ≠ (0 : Fin 8) ∧ (wTwoSources.side SideId.s0).qualified ↑k = true) ∧ ((wTwoSources.side SideId.s0).selects (0 : Fin 8).val = true)) ∧
    (((wSwitched.side SideId.s0).clocked = true) ∧ ((wSwitched.side SideId.s0).flag F.TM_STAT_SWITCHED = true)) := by refine ⟨?_, ?_, ?_, ?_, ?_⟩ <;> decide +kernel

theorem witness_Steering_1 :
    ((wReady.mayWrite SideId.s0 Writer.firmware = true) ∧ ((wReady.side SideId.s0).tm.steerBusy = false)) ∧
    ((wSteerHeld.mayWrite SideId.s0 Writer.firmware = true) ∧ ((wSteerHeld.side SideId.s0).tm.steerBusy = true) ∧ ((wSteerHeld.side SideId.s0).tm.held ≠ none)) ∧
    ((wSteerBusy.mayWrite SideId.s0 Writer.firmware = true) ∧ ((wSteerBusy.side SideId.s0).tm.steerBusy = true) ∧ ((wSteerBusy.side SideId.s0).tm.held = none)) ∧
    ((wReady.mayWrite SideId.s0 Writer.firmware = true) ∧ ((wReady.side SideId.s0).flag F.TM_CTRL_OPEN = false)) ∧
    ((wSelectedOpen.mayWrite SideId.s0 Writer.firmware = true) ∧ ((wSelectedOpen.side SideId.s0).flag F.TM_CTRL_OPEN = true) ∧ ((wSelectedOpen.side SideId.s0).flag F.TM_STAT_FREERUN = false)) ∧
    (((wSteerHeld.side SideId.s0).clocked = true) ∧ ((wSteerHeld.side SideId.s0).tm.held = some (true, ↑5))) := by refine ⟨?_, ?_, ?_, ?_, ?_, ?_⟩ <;> decide +kernel

theorem witness_Steering_2 :
    (((wPptHeld.side SideId.s0).clocked = true) ∧ ((wPptHeld.side SideId.s0).tm.held = some (false, (5 : Int)))) ∧
    (((wReady.side SideId.s0).clocked = true) ∧ ((wReady.side SideId.s0).tm.held = none)) := by refine ⟨?_, ?_⟩ <;> decide +kernel

theorem witness_TimeServices_1 :
    ((wTrigger.mayWrite SideId.s0 Writer.firmware = true) ∧ (((wTrigger.side SideId.s0).clocked && decide ((wTrigger.side SideId.s0).tm.started = true)) = true) ∧ ((wTrigger.side SideId.s0).counter ≤ (wTrigger.side SideId.s0).rowStart + 0 * mediaUnits (wTrigger.side SideId.s0).rate) ∧ ((wTrigger.side SideId.s0).rowStart + 0 * mediaUnits (wTrigger.side SideId.s0).rate < (wTrigger.side SideId.s0).rowEnd)) ∧
    ((wReady.mayWrite SideId.s0 Writer.firmware = true) ∧ (∀ (p : Nat × Nat), p ∈ (wReady.side SideId.s0).tm.pulses → (if ((wReady.side SideId.s0).clocked && (wReady.side SideId.s0).tm.started) = true then (wReady.side SideId.s0).edgeAt 0 else (wReady.side SideId.s0).counter) < p.snd)) ∧
    ((wCaptured.mayWrite SideId.s0 Writer.firmware = true) ∧ ((wCaptured.side SideId.s0).tm.captures = wCapture :: ([] : List Capture)) ∧ (Writer.firmware = Writer.firmware)) ∧
    ((wCaptured.mayWrite SideId.s0 Writer.host = true) ∧ ((wCaptured.side SideId.s0).tm.captures = wCapture :: ([] : List Capture)) ∧ (Writer.host = Writer.host)) ∧
    ((wReady.mayWrite SideId.s0 Writer.firmware = true) ∧ ((wReady.side SideId.s0).clocked = true)) ∧
    ((wHalt.mayWrite SideId.s0 Writer.firmware = true) ∧ ((wHalt.side SideId.s0).clocked = false)) := by refine ⟨?_, ?_, ?_, ?_, ?_, ?_⟩ <;> decide +kernel

theorem witness_TimeServices_2 :
    (((wTriggerLate.side SideId.s0).nextTrig = some (5 : Fin 32).val) ∧ ((wTriggerLate.side SideId.s0).clocked = true) ∧ ((wTriggerLate.side SideId.s0).tm.started = true) ∧ ((wTriggerLate.side SideId.s0).gateOpen 37 = true) ∧ ((wTriggerLate.side SideId.s0).trigTarget (5 : Fin 32).val < (wTriggerLate.side SideId.s0).rowEnd) ∧ ((wTriggerLate.side SideId.s0).flag (F.TM_TRIG_REPEAT (5 : Fin 32).val) = false) ∧ (1 ≤ (wTriggerLate.side SideId.s0).get (F.TM_TRIG_ACTION (5 : Fin 32).val)) ∧ ((wTriggerLate.side SideId.s0).get (F.TM_TRIG_ACTION (5 : Fin 32).val) ≤ 4) ∧ (∀ (p : Nat × Nat), p ∈ (wTriggerLate.side SideId.s0).tm.pulses → (wTriggerLate.side SideId.s0).trigTarget (5 : Fin 32).val < p.snd) ∧ ((wTriggerLate.side SideId.s0).trigTarget (5 : Fin 32).val < (wTriggerLate.side SideId.s0).counter)) ∧
    (((wTrigger.side SideId.s0).nextTrig = some (5 : Fin 32).val) ∧ ((wTrigger.side SideId.s0).clocked = true) ∧ ((wTrigger.side SideId.s0).tm.started = true) ∧ ((wTrigger.side SideId.s0).gateOpen 37 = true) ∧ ((wTrigger.side SideId.s0).trigTarget (5 : Fin 32).val < (wTrigger.side SideId.s0).rowEnd) ∧ ((wTrigger.side SideId.s0).flag (F.TM_TRIG_REPEAT (5 : Fin 32).val) = false) ∧ (1 ≤ (wTrigger.side SideId.s0).get (F.TM_TRIG_ACTION (5 : Fin 32).val)) ∧ ((wTrigger.side SideId.s0).get (F.TM_TRIG_ACTION (5 : Fin 32).val) ≤ 4) ∧ (∀ (p : Nat × Nat), p ∈ (wTrigger.side SideId.s0).tm.pulses → (wTrigger.side SideId.s0).trigTarget (5 : Fin 32).val < p.snd) ∧ ((wTrigger.side SideId.s0).counter ≤ (wTrigger.side SideId.s0).trigTarget (5 : Fin 32).val) ∧ (¬(5 : Fin 32).val ∈ (wTrigger.side SideId.s0).tm.armed)) := by refine ⟨?_, ?_⟩ <;> decide +kernel

theorem witness_TdmHalves :
    ((wPorts.Writes SideId.s0 Writer.firmware (F.AP_CTRL_EN (0 : Fin 32).val).off) ∧ ((wPorts.side SideId.s0).halfRuns (0 : Fin 32) = false)) ∧
    ((wPorts.Writes SideId.s0 Writer.firmware (F.AP_CTRL_EN (31 : Fin 32).val).off) ∧ ((31 : Fin 32).val % 2 = 1 ∨ (wPorts.side SideId.s0).isMaster (31 : Fin 32) = true)) ∧
    ((wPorts.Writes SideId.s0 Writer.firmware (F.AP_CTRL_EN (0 : Fin 32).val).off) ∧ ((0 : Fin 32).val % 2 = 0) ∧ ((wPorts.side SideId.s0).isMaster (0 : Fin 32) = false)) ∧
    (((wStopping.side SideId.s0).gateOpen 37 = true) ∧ (((wStopping.side SideId.s0).half (0 : Fin 32)).stopping = true)) ∧
    (((wShadowDue.side SideId.s0).gateOpen 37 = true) ∧ ((wShadowDue.side SideId.s0).pulsing = true) ∧ ((wShadowDue.side SideId.s0).ports.shadowDue = true) ∧ (∀ (k : Fin 32), (wShadowDue.side SideId.s0).halfRuns k = false)) :=
  ⟨by unfold State.Writes; decide +kernel,
    by unfold State.Writes; decide +kernel,
    by unfold State.Writes; decide +kernel,
    by decide +kernel,
    by decide +kernel⟩

theorem witness_TdmFrames :
    (((wFraming.side SideId.s0).framing (halfOf (0 : Fin 16) false) = true ∧ (wFraming.side SideId.s0).isMaster (halfOf (0 : Fin 16) false) = false ∧ (wFraming.side SideId.s0).isBridged (halfOf (0 : Fin 16) false) = false ∧ ((wFraming.side SideId.s0).half (halfOf (0 : Fin 16) false)).started = none ∧ ((wFraming.side SideId.s0).half (halfOf (0 : Fin 16) false)).pend = [] ∧ (wFraming.side SideId.s0).get (F.AP_FRAME_FRAME ↑(halfOf (0 : Fin 16) false)) % 32 ≠ 0 ∧ ((wFraming.side SideId.s0).half (halfOf (0 : Fin 16) false)).got = (0, 0) ∧ 64 ≤ (wTdm 256).bits ∧ (wTdm 256).bits = (wFraming.side SideId.s0).frameBits (halfOf (0 : Fin 16) false)) ∧ (0 ≤ (if ((wFraming.side SideId.s0).half (halfOf (0 : Fin 16) false)).cfg.testBit 16 = true then (wTdm 256).last.fall else (wTdm 256).last.rise) + 4 * (mediaUnits (wFraming.side SideId.s0).rate : Int)) ∧ ((if ((wFraming.side SideId.s0).half (halfOf (0 : Fin 16) false)).cfg.testBit 16 = true then (wTdm 256).last.fall else (wTdm 256).last.rise) + 4 * (mediaUnits (wFraming.side SideId.s0).rate : Int) < ↑(rowUnits (wFraming.side SideId.s0).rate)) ∧ ((wFraming.side SideId.s0).tm.fsArmed.testBit (0 : Fin 16).val = false) ∧ (offsetBits ((wFraming.side SideId.s0).half (halfOf (0 : Fin 16) false)).cfg + slotCount ((wFraming.side SideId.s0).half (halfOf (0 : Fin 16) false)).cfg * widthBits ((wFraming.side SideId.s0).half (halfOf (0 : Fin 16) false)).cfg ≤ (wTdm 256).line.length)) ∧
    (((wFraming.side SideId.s0).framing (halfOf (0 : Fin 16) true) = true ∧ (wFraming.side SideId.s0).isMaster (halfOf (0 : Fin 16) true) = false ∧ (wFraming.side SideId.s0).isBridged (halfOf (0 : Fin 16) true) = false ∧ ((wFraming.side SideId.s0).half (halfOf (0 : Fin 16) true)).started = none ∧ ((wFraming.side SideId.s0).half (halfOf (0 : Fin 16) true)).pend = [] ∧ (wFraming.side SideId.s0).get (F.AP_FRAME_FRAME ↑(halfOf (0 : Fin 16) true)) % 32 ≠ 0 ∧ ((wFraming.side SideId.s0).half (halfOf (0 : Fin 16) true)).got = (0, 0) ∧ 64 ≤ { wTdm 256 with fs := ⟨20000000, 20000000⟩ }.bits ∧ { wTdm 256 with fs := ⟨20000000, 20000000⟩ }.bits = (wFraming.side SideId.s0).frameBits (halfOf (0 : Fin 16) true)) ∧ (8 * (mediaUnits (wFraming.side SideId.s0).rate : Int) ≤ if ((wFraming.side SideId.s0).half (halfOf (0 : Fin 16) true)).cfg.testBit 15 = true then { wTdm 256 with fs := ⟨20000000, 20000000⟩ }.fs.fall else { wTdm 256 with fs := ⟨20000000, 20000000⟩ }.fs.rise)) ∧
    (((wStopping.side SideId.s0).framing (halfOf (0 : Fin 16) false) = true) ∧ ((wStopping.side SideId.s0).isMaster (halfOf (0 : Fin 16) false) = false) ∧ (((wStopping.side SideId.s0).half (halfOf (0 : Fin 16) false)).started = none) ∧ ((wTdm 10).bits < 64)) ∧
    (((wFraming.side SideId.s0).framing (halfOf (0 : Fin 16) true) = true) ∧ ((wFraming.side SideId.s0).isMaster (halfOf (0 : Fin 16) true) = false) ∧ (((wFraming.side SideId.s0).half (halfOf (0 : Fin 16) true)).started = none) ∧ ((wTdm 10).bits < 64)) := by refine ⟨?_, ?_, ?_, ?_⟩ <;> decide +kernel

theorem witness_PortEvents_1 :
    (((0 : BitVec 24).toInt ≤ 8388479)) ∧
    (((wFollowPorts.side SideId.s0).mode = Mode.follow ∨ (wFollowPorts.side SideId.s0).mode = Mode.rework)) ∧
    (((wBridgeMic.side SideId.s0).gateOpen 37 = true) ∧ ((wBridgeMic.side SideId.s0).pulsing = true) ∧ ((wBridgeMic.side SideId.s0).flag (F.AP_BR_EN (5 : Fin 128).val) = true) ∧ ((wBridgeMic.side SideId.s0).bridgeReady (5 : Fin 128).val = true) ∧ ((wBridgeMic.side SideId.s0).flag (F.AP_BR_KIND (5 : Fin 128).val) = true)) ∧
    (((wBridgeTdm.side SideId.s0).gateOpen 37 = true) ∧ ((wBridgeTdm.side SideId.s0).pulsing = true) ∧ ((wBridgeTdm.side SideId.s0).flag (F.AP_BR_EN (5 : Fin 128).val) = true) ∧ ((wBridgeTdm.side SideId.s0).bridgeReady (5 : Fin 128).val = true) ∧ ((wBridgeTdm.side SideId.s0).flag (F.AP_BR_KIND (5 : Fin 128).val) = false)) ∧
    (((wBridgeLocked.side SideId.s0).gateOpen 37 = true) ∧ ((wBridgeLocked.side SideId.s0).flag (F.AP_BR_LOCK (5 : Fin 128).val) = true) ∧ ((wBridgeLocked.side SideId.s0).bridgeSilent (5 : Fin 128).val = true)) ∧
    (((wPdm.side SideId.s0).gateOpen 37 = true) ∧ ((wPdm.side SideId.s0).pulsing = true) ∧ ((wPdm.side SideId.s0).ports.pdmOn = true) ∧ ((wPdm.side SideId.s0).flag F.AP_PDM_CFG_CLK_OUT = false)) := by refine ⟨?_, ?_, ?_, ?_, ?_, ?_⟩ <;> decide +kernel

theorem witness_PortEvents_2 :
    (((wGpioGlitch.side SideId.s0).gateOpen 37 = true) ∧ ((wGpioGlitch.side SideId.s0).alive = true) ∧ (0 < (wGpioGlitch.side SideId.s0).deglitch (0 : Fin 16).val)) ∧
    (((wGpioWanted.side SideId.s0).gateOpen 37 = true) ∧ ((wGpioWanted.side SideId.s0).alive = true) ∧ ((wGpioWanted.side SideId.s0).deglitch (0 : Fin 16).val ≤ 0) ∧ ((wGpioWanted.side SideId.s0).bit F.AP_GPIO_DIR (0 : Fin 16).val = false) ∧ ((wGpioWanted.side SideId.s0).clocked = true) ∧ ((wGpioWanted.side SideId.s0).tm.captures.length < 64) ∧ (∀ (n : Nat), n < 128 → (wGpioWanted.side SideId.s0).get (F.TK_CUE_STATE n) ≠ 2) ∧ (((wGpioWanted.side SideId.s0).get F.TM_CAP_GPIO / 4 ^ (0 : Fin 16).val % 4 = if false = true then 1 else 2) ∨ (wGpioWanted.side SideId.s0).get F.TM_CAP_GPIO / 4 ^ (0 : Fin 16).val % 4 = 3)) ∧
    (((wPorts.side SideId.s0).gateOpen 37 = true) ∧ ((wPorts.side SideId.s0).alive = true) ∧ ((wPorts.side SideId.s0).deglitch (0 : Fin 16).val ≤ 0) ∧ ((wPorts.side SideId.s0).bit F.AP_GPIO_DIR (0 : Fin 16).val = false) ∧ ((wPorts.side SideId.s0).clocked = true) ∧ ((wPorts.side SideId.s0).tm.captures.length < 64) ∧ (∀ (n : Nat), n < 128 → (wPorts.side SideId.s0).get (F.TK_CUE_STATE n) ≠ 2) ∧ ((wPorts.side SideId.s0).get F.TM_CAP_GPIO / 4 ^ (0 : Fin 16).val % 4 ≠ if false = true then 1 else 2) ∧ ((wPorts.side SideId.s0).get F.TM_CAP_GPIO / 4 ^ (0 : Fin 16).val % 4 ≠ 3)) := by refine ⟨?_, ?_, ?_⟩ <;> decide +kernel

theorem witness_EthernetPorts_1 :
    (((wSerLocked.side SideId.s0).gateOpen 38 = true) ∧ ((wSerLocked.side SideId.s0).pulsing = true) ∧ ((wSerLocked.side SideId.s0).bit F.CK_SERPLL_LOCK ((0 : Fin 2).val + 1) = true) ∧ (0 < (wSerLocked.side SideId.s0).serRate (0 : Fin 2)) ∧ ((wSerLocked.side SideId.s0).serRate (0 : Fin 2) < 4) ∧ ((wSerLocked.side SideId.s0).flag (F.NW_PORT_UP (0 : Fin 2).val) = false)) ∧
    (((wEthUp.side SideId.s0).gateOpen 38 = true) ∧ ((wEthUp.side SideId.s0).flag (F.NW_PORT_UP (0 : Fin 2).val) = true) ∧ ((wEthUp.side SideId.s0).net.txq[(0 : Fin 2)] = [])) ∧
    (((wSerLocked.side SideId.s0).gateOpen 38 = true) ∧ ((wSerLocked.side SideId.s0).clocked = true) ∧ (∀ (c : Fin 8), (wSerLocked.side SideId.s0).qualified ↑c = false) ∧ ((wSerLocked.side SideId.s0).flag F.TM_STAT_REF_SPLIT = false)) ∧
    (((wEthUp.side SideId.s0).gateOpen 38 = true) ∧ ((wEthUp.side SideId.s0).ethOn (0 : Fin 2) = true) ∧ (false = false ∨ 1522 < 0 ∨ EthFrame.ipv6 = EthFrame.ipv6 ∨ EthFrame.ipv6 = EthFrame.fragment)) ∧
    (((wEthAddr.side SideId.s0).gateOpen 38 = true) ∧ ((wEthAddr.side SideId.s0).ethOn (0 : Fin 2) = true) ∧ (64 ≤ 100) ∧ (100 ≤ 1522) ∧ ((wEthAddr.side SideId.s0).net.ports[(0 : Fin 2)].addr ≠ 0) ∧ ((wEthAddr.side SideId.s0).answers = true)) ∧
    (((wFlow.side SideId.s0).gateOpen 38 = true) ∧ ((wFlow.side SideId.s0).ethOn (0 : Fin 2) = true) ∧ ((wFlow.side SideId.s0).upsets = []) ∧ (64 ≤ 100) ∧ (100 ≤ 1522) ∧ ((wFlow.side SideId.s0).flowsOn 0 128 = [(0 : Fin 128).val]) ∧ (((wFlow.side SideId.s0).flowLegs (0 : Fin 128).val).testBit (0 : Fin 2).val = true) ∧ ((wFlow.side SideId.s0).flowWord ((0 : Fin 128).val) ((if (0 : Fin 2).val = 1 then 9 else 5) + 1) = 0) ∧ ((wFlow.side SideId.s0).flowF ((0 : Fin 128).val) ((if (0 : Fin 2).val = 1 then 9 else 5) + 2) 16 16 = 0) ∧ ((wFlow.side SideId.s0).flowF ((0 : Fin 128).val) 0 12 7 = 0) ∧ ((wFlow.side SideId.s0).flowWord ((0 : Fin 128).val) 3 = 0) ∧ ([1#8, 2#8, 3#8].length = (wFlow.side SideId.s0).flowChannels (0 : Fin 128).val * (wFlow.side SideId.s0).flowP (0 : Fin 128).val * sampleBytes ((wFlow.side SideId.s0).flowFormat (0 : Fin 128).val)) ∧ (nearestRow (wFlow.side SideId.s0).row ((0 + 2 ^ 32 - (wFlow.side SideId.s0).flowWord ((0 : Fin 128).val) 4) % 2 ^ 32) ≤ (wFlow.side SideId.s0).row + 2 * (wFlow.side SideId.s0).flowP (0 : Fin 128).val + (wFlow.side SideId.s0).flowOMax (0 : Fin 128).val)) := by refine ⟨?_, ?_, ?_, ?_, ?_, ?_⟩ <;> decide +kernel

theorem witness_EthernetPorts_2 :
    ((((wQueued 2).side SideId.s0).gateOpen 38 = true) ∧ (((wQueued 2).side SideId.s0).pulsing = true) ∧ (((wQueued 2).side SideId.s0).ethOn (0 : Fin 2) = true) ∧ (∀ (g : TxFrame), g ∈ ((wQueued 2).side SideId.s0).net.txq[(0 : Fin 2)] → ((wQueued 2).side SideId.s0).lets g = true) ∧ (nextTx ((wQueued 2).side SideId.s0).net.txq[(0 : Fin 2)] = some (wTxFrame 2)) ∧ ((wTxFrame 2).kind = 2)) ∧
    ((((wQueued 5).side SideId.s0).gateOpen 38 = true) ∧ (((wQueued 5).side SideId.s0).pulsing = true) ∧ (((wQueued 5).side SideId.s0).ethOn (0 : Fin 2) = true) ∧ (∀ (g : TxFrame), g ∈ ((wQueued 5).side SideId.s0).net.txq[(0 : Fin 2)] → ((wQueued 5).side SideId.s0).lets g = true) ∧ (nextTx ((wQueued 5).side SideId.s0).net.txq[(0 : Fin 2)] = some (wTxFrame 5)) ∧ (5 ≤ (wTxFrame 5).kind)) ∧
    ((((wQueued 1).side SideId.s0).gateOpen 38 = true) ∧ (((wQueued 1).side SideId.s0).pulsing = true) ∧ (((wQueued 1).side SideId.s0).ethOn (0 : Fin 2) = true) ∧ (∀ (g : TxFrame), g ∈ ((wQueued 1).side SideId.s0).net.txq[(0 : Fin 2)] → ((wQueued 1).side SideId.s0).lets g = true) ∧ (nextTx ((wQueued 1).side SideId.s0).net.txq[(0 : Fin 2)] = some (wTxFrame 1)) ∧ ((wTxFrame 1).kind = 1) ∧ (0 ≤ (((wQueued 1).side SideId.s0).shape (0 : Fin 2) (((wQueued 1).side SideId.s0).rowStart + 0)).net.ports[(0 : Fin 2)].credit) ∧ ((wTxFrame 1).ref < 256) ∧ (((wQueued 1).side SideId.s0).upsets = [])) ∧
    (((wShaper.side SideId.s0).gateOpen 38 = true) ∧ ((wShaper.side SideId.s0).pulsing = true) ∧ ((wShaper.side SideId.s0).ethOn (0 : Fin 2) = true) ∧ (∀ (g : TxFrame), g ∈ (wShaper.side SideId.s0).net.txq[(0 : Fin 2)] → (wShaper.side SideId.s0).lets g = true) ∧ (nextTx (wShaper.side SideId.s0).net.txq[(0 : Fin 2)] = some (wTxFrame 1)) ∧ (∀ (g : TxFrame), g ∈ (wShaper.side SideId.s0).net.txq[(0 : Fin 2)] → g.kind = 1) ∧ (((wShaper.side SideId.s0).shape (0 : Fin 2) ((wShaper.side SideId.s0).rowStart + 0)).net.ports[(0 : Fin 2)].credit < 0)) ∧
    (((wArmedCue.side SideId.s0).gateOpen 38 = true) ∧ ((wArmedCue.side SideId.s0).answers = true) ∧ (∀ (q : Fin 2), (wArmedCue.side SideId.s0).flag (F.NW_PORT_UP ↑q) = true) ∧ ((wArmedCue.side SideId.s0).armedBuffers = [(0 : Fin 256).val]) ∧ (groupMac ((wArmedCue.side SideId.s0).bufVal ((0 : Fin 256).val) 0 4) = none)) := by refine ⟨?_, ?_, ?_, ?_, ?_⟩ <;> decide +kernel

theorem witness_ShemasLinks_1 :
    ((((wHello 0).side SideId.s0).linksOn = true) ∧ (((wHello 0).side SideId.s0).shState (0 : Fin 4).val = 1) ∧ (((wHello 0).side SideId.s0).shemas.links[(0 : Fin 4)].hellos < 15 ∨ false = false)) ∧
    ((((wHello 15).side SideId.s0).linksOn = true) ∧ (((wHello 15).side SideId.s0).shState (0 : Fin 4).val = 1) ∧ (15 ≤ ((wHello 15).side SideId.s0).shemas.links[(0 : Fin 4)].hellos) ∧ (true = true)) ∧
    (((wLinkUp.side SideId.s0).linksOn = true) ∧ ((wLinkUp.side SideId.s0).linkCarries (0 : Fin 4).val = true) ∧ ((wRowFrame false []).hcrcOk = false)) ∧
    (((wLinkUp.side SideId.s0).linksOn = true) ∧ ((wLinkUp.side SideId.s0).linkCarries (0 : Fin 4).val = true) ∧ ((wRowFrame true []).hcrcOk = true) ∧ ((wRowFrame true []).cells = []) ∧ ((wLinkUp.side SideId.s0).gauge.waits = none) ∧ ((wLinkUp.side SideId.s0).shemas.links[(0 : Fin 4)].sentAt = []) ∧ ((wLinkUp.side SideId.s0).shemas.links[(0 : Fin 4)].unacked = []) ∧ ((wLinkUp.side SideId.s0).shemas.links[(0 : Fin 4)].resend = []) ∧ (wLinkUp.host.relay = []) ∧ ((wRowFrame true []).skeins = [])) ∧
    (((wSkeinOn.side SideId.s0).linksOn = true) ∧ ((wSkeinOn.side SideId.s0).linkCarries (0 : Fin 4).val = true) ∧ ((wRowFrame true [wBlock]).hcrcOk = true) ∧ ((wRowFrame true [wBlock]).cells = []) ∧ ((wSkeinOn.side SideId.s0).gauge.waits = none) ∧ ((wSkeinOn.side SideId.s0).shemas.links[(0 : Fin 4)].sentAt = []) ∧ ((wSkeinOn.side SideId.s0).shemas.links[(0 : Fin 4)].unacked = []) ∧ ((wSkeinOn.side SideId.s0).shemas.links[(0 : Fin 4)].resend = []) ∧ (wSkeinOn.host.relay = []) ∧ ((wRowFrame true [wBlock]).skeins = [wBlock]) ∧ (wBlock.skein = (0 : Fin 16).val) ∧ (wBlock.crcOk = true) ∧ ((wSkeinOn.side SideId.s0).shState (0 : Fin 4).val = 2) ∧ ((wRowFrame true [wBlock]).row = (wSkeinOn.side SideId.s0).row) ∧ ((wSkeinOn.side SideId.s0).skeinOn (32 * (0 : Fin 4).val + (0 : Fin 16).val) = true) ∧ (wBlock.channels = (wSkeinOn.side SideId.s0).skeinF (32 * (0 : Fin 4).val + (0 : Fin 16).val) 0 12 8 + 1) ∧ (wBlock.words.length = wBlock.channels) ∧ (wBlock.hops = (wSkeinOn.side SideId.s0).skeinF (32 * (0 : Fin 4).val + (0 : Fin 16).val) 0 20 4) ∧ ((wSkeinOn.side SideId.s0).skeinTaken (32 * (0 : Fin 4).val + (0 : Fin 16).val) (wRowFrame true [wBlock]).row = false) ∧ ((wSkeinOn.side SideId.s0).skeinF (32 * (0 : Fin 4).val + (0 : Fin 16).val) 0 7 1 = 0) ∧ (∀ (a : Fin 4), a ≠ (0 : Fin 4) → (wSkeinOn.side SideId.s0).skeinOn (32 * ↑a + (0 : Fin 16).val) = false) ∧ ((wSkeinOn.side SideId.s0).pages.shemas = [])) ∧
    (((wSkeinOn.side SideId.s0).linksOn = true) ∧ ((wSkeinOn.side SideId.s0).skeinOn (32 * (0 : Fin 4).val + (0 : Fin 16).val) = true) ∧ ((wSkeinOn.side SideId.s0).skeinTaken (32 * (0 : Fin 4).val + (0 : Fin 16).val) (((wSkeinOn.side SideId.s0).row + 2 ^ 64 - 1) % 2 ^ 64) = false)) := by refine ⟨?_, ?_, ?_, ?_, ?_, ?_⟩ <;> decide +kernel

theorem witness_ShemasLinks_2 :
    (((wLinkMissing.side SideId.s0).linksOn = true) ∧ ((wLinkMissing.side SideId.s0).linkCarries (0 : Fin 4).val = true) ∧ (4 ≤ (wLinkMissing.side SideId.s0).shemas.links[(0 : Fin 4)].missRun) ∧ (∀ (m : HeldMsg), m ∈ wLinkMissing.host.relay → m.via ≠ some (SideId.s0, (0 : Fin 4).val))) ∧
    (((wUnacked.side SideId.s0).linksOn = true) ∧ ((wUnacked.side SideId.s0).linkCarries (0 : Fin 4).val = true) ∧ (List.filter (fun c => decide (c.fst + 4 ≤ (wUnacked.side SideId.s0).row)) (wUnacked.side SideId.s0).shemas.links[(0 : Fin 4)].unacked ≠ [])) := by refine ⟨?_, ?_⟩ <;> decide +kernel

theorem witness_FabricTransactions_1 :
    (((wBusFull.side SideId.s0).alive = true) ∧ ((wBusFull.side SideId.s0).fab.wait = []) ∧ ((wReq false 0x06020000).master = (1 : Fin 12)) ∧ (↑(wReq false 0x06020000).id < masterIds (1 : Fin 12).val) ∧ ((wReq false 0x06020000).dest = FabDest.space (100794368 : BitVec 32)) ∧ ((wReq false 0x06020000).narrow = false) ∧ ((100794368 : BitVec 32).toNat % 32 = 0) ∧ ((100794368 : BitVec 32).toNat % 4096 + 32 * (↑(wReq false 0x06020000).beats + 1) ≤ 4096) ∧ ((1 : Fin 12).val = 11 → (wBusFull.side SideId.s0).debugOn = true) ∧ ((wBusFull.side SideId.s0).closingAt (100794368 : BitVec 32).toNat = false) ∧ (∀ (t : FabTx), t ∈ (wBusFull.side SideId.s0).fab.out → t.master = (1 : Fin 12).val → t.id = ↑(wReq false 0x06020000).id → t.target = fabTarget (100794368 : BitVec 32).toNat) ∧ (16 ≤ (List.filter (fun t => decide (t.master = (1 : Fin 12).val ∧ t.write = (wReq false 0x06020000).write)) (wBusFull.side SideId.s0).fab.out).length)) ∧
    (((wReady.side SideId.s0).alive = true) ∧ ((wReady.side SideId.s0).fab.wait = []) ∧ ((wReq true 0x06020000).master = (1 : Fin 12)) ∧ (↑(wReq true 0x06020000).id < masterIds (1 : Fin 12).val) ∧ ((wReq true 0x06020000).dest = FabDest.space (100794368 : BitVec 32)) ∧ ((wReq true 0x06020000).narrow = false) ∧ ((100794368 : BitVec 32).toNat % 32 = 0) ∧ ((100794368 : BitVec 32).toNat % 4096 + 32 * (↑(wReq true 0x06020000).beats + 1) ≤ 4096) ∧ ((1 : Fin 12).val = 11 → (wReady.side SideId.s0).debugOn = true) ∧ ((wReady.side SideId.s0).closingAt (100794368 : BitVec 32).toNat = false) ∧ (∀ (t : FabTx), t ∈ (wReady.side SideId.s0).fab.out → t.master = (1 : Fin 12).val → t.id = ↑(wReq true 0x06020000).id → t.target = fabTarget (100794368 : BitVec 32).toNat) ∧ ((List.filter (fun t => decide (t.master = (1 : Fin 12).val ∧ t.write = (wReq true 0x06020000).write)) (wReady.side SideId.s0).fab.out).length < 16) ∧ ((wReady.side SideId.s0).fab.out.length < 176) ∧ ((wReady.side SideId.s0).PlainBytes (100794368 : BitVec 32).toNat (32 * (↑(wReq true 0x06020000).beats + 1))) ∧ ((1 : Fin 12).val ∈ (targetMasters (fabTarget (100794368 : BitVec 32).toNat)).fst) ∧ ((wReq true 0x06020000).write = true) ∧ (¬(1 : Fin 12).val ∈ (targetMasters (fabTarget (100794368 : BitVec 32).toNat)).snd) ∧ ((wReq true 0x06020000).data.length = 32 * (↑(wReq true 0x06020000).beats + 1)) ∧ ((wReq true 0x06020000).strobes = List.replicate (32 * (↑(wReq true 0x06020000).beats + 1)) true) ∧ ((wReq true 0x06020000).collide = [])) ∧
    (((wReady.side SideId.s0).alive = true) ∧ ((wReady.side SideId.s0).fab.wait = []) ∧ ((wReq false 0x06020000).master = (1 : Fin 12)) ∧ (↑(wReq false 0x06020000).id < masterIds (1 : Fin 12).val) ∧ ((wReq false 0x06020000).dest = FabDest.space (100794368 : BitVec 32)) ∧ ((wReq false 0x06020000).narrow = false) ∧ ((100794368 : BitVec 32).toNat % 32 = 0) ∧ ((100794368 : BitVec 32).toNat % 4096 + 32 * (↑(wReq false 0x06020000).beats + 1) ≤ 4096) ∧ ((1 : Fin 12).val = 11 → (wReady.side SideId.s0).debugOn = true) ∧ ((wReady.side SideId.s0).closingAt (100794368 : BitVec 32).toNat = false) ∧ (∀ (t : FabTx), t ∈ (wReady.side SideId.s0).fab.out → t.master = (1 : Fin 12).val → t.id = ↑(wReq false 0x06020000).id → t.target = fabTarget (100794368 : BitVec 32).toNat) ∧ ((List.filter (fun t => decide (t.master = (1 : Fin 12).val ∧ t.write = (wReq false 0x06020000).write)) (wReady.side SideId.s0).fab.out).length < 16) ∧ ((wReady.side SideId.s0).fab.out.length < 176) ∧ ((wReady.side SideId.s0).PlainBytes (100794368 : BitVec 32).toNat (32 * (↑(wReq false 0x06020000).beats + 1))) ∧ ((1 : Fin 12).val ∈ (targetMasters (fabTarget (100794368 : BitVec 32).toNat)).fst) ∧ ((wReq false 0x06020000).write = false)) ∧
    (((wReady.side SideId.s0).alive = true) ∧ ((wReady.side SideId.s0).fab.wait = []) ∧ ((wReq true 0x0C000000).master = (1 : Fin 12)) ∧ (↑(wReq true 0x0C000000).id < masterIds (1 : Fin 12).val) ∧ ((wReq true 0x0C000000).dest = FabDest.space (201326592 : BitVec 32)) ∧ ((wReq true 0x0C000000).narrow = false) ∧ ((201326592 : BitVec 32).toNat % 32 = 0) ∧ ((201326592 : BitVec 32).toNat % 4096 + 32 * (↑(wReq true 0x0C000000).beats + 1) ≤ 4096) ∧ ((1 : Fin 12).val = 11 → (wReady.side SideId.s0).debugOn = true) ∧ ((wReady.side SideId.s0).closingAt (201326592 : BitVec 32).toNat = false) ∧ (∀ (t : FabTx), t ∈ (wReady.side SideId.s0).fab.out → t.master = (1 : Fin 12).val → t.id = ↑(wReq true 0x0C000000).id → t.target = fabTarget (201326592 : BitVec 32).toNat) ∧ ((List.filter (fun t => decide (t.master = (1 : Fin 12).val ∧ t.write = (wReq true 0x0C000000).write)) (wReady.side SideId.s0).fab.out).length < 16) ∧ ((wReady.side SideId.s0).fab.out.length < 176) ∧ (fabTarget (201326592 : BitVec 32).toNat = 31) ∧ ((wReq true 0x0C000000).write = true)) ∧
    (((wBusFull.side SideId.s0).alive = true) ∧ ((wBusFull.side SideId.s0).fab.wait = []) ∧ (List.find? (fun u => decide (u.master = (1 : Fin 12).val ∧ u.id = (0 : Fin 16).val)) (wBusFull.side SideId.s0).fab.out = some (wTx 0)) ∧ ((1 : Fin 12).val ≠ 2 ∨ (wTx 0).resp = 0)) ∧
    (((wBusErr.side SideId.s0).alive = true) ∧ ((wBusErr.side SideId.s0).fab.wait = []) ∧ (List.find? (fun u => decide (u.master = (1 : Fin 12).val ∧ u.id = (0 : Fin 16).val)) (wBusErr.side SideId.s0).fab.out = some (wTx 3)) ∧ ((1 : Fin 12).val ≠ 2 ∨ (wTx 3).resp = 0) ∧ (2 ≤ (wTx 3).resp) ∧ ((wBusErr.side SideId.s0).flag F.FB_STAT_ERR = false)) :=
  ⟨by decide +kernel,
    by unfold Side.PlainBytes; decide +kernel,
    by unfold Side.PlainBytes; decide +kernel,
    by decide +kernel,
    by decide +kernel,
    by decide +kernel⟩

theorem witness_FabricTransactions_2 :
    (((wBusErrs.side SideId.s0).alive = true) ∧ ((wBusErrs.side SideId.s0).fab.wait = []) ∧ (List.find? (fun u => decide (u.master = (1 : Fin 12).val ∧ u.id = (0 : Fin 16).val)) (wBusErrs.side SideId.s0).fab.out = some (wTx 3)) ∧ ((1 : Fin 12).val ≠ 2 ∨ (wTx 3).resp = 0) ∧ (2 ≤ (wTx 3).resp) ∧ ((wBusErrs.side SideId.s0).flag F.FB_STAT_ERR = true)) := by decide +kernel

theorem witness_DmaEngine_1 :
    (((wReady.side SideId.s0).clocked = true) ∧ ((wReady.side SideId.s0).dma.job = none) ∧ ((wReady.side SideId.s0).bit (if (0 : Fin 48).val < 32 then (F.DMA_PEND_LO, (0 : Fin 48).val) else (F.DMA_PEND_HI, (0 : Fin 48).val - 32)).fst (if (0 : Fin 48).val < 32 then (F.DMA_PEND_LO, (0 : Fin 48).val) else (F.DMA_PEND_HI, (0 : Fin 48).val - 32)).snd = false)) ∧
    (((wDmaLine.side SideId.s0).clocked = true) ∧ ((wDmaLine.side SideId.s0).dma.job = none) ∧ ((wDmaLine.side SideId.s0).bit (if (0 : Fin 48).val < 32 then (F.DMA_PEND_LO, (0 : Fin 48).val) else (F.DMA_PEND_HI, (0 : Fin 48).val - 32)).fst (if (0 : Fin 48).val < 32 then (F.DMA_PEND_LO, (0 : Fin 48).val) else (F.DMA_PEND_HI, (0 : Fin 48).val - 32)).snd = true)) ∧
    ((wReset.mayWrite SideId.s0 Writer.firmware = false)) ∧
    ((wReady.mayWrite SideId.s0 Writer.firmware = true) ∧ ((wReady.side SideId.s0).bit (if 48 + (0 : Fin 16).val < 32 then (F.DMA_PEND_LO, 48 + (0 : Fin 16).val) else (F.DMA_PEND_HI, 48 + (0 : Fin 16).val - 32)).fst (if 48 + (0 : Fin 16).val < 32 then (F.DMA_PEND_LO, 48 + (0 : Fin 16).val) else (F.DMA_PEND_HI, 48 + (0 : Fin 16).val - 32)).snd = false)) ∧
    ((wDmaPending.mayWrite SideId.s0 Writer.firmware = true) ∧ ((wDmaPending.side SideId.s0).bit (if 48 + (5 : Fin 16).val < 32 then (F.DMA_PEND_LO, 48 + (5 : Fin 16).val) else (F.DMA_PEND_HI, 48 + (5 : Fin 16).val - 32)).fst (if 48 + (5 : Fin 16).val < 32 then (F.DMA_PEND_LO, 48 + (5 : Fin 16).val) else (F.DMA_PEND_HI, 48 + (5 : Fin 16).val - 32)).snd = true)) ∧
    (((wDmaHalted.side SideId.s0).alive = true) ∧ ((wDmaHalted.side SideId.s0).dma.job = some (wDmaJob 0)) ∧ ((wDmaJob 0).ch = (5 : Fin 16).val) ∧ ((wDmaHalted.side SideId.s0).flag (F.DMA_CH_LENT (5 : Fin 16).val) = true) ∧ ((wDmaHalted.side SideId.s0).flag (F.DMA_CH_HALTED (5 : Fin 16).val) = true) ∧ ((wDmaHalted.side SideId.s0).flag F.DMA_STAT_HALTED = true)) := by refine ⟨?_, ?_, ?_, ?_, ?_, ?_⟩ <;> decide +kernel

theorem witness_DmaEngine_2 :
    (((wDmaMoved.side SideId.s0).alive = true) ∧ ((wDmaMoved.side SideId.s0).dma.job = some (wDmaJob 1)) ∧ ((wDmaJob 1).ch = (5 : Fin 16).val) ∧ ((wDmaMoved.side SideId.s0).flag (F.DMA_CH_LENT (5 : Fin 16).val) = false)) ∧
    (((wReady.side SideId.s0).alive = true) ∧ (Writer.firmware = Writer.host → wReady.host.open = true ∧ ((wReady.side SideId.s0).flag (F.DMA_CH_LENT (0 : Fin 16).val) = true ∨ (wReady.side SideId.s0).fuses.lc ≤ 1)) ∧ ((wReady.side SideId.s0).get (F.DMA_CH_REC_CONS (0 : Fin 16).val) < 65536) ∧ (((wReady.side SideId.s0).get (F.DMA_CH_REC_WR (0 : Fin 16).val) + 65536 - (wReady.side SideId.s0).get (F.DMA_CH_REC_CONS (0 : Fin 16).val)) % 65536 < ((1 : BitVec 16).toNat + 65536 - (wReady.side SideId.s0).get (F.DMA_CH_REC_CONS (0 : Fin 16).val)) % 65536)) ∧
    (((wReady.side SideId.s0).alive = true) ∧ (Writer.firmware = Writer.host → wReady.host.open = true ∧ ((wReady.side SideId.s0).flag (F.DMA_CH_LENT (0 : Fin 16).val) = true ∨ (wReady.side SideId.s0).fuses.lc ≤ 1)) ∧ ((wReady.side SideId.s0).get (F.DMA_CH_REC_CONS (0 : Fin 16).val) < 65536) ∧ (((0 : BitVec 16).toNat + 65536 - (wReady.side SideId.s0).get (F.DMA_CH_REC_CONS (0 : Fin 16).val)) % 65536 ≤ ((wReady.side SideId.s0).get (F.DMA_CH_REC_WR (0 : Fin 16).val) + 65536 - (wReady.side SideId.s0).get (F.DMA_CH_REC_CONS (0 : Fin 16).val)) % 65536) ∧ ((wReady.side SideId.s0).dma.records.Nodup)) ∧
    (((wDmaPending.side SideId.s0).clocked = true) ∧ ((wDmaPending.side SideId.s0).flag F.DMA_STAT_HALTED = false) ∧ ((wDmaPending.side SideId.s0).flag F.DMA_CTRL_EN = true) ∧ ((wDmaPending.side SideId.s0).flag F.DMA_STAT_BUSY = false) ∧ ((wDmaPending.side SideId.s0).flag (F.DMA_CH_EN (5 : Fin 16).val) = true) ∧ ((wDmaPending.side SideId.s0).jobHeader ((5 : Fin 16).val) 53 = some (100794368, 32)) ∧ ((wDmaPending.side SideId.s0).flag (F.DMA_CH_HALTED (5 : Fin 16).val) = false) ∧ ((wDmaPending.side SideId.s0).pendingLine (5 : Fin 16).val = some 53) ∧ (∀ (d : Fin 16), d < (5 : Fin 16) → (wDmaPending.side SideId.s0).ready ↑d = none) ∧ (∀ (j : DmaJob), j ∈ (wDmaPending.side SideId.s0).dma.parked → j.ch ≠ (5 : Fin 16).val) ∧ ((wDmaPending.side SideId.s0).recFull (5 : Fin 16).val = false) ∧ ((wDmaPending.side SideId.s0).flag (F.DMA_CH_HOSTDST (5 : Fin 16).val) = false) ∧ ((wDmaPending.side SideId.s0).get (F.DMA_CH_DATA_LEN (5 : Fin 16).val) = 0) ∧ (0 < 32) ∧ (32 ≤ 32 * ((wDmaPending.side SideId.s0).get (F.DMA_CH_BURST (5 : Fin 16).val) + 1)) ∧ (100794368 % 32 = 0) ∧ ((wDmaPending.side SideId.s0).get64 (F.DMA_CH_DST_LO (5 : Fin 16).val) (F.DMA_CH_DST_HI (5 : Fin 16).val) % 32 = 0) ∧ (100794368 % 4096 + 32 ≤ 4096) ∧ ((wDmaPending.side SideId.s0).get64 (F.DMA_CH_DST_LO (5 : Fin 16).val) (F.DMA_CH_DST_HI (5 : Fin 16).val) % 4096 + 32 ≤ 4096) ∧ ((wDmaPending.side SideId.s0).PlainBytes 100794368 ((32 + 31) / 32 * 32)) ∧ ((wDmaPending.side SideId.s0).PlainBytes ((wDmaPending.side SideId.s0).get64 (F.DMA_CH_DST_LO (5 : Fin 16).val) (F.DMA_CH_DST_HI (5 : Fin 16).val)) 32)) ∧
    (((wDmaMoved.side SideId.s0).clocked = true) ∧ ((wDmaMoved.side SideId.s0).flag F.DMA_STAT_HALTED = false) ∧ ((wDmaMoved.side SideId.s0).dma.job = some (wDmaJob 1)) ∧ ((wDmaJob 1).ch = (5 : Fin 16).val) ∧ (4 ≤ (wDmaJob 1).line) ∧ ((wDmaJob 1).line < 64) ∧ ((wDmaMoved.side SideId.s0).jobMoved (wDmaJob 1) = true) ∧ ((wDmaMoved.side SideId.s0).flag (F.DMA_CH_HOSTDST (5 : Fin 16).val) = false) ∧ ((wDmaMoved.side SideId.s0).PlainBytes ((wDmaMoved.side SideId.s0).get64 (F.DMA_CH_REC_BASE_LO (5 : Fin 16).val) (F.DMA_CH_REC_BASE_HI (5 : Fin 16).val) + 16 * ((wDmaMoved.side SideId.s0).get (F.DMA_CH_REC_WR (5 : Fin 16).val) % (wDmaMoved.side SideId.s0).get (F.DMA_CH_REC_COUNT (5 : Fin 16).val))) 16) ∧ (((wDmaMoved.side SideId.s0).get64 (F.DMA_CH_REC_BASE_LO (5 : Fin 16).val) (F.DMA_CH_REC_BASE_HI (5 : Fin 16).val) + 16 * ((wDmaMoved.side SideId.s0).get (F.DMA_CH_REC_WR (5 : Fin 16).val) % (wDmaMoved.side SideId.s0).get (F.DMA_CH_REC_COUNT (5 : Fin 16).val))) % 16 = 0)) ∧
    (((wDmaToHost.side SideId.s0).clocked = true) ∧ ((wDmaToHost.side SideId.s0).flag F.DMA_STAT_HALTED = false) ∧ ((wDmaToHost.side SideId.s0).dma.job = some (wDmaJob 1)) ∧ ((wDmaJob 1).ch = (5 : Fin 16).val) ∧ (4 ≤ (wDmaJob 1).line) ∧ ((wDmaJob 1).line < 64) ∧ ((wDmaToHost.side SideId.s0).jobMoved (wDmaJob 1) = true) ∧ ((wDmaToHost.side SideId.s0).flag (F.DMA_CH_HOSTDST (5 : Fin 16).val) = true) ∧ (wDmaToHost.host.masters = true)) :=
  ⟨by decide +kernel,
    by decide +kernel,
    by decide +kernel,
    by unfold Side.PlainBytes; decide +kernel,
    by unfold Side.PlainBytes; decide +kernel,
    by decide +kernel⟩

theorem witness_DmaEngine_3 :
    (((wDmaMoving.side SideId.s0).clocked = true) ∧ ((wDmaMoving.side SideId.s0).flag F.DMA_STAT_HALTED = false) ∧ ((wDmaMoving.side SideId.s0).dma.job = some (wDmaJob 0)) ∧ ((wDmaJob 0).ch = (5 : Fin 16).val) ∧ (4 ≤ (wDmaJob 0).line) ∧ ((wDmaJob 0).line < 64) ∧ ((wDmaMoving.side SideId.s0).jobMoved (wDmaJob 0) = false) ∧ ((wDmaMoving.side SideId.s0).bit (if (wDmaJob 0).line < 32 then (F.DMA_PEND_LO, (wDmaJob 0).line) else (F.DMA_PEND_HI, (wDmaJob 0).line - 32)).fst (if (wDmaJob 0).line < 32 then (F.DMA_PEND_LO, (wDmaJob 0).line) else (F.DMA_PEND_HI, (wDmaJob 0).line - 32)).snd = false) ∧ ((wDmaMoving.side SideId.s0).flag (F.DMA_CH_HOSTDST (5 : Fin 16).val) = false) ∧ ((wDmaMoving.side SideId.s0).PlainBytes ((wDmaMoving.side SideId.s0).get64 (F.DMA_CH_REC_BASE_LO (5 : Fin 16).val) (F.DMA_CH_REC_BASE_HI (5 : Fin 16).val) + 16 * ((wDmaMoving.side SideId.s0).get (F.DMA_CH_REC_WR (5 : Fin 16).val) % (wDmaMoving.side SideId.s0).get (F.DMA_CH_REC_COUNT (5 : Fin 16).val))) 16) ∧ (((wDmaMoving.side SideId.s0).get64 (F.DMA_CH_REC_BASE_LO (5 : Fin 16).val) (F.DMA_CH_REC_BASE_HI (5 : Fin 16).val) + 16 * ((wDmaMoving.side SideId.s0).get (F.DMA_CH_REC_WR (5 : Fin 16).val) % (wDmaMoving.side SideId.s0).get (F.DMA_CH_REC_COUNT (5 : Fin 16).val))) % 16 = 0)) := by unfold Side.PlainBytes; decide +kernel

theorem witness_ChecksAndSystemMessages_1 :
    ((messageCode (Instr.sysNop .s0) = some (SideId.s0, 1, 1)) ∧ (wReset.ringFront SideId.s0 = none ∨ (wReset.side SideId.s0).serves = false)) ∧
    ((messageCode (Instr.sysNop .s0) = some (SideId.s0, 1, 1)) ∧ (mNopVersion.ringFront SideId.s0 ≠ none) ∧ ((mNopVersion.side SideId.s0).serves = true) ∧ ((mNopVersion.front SideId.s0).version ≠ 2)) ∧
    ((messageCode (Instr.sysNop .s0) = some (SideId.s0, 1, 1)) ∧ (mNopDevid.ringFront SideId.s0 ≠ none) ∧ ((mNopDevid.side SideId.s0).serves = true) ∧ ((mNopDevid.front SideId.s0).version = 2) ∧ ((mNopDevid.front SideId.s0).devid % 64 ≠ mNopDevid.host.get F.HP_ID_DEVID) ∧ (mNopDevid.host.routeFull ((mNopDevid.front SideId.s0).devid % 64) = false)) ∧
    ((messageCode (Instr.sysNop .s0) = some (SideId.s0, 1, 1)) ∧ (mNopLong.ringFront SideId.s0 ≠ none) ∧ ((mNopLong.side SideId.s0).serves = true) ∧ ((mNopLong.front SideId.s0).version = 2) ∧ ((mNopLong.front SideId.s0).devid % 64 = mNopLong.host.get F.HP_ID_DEVID) ∧ (4064 < (mNopLong.front SideId.s0).len)) ∧
    ((messageCode (Instr.sysNop .s0) = some (SideId.s0, 1, 1)) ∧ (mNopCrc.ringFront SideId.s0 ≠ none) ∧ ((mNopCrc.side SideId.s0).serves = true) ∧ ((mNopCrc.front SideId.s0).version = 2) ∧ ((mNopCrc.front SideId.s0).devid % 64 = mNopCrc.host.get F.HP_ID_DEVID) ∧ ((mNopCrc.front SideId.s0).len ≤ 4064) ∧ ((mNopCrc.front SideId.s0).crc ≠ if (mNopCrc.front SideId.s0).len = 0 then 0 else crc32 (mNopCrc.front SideId.s0).payload)) ∧
    ((messageCode (Instr.sysNop .s0) = some (SideId.s0, 1, 1)) ∧ (mNopSelOther.ringFront SideId.s0 ≠ none) ∧ ((mNopSelOther.side SideId.s0).serves = true) ∧ ((mNopSelOther.front SideId.s0).version = 2) ∧ ((mNopSelOther.front SideId.s0).devid % 64 = mNopSelOther.host.get F.HP_ID_DEVID) ∧ ((mNopSelOther.front SideId.s0).len ≤ 4064) ∧ ((mNopSelOther.front SideId.s0).crc = if (mNopSelOther.front SideId.s0).len = 0 then 0 else crc32 (mNopSelOther.front SideId.s0).payload) ∧ (¬((mNopSelOther.front SideId.s0).sel = SideId.s0.num ∧ mNopSelOther.frontTag SideId.s0 % 4 ≠ 1 ∨ (mNopSelOther.front SideId.s0).sel = 2 ∧ mNopSelOther.frontTag SideId.s0 % 4 ≠ 0 ∨ (mNopSelOther.front SideId.s0).sel = 3))) := by refine ⟨?_, ?_, ?_, ?_, ?_, ?_⟩ <;> decide +kernel

theorem witness_ChecksAndSystemMessages_2 :
    ((messageCode (Instr.sysNop .s0) = some (SideId.s0, 1, 1)) ∧ (mClassNone.ringFront SideId.s0 ≠ none) ∧ ((mClassNone.side SideId.s0).serves = true) ∧ ((mClassNone.front SideId.s0).version = 2) ∧ ((mClassNone.front SideId.s0).devid % 64 = mClassNone.host.get F.HP_ID_DEVID) ∧ ((mClassNone.front SideId.s0).len ≤ 4064) ∧ ((mClassNone.front SideId.s0).crc = if (mClassNone.front SideId.s0).len = 0 then 0 else crc32 (mClassNone.front SideId.s0).payload) ∧ ((mClassNone.front SideId.s0).sel = SideId.s0.num ∧ mClassNone.frontTag SideId.s0 % 4 ≠ 1 ∨ (mClassNone.front SideId.s0).sel = 2 ∧ mClassNone.frontTag SideId.s0 % 4 ≠ 0 ∨ (mClassNone.front SideId.s0).sel = 3) ∧ (opcodes (mClassNone.front SideId.s0).cls = 0)) ∧
    ((messageCode (Instr.sysNop .s0) = some (SideId.s0, 1, 1)) ∧ (mOpNone.ringFront SideId.s0 ≠ none) ∧ ((mOpNone.side SideId.s0).serves = true) ∧ ((mOpNone.front SideId.s0).version = 2) ∧ ((mOpNone.front SideId.s0).devid % 64 = mOpNone.host.get F.HP_ID_DEVID) ∧ ((mOpNone.front SideId.s0).len ≤ 4064) ∧ ((mOpNone.front SideId.s0).crc = if (mOpNone.front SideId.s0).len = 0 then 0 else crc32 (mOpNone.front SideId.s0).payload) ∧ ((mOpNone.front SideId.s0).sel = SideId.s0.num ∧ mOpNone.frontTag SideId.s0 % 4 ≠ 1 ∨ (mOpNone.front SideId.s0).sel = 2 ∧ mOpNone.frontTag SideId.s0 % 4 ≠ 0 ∨ (mOpNone.front SideId.s0).sel = 3) ∧ (opcodes (mOpNone.front SideId.s0).cls ≠ 0) ∧ ((mOpNone.front SideId.s0).op = 0 ∨ opcodes (mOpNone.front SideId.s0).cls < (mOpNone.front SideId.s0).op)) ∧
    ((messageCode (Instr.sysNop .s0) = some (SideId.s0, 1, 1)) ∧ (mHostClose.ringFront SideId.s0 ≠ none) ∧ ((mHostClose.side SideId.s0).serves = true) ∧ ((mHostClose.front SideId.s0).version = 2) ∧ ((mHostClose.front SideId.s0).devid % 64 = mHostClose.host.get F.HP_ID_DEVID) ∧ ((mHostClose.front SideId.s0).len ≤ 4064) ∧ ((mHostClose.front SideId.s0).crc = if (mHostClose.front SideId.s0).len = 0 then 0 else crc32 (mHostClose.front SideId.s0).payload) ∧ ((mHostClose.front SideId.s0).sel = SideId.s0.num ∧ mHostClose.frontTag SideId.s0 % 4 ≠ 1 ∨ (mHostClose.front SideId.s0).sel = 2 ∧ mHostClose.frontTag SideId.s0 % 4 ≠ 0 ∨ (mHostClose.front SideId.s0).sel = 3) ∧ (1 ≤ (mHostClose.front SideId.s0).op) ∧ ((mHostClose.front SideId.s0).op ≤ opcodes (mHostClose.front SideId.s0).cls) ∧ ((mHostClose.front SideId.s0).sel = 3) ∧ (hostOpcode (mHostClose.front SideId.s0).cls (mHostClose.front SideId.s0).op = false)) ∧
    ((messageCode (Instr.sysNop .s0) = some (SideId.s0, 1, 1)) ∧ (mSideRoute.ringFront SideId.s0 ≠ none) ∧ ((mSideRoute.side SideId.s0).serves = true) ∧ ((mSideRoute.front SideId.s0).version = 2) ∧ ((mSideRoute.front SideId.s0).devid % 64 = mSideRoute.host.get F.HP_ID_DEVID) ∧ ((mSideRoute.front SideId.s0).len ≤ 4064) ∧ ((mSideRoute.front SideId.s0).crc = if (mSideRoute.front SideId.s0).len = 0 then 0 else crc32 (mSideRoute.front SideId.s0).payload) ∧ ((mSideRoute.front SideId.s0).sel = SideId.s0.num ∧ mSideRoute.frontTag SideId.s0 % 4 ≠ 1 ∨ (mSideRoute.front SideId.s0).sel = 2 ∧ mSideRoute.frontTag SideId.s0 % 4 ≠ 0 ∨ (mSideRoute.front SideId.s0).sel = 3) ∧ (1 ≤ (mSideRoute.front SideId.s0).op) ∧ ((mSideRoute.front SideId.s0).op ≤ opcodes (mSideRoute.front SideId.s0).cls) ∧ ((mSideRoute.front SideId.s0).sel ≠ 3) ∧ ((mSideRoute.front SideId.s0).cls = 12) ∧ (3 ≤ (mSideRoute.front SideId.s0).op)) ∧
    ((messageCode (Instr.sysSessionClose .s0) = some (SideId.s0, 1, 4)) ∧ (mCloseLocked.ringFront SideId.s0 ≠ none) ∧ ((mCloseLocked.side SideId.s0).serves = true) ∧ ((mCloseLocked.front SideId.s0).version = 2) ∧ ((mCloseLocked.front SideId.s0).devid % 64 = mCloseLocked.host.get F.HP_ID_DEVID) ∧ ((mCloseLocked.front SideId.s0).len ≤ 4064) ∧ ((mCloseLocked.front SideId.s0).crc = if (mCloseLocked.front SideId.s0).len = 0 then 0 else crc32 (mCloseLocked.front SideId.s0).payload) ∧ ((mCloseLocked.front SideId.s0).sel = SideId.s0.num ∧ mCloseLocked.frontTag SideId.s0 % 4 ≠ 1 ∨ (mCloseLocked.front SideId.s0).sel = 2 ∧ mCloseLocked.frontTag SideId.s0 % 4 ≠ 0 ∨ (mCloseLocked.front SideId.s0).sel = 3) ∧ (1 ≤ (mCloseLocked.front SideId.s0).op) ∧ ((mCloseLocked.front SideId.s0).op ≤ opcodes (mCloseLocked.front SideId.s0).cls) ∧ ((mCloseLocked.front SideId.s0).sel = 3 ∧ hostOpcode (mCloseLocked.front SideId.s0).cls (mCloseLocked.front SideId.s0).op = true ∨ (mCloseLocked.front SideId.s0).sel ≠ 3 ∧ ¬((mCloseLocked.front SideId.s0).cls = 12 ∧ 3 ≤ (mCloseLocked.front SideId.s0).op)) ∧ ((mCloseLocked.front SideId.s0).cls = 1) ∧ ((mCloseLocked.front SideId.s0).op = 4) ∧ ((mCloseLocked.side SideId.s0).fuses.lc = 3) ∧ (¬((mCloseLocked.front SideId.s0).cls = 1 ∧ (mCloseLocked.front SideId.s0).op ≤ 2 ∨ (mCloseLocked.front SideId.s0).cls = 16))) ∧
    ((messageCode (Instr.sysSessionClose .s0) = some (SideId.s0, 1, 4)) ∧ (mCloseStranger.ringFront SideId.s0 ≠ none) ∧ ((mCloseStranger.side SideId.s0).serves = true) ∧ ((mCloseStranger.front SideId.s0).version = 2) ∧ ((mCloseStranger.front SideId.s0).devid % 64 = mCloseStranger.host.get F.HP_ID_DEVID) ∧ ((mCloseStranger.front SideId.s0).len ≤ 4064) ∧ ((mCloseStranger.front SideId.s0).crc = if (mCloseStranger.front SideId.s0).len = 0 then 0 else crc32 (mCloseStranger.front SideId.s0).payload) ∧ ((mCloseStranger.front SideId.s0).sel = SideId.s0.num ∧ mCloseStranger.frontTag SideId.s0 % 4 ≠ 1 ∨ (mCloseStranger.front SideId.s0).sel = 2 ∧ mCloseStranger.frontTag SideId.s0 % 4 ≠ 0 ∨ (mCloseStranger.front SideId.s0).sel = 3) ∧ (1 ≤ (mCloseStranger.front SideId.s0).op) ∧ ((mCloseStranger.front SideId.s0).op ≤ opcodes (mCloseStranger.front SideId.s0).cls) ∧ ((mCloseStranger.front SideId.s0).sel = 3 ∧ hostOpcode (mCloseStranger.front SideId.s0).cls (mCloseStranger.front SideId.s0).op = true ∨ (mCloseStranger.front SideId.s0).sel ≠ 3 ∧ ¬((mCloseStranger.front SideId.s0).cls = 12 ∧ 3 ≤ (mCloseStranger.front SideId.s0).op)) ∧ ((mCloseStranger.front SideId.s0).cls = 1) ∧ ((mCloseStranger.front SideId.s0).op = 4) ∧ ((mCloseStranger.side SideId.s0).fuses.lc = 2) ∧ (¬((mCloseStranger.front SideId.s0).cls = 1 ∧ (mCloseStranger.front SideId.s0).op ≤ 2 ∨ (mCloseStranger.front SideId.s0).cls = 16)) ∧ (¬((mCloseStranger.front SideId.s0).cls = 1 ∧ (mCloseStranger.front SideId.s0).op = 3)) ∧ ((mCloseStranger.side SideId.s0).fw.session ≠ some (mCloseStranger.front SideId.s0).session)) := by refine ⟨?_, ?_, ?_, ?_, ?_, ?_⟩ <;> decide +kernel

theorem witness_ChecksAndSystemMessages_3 :
    ((messageCode (Instr.sysRun .s0) = some (SideId.s0, 1, 5)) ∧ (mRunInSolo.ringFront SideId.s0 ≠ none) ∧ ((mRunInSolo.side SideId.s0).serves = true) ∧ ((mRunInSolo.front SideId.s0).version = 2) ∧ ((mRunInSolo.front SideId.s0).devid % 64 = mRunInSolo.host.get F.HP_ID_DEVID) ∧ ((mRunInSolo.front SideId.s0).len ≤ 4064) ∧ ((mRunInSolo.front SideId.s0).crc = if (mRunInSolo.front SideId.s0).len = 0 then 0 else crc32 (mRunInSolo.front SideId.s0).payload) ∧ ((mRunInSolo.front SideId.s0).sel = SideId.s0.num ∧ mRunInSolo.frontTag SideId.s0 % 4 ≠ 1 ∨ (mRunInSolo.front SideId.s0).sel = 2 ∧ mRunInSolo.frontTag SideId.s0 % 4 ≠ 0 ∨ (mRunInSolo.front SideId.s0).sel = 3) ∧ (1 ≤ (mRunInSolo.front SideId.s0).op) ∧ ((mRunInSolo.front SideId.s0).op ≤ opcodes (mRunInSolo.front SideId.s0).cls) ∧ ((mRunInSolo.front SideId.s0).sel = 3 ∧ hostOpcode (mRunInSolo.front SideId.s0).cls (mRunInSolo.front SideId.s0).op = true ∨ (mRunInSolo.front SideId.s0).sel ≠ 3 ∧ ¬((mRunInSolo.front SideId.s0).cls = 12 ∧ 3 ≤ (mRunInSolo.front SideId.s0).op)) ∧ ((mRunInSolo.front SideId.s0).cls = 1) ∧ ((mRunInSolo.front SideId.s0).op = 5) ∧ (((mRunInSolo.front SideId.s0).cls = 1 ∧ (mRunInSolo.front SideId.s0).op ≤ 2 ∨ (mRunInSolo.front SideId.s0).cls = 16) ∨ (mRunInSolo.side SideId.s0).fuses.lc ≤ 1 ∨ (mRunInSolo.side SideId.s0).fuses.lc = 2 ∧ ((mRunInSolo.front SideId.s0).cls = 1 ∧ (mRunInSolo.front SideId.s0).op = 3 ∨ (mRunInSolo.side SideId.s0).fw.session = some (mRunInSolo.front SideId.s0).session)) ∧ ((mRunInSolo.side SideId.s0).takesClass (mRunInSolo.front SideId.s0).cls = false ∨ (mRunInSolo.side SideId.s0).takesOpcode (mRunInSolo.front SideId.s0).cls (mRunInSolo.front SideId.s0).op = false)) ∧
    ((messageCode (Instr.sysSessionClose .s0) = some (SideId.s0, 1, 4)) ∧ (mCloseLead.ringFront SideId.s0 ≠ none) ∧ ((mCloseLead.side SideId.s0).serves = true) ∧ ((mCloseLead.front SideId.s0).version = 2) ∧ ((mCloseLead.front SideId.s0).devid % 64 = mCloseLead.host.get F.HP_ID_DEVID) ∧ ((mCloseLead.front SideId.s0).len ≤ 4064) ∧ ((mCloseLead.front SideId.s0).crc = if (mCloseLead.front SideId.s0).len = 0 then 0 else crc32 (mCloseLead.front SideId.s0).payload) ∧ ((mCloseLead.front SideId.s0).sel = SideId.s0.num ∧ mCloseLead.frontTag SideId.s0 % 4 ≠ 1 ∨ (mCloseLead.front SideId.s0).sel = 2 ∧ mCloseLead.frontTag SideId.s0 % 4 ≠ 0 ∨ (mCloseLead.front SideId.s0).sel = 3) ∧ (1 ≤ (mCloseLead.front SideId.s0).op) ∧ ((mCloseLead.front SideId.s0).op ≤ opcodes (mCloseLead.front SideId.s0).cls) ∧ ((mCloseLead.front SideId.s0).sel = 3 ∧ hostOpcode (mCloseLead.front SideId.s0).cls (mCloseLead.front SideId.s0).op = true ∨ (mCloseLead.front SideId.s0).sel ≠ 3 ∧ ¬((mCloseLead.front SideId.s0).cls = 12 ∧ 3 ≤ (mCloseLead.front SideId.s0).op)) ∧ ((mCloseLead.front SideId.s0).cls = 1) ∧ ((mCloseLead.front SideId.s0).op = 4) ∧ (((mCloseLead.front SideId.s0).cls = 1 ∧ (mCloseLead.front SideId.s0).op ≤ 2 ∨ (mCloseLead.front SideId.s0).cls = 16) ∨ (mCloseLead.side SideId.s0).fuses.lc ≤ 1 ∨ (mCloseLead.side SideId.s0).fuses.lc = 2 ∧ ((mCloseLead.front SideId.s0).cls = 1 ∧ (mCloseLead.front SideId.s0).op = 3 ∨ (mCloseLead.side SideId.s0).fw.session = some (mCloseLead.front SideId.s0).session)) ∧ ((mCloseLead.side SideId.s0).takesClass (mCloseLead.front SideId.s0).cls = true) ∧ ((mCloseLead.side SideId.s0).takesOpcode (mCloseLead.front SideId.s0).cls (mCloseLead.front SideId.s0).op = true) ∧ ((mCloseLead.side SideId.s0).twinOnly (mCloseLead.front SideId.s0) = true)) ∧
    ((messageCode (Instr.sysSessionClose .s0) = some (SideId.s0, 1, 4)) ∧ (mCloseLong.ringFront SideId.s0 ≠ none) ∧ ((mCloseLong.side SideId.s0).serves = true) ∧ ((mCloseLong.front SideId.s0).version = 2) ∧ ((mCloseLong.front SideId.s0).devid % 64 = mCloseLong.host.get F.HP_ID_DEVID) ∧ ((mCloseLong.front SideId.s0).len ≤ 4064) ∧ ((mCloseLong.front SideId.s0).crc = if (mCloseLong.front SideId.s0).len = 0 then 0 else crc32 (mCloseLong.front SideId.s0).payload) ∧ ((mCloseLong.front SideId.s0).sel = SideId.s0.num ∧ mCloseLong.frontTag SideId.s0 % 4 ≠ 1 ∨ (mCloseLong.front SideId.s0).sel = 2 ∧ mCloseLong.frontTag SideId.s0 % 4 ≠ 0 ∨ (mCloseLong.front SideId.s0).sel = 3) ∧ (1 ≤ (mCloseLong.front SideId.s0).op) ∧ ((mCloseLong.front SideId.s0).op ≤ opcodes (mCloseLong.front SideId.s0).cls) ∧ ((mCloseLong.front SideId.s0).sel = 3 ∧ hostOpcode (mCloseLong.front SideId.s0).cls (mCloseLong.front SideId.s0).op = true ∨ (mCloseLong.front SideId.s0).sel ≠ 3 ∧ ¬((mCloseLong.front SideId.s0).cls = 12 ∧ 3 ≤ (mCloseLong.front SideId.s0).op)) ∧ ((mCloseLong.front SideId.s0).cls = 1) ∧ ((mCloseLong.front SideId.s0).op = 4) ∧ (((mCloseLong.front SideId.s0).cls = 1 ∧ (mCloseLong.front SideId.s0).op ≤ 2 ∨ (mCloseLong.front SideId.s0).cls = 16) ∨ (mCloseLong.side SideId.s0).fuses.lc ≤ 1 ∨ (mCloseLong.side SideId.s0).fuses.lc = 2 ∧ ((mCloseLong.front SideId.s0).cls = 1 ∧ (mCloseLong.front SideId.s0).op = 3 ∨ (mCloseLong.side SideId.s0).fw.session = some (mCloseLong.front SideId.s0).session)) ∧ ((mCloseLong.side SideId.s0).takesClass (mCloseLong.front SideId.s0).cls = true) ∧ ((mCloseLong.side SideId.s0).takesOpcode (mCloseLong.front SideId.s0).cls (mCloseLong.front SideId.s0).op = true) ∧ ((mCloseLong.side SideId.s0).twinOnly (mCloseLong.front SideId.s0) = false) ∧ ((mCloseLong.front SideId.s0).lenOk = false)) ∧
    ((messageCode (Instr.sysNop .s0) = some (SideId.s0, 1, 1)) ∧ (([] : List Byte).length ≤ 4064)) ∧
    ((mNop.Takes SideId.s0 1 1)) ∧
    (((mInfo.Takes SideId.s0 1 2)) ∧ ((mInfo.side SideId.s0).fw.pattern = some wPattern)) :=
  ⟨by decide +kernel,
    by decide +kernel,
    by decide +kernel,
    by decide +kernel,
    by unfold State.Takes; decide +kernel,
    ⟨by unfold State.Takes; decide +kernel, by rfl⟩⟩

theorem witness_ChecksAndSystemMessages_4 :
    ((mOpen.Takes SideId.s0 1 3)) ∧
    ((mClose.Takes SideId.s0 1 4)) ∧
    ((mRun.Takes SideId.s0 1 5) ∧ ((mRun.side SideId.s0).unitBanksOn = true) ∧ ((mRun.side SideId.s0).row + 4 ≤ (mRun.front SideId.s0).u 0 8)) ∧
    ((mRunLate.Takes SideId.s0 1 5) ∧ ((mRunLate.side SideId.s0).unitBanksOn = true) ∧ ((mRunLate.front SideId.s0).u 0 8 < (mRunLate.side SideId.s0).row + 4)) ∧
    ((mBindOff.Takes SideId.s0 1 6) ∧ ((mBindOff.side SideId.s0).row + 4 ≤ (mBindOff.front SideId.s0).u 0 8)) ∧
    ((mBindOffLate.Takes SideId.s0 1 6) ∧ ((mBindOffLate.front SideId.s0).u 0 8 < (mBindOffLate.side SideId.s0).row + 4)) := by refine ⟨?_, ?_, ?_, ?_, ?_, ?_⟩ <;> (unfold State.Takes; decide +kernel)

theorem witness_ChecksAndSystemMessages_5 :
    ((mResetSide0.Takes SideId.s0 1 7) ∧ ((mResetSide0.front SideId.s0).u 0 1 = (0 : Fin 2).val)) ∧
    ((mEvtAck.Takes SideId.s0 17 1) ∧ (recordFlags ((mEvtAck.front SideId.s0).u 0 2) ((mEvtAck.front SideId.s0).u 2 2) = some [F.XA_SAT_FIRST_VALID, F.XA_SAT_FIRST_MULTI]) ∧ ((mEvtAck.side SideId.s0).flag ([F.XA_SAT_FIRST_VALID, F.XA_SAT_FIRST_MULTI].headD F.PW_MODE_PREV) = true)) ∧
    ((mEvtAckIdle.Takes SideId.s0 17 1) ∧ (recordFlags ((mEvtAckIdle.front SideId.s0).u 0 2) ((mEvtAckIdle.front SideId.s0).u 2 2) = some [F.XA_SAT_FIRST_VALID, F.XA_SAT_FIRST_MULTI]) ∧ ((mEvtAckIdle.side SideId.s0).flag ([F.XA_SAT_FIRST_VALID, F.XA_SAT_FIRST_MULTI].headD F.PW_MODE_PREV) = false)) ∧
    ((mEvtAckNone.Takes SideId.s0 17 1) ∧ (recordFlags ((mEvtAckNone.front SideId.s0).u 0 2) ((mEvtAckNone.front SideId.s0).u 2 2) = none)) ∧
    ((mEvtAttn.Takes SideId.s0 17 2) ∧ (1 ≤ (mEvtAttn.front SideId.s0).u 0 2) ∧ ((mEvtAttn.front SideId.s0).u 0 2 ≤ 28) ∧ ((mEvtAttn.front SideId.s0).u 2 1 < 32 ∨ (mEvtAttn.front SideId.s0).u 2 1 = 255)) ∧
    ((mEvtLost.Takes SideId.s0 17 3)) := by refine ⟨?_, ?_, ?_, ?_, ?_, ?_⟩ <;> (unfold State.Takes; decide +kernel)

theorem witness_ImageMessages_1 :
    ((mPatBeginBad.Takes SideId.s0 2 1) ∧ (1 < (mPatBeginBad.front SideId.s0).u 0 1 ∨ 1 < (mPatBeginBad.front SideId.s0).u 1 1 ∨ (mPatBeginBad.front SideId.s0).u 4 4 = 0)) ∧
    ((mPatBegin.Takes SideId.s0 2 1) ∧ ((mPatBegin.front SideId.s0).u 0 1 ≤ 1) ∧ ((mPatBegin.front SideId.s0).u 1 1 ≤ 1) ∧ ((mPatBegin.front SideId.s0).u 4 4 ≠ 0) ∧ ((mPatBegin.side SideId.s0).mode ≠ Mode.ready)) ∧
    ((mPatBeginReady.Takes SideId.s0 2 1) ∧ ((mPatBeginReady.front SideId.s0).u 0 1 ≤ 1) ∧ ((mPatBeginReady.front SideId.s0).u 1 1 ≤ 1) ∧ ((mPatBeginReady.front SideId.s0).u 4 4 ≠ 0) ∧ ((mPatBeginReady.side SideId.s0).mode = Mode.ready)) ∧
    ((mPatDataNone.Takes SideId.s0 2 2) ∧ ((mPatDataNone.side SideId.s0).fw.image = none)) ∧
    (((mPatDataOver.Takes SideId.s0 2 2) ∧ (wImage.len < (mPatDataOver.front SideId.s0).u 0 4 + (List.drop 4 (mPatDataOver.front SideId.s0).payload).length)) ∧ ((mPatDataOver.side SideId.s0).fw.image = some wImage)) ∧
    (((mPatData.Takes SideId.s0 2 2) ∧ ((mPatData.front SideId.s0).u 0 4 + (List.drop 4 (mPatData.front SideId.s0).payload).length ≤ wImage.len)) ∧ ((mPatData.side SideId.s0).fw.image = some wImage)) :=
  ⟨by unfold State.Takes; decide +kernel,
    by unfold State.Takes; decide +kernel,
    by unfold State.Takes; decide +kernel,
    by unfold State.Takes; decide +kernel,
    ⟨by unfold State.Takes; decide +kernel, by rfl⟩,
    ⟨by unfold State.Takes; decide +kernel, by rfl⟩⟩

theorem witness_ImageMessages_2 :
    ((mPatEndNone.Takes SideId.s0 2 3) ∧ ((mPatEndNone.side SideId.s0).fw.image = none)) ∧
    (((mPatEnd.Takes SideId.s0 2 3) ∧ (wImage.kind ≠ 1)) ∧ ((mPatEnd.side SideId.s0).fw.image = some wImage)) ∧
    (((mPatEndFw.Takes SideId.s0 2 3) ∧ ({ wImage with kind := 1, len := 0 }.kind = 1) ∧ ((mPatEndFw.side SideId.s0).firmwareResult { wImage with kind := 1, len := 0 }.bytes ≠ 0)) ∧ ((mPatEndFw.side SideId.s0).fw.image = some { wImage with kind := 1, len := 0 }) ∧ ((mPatEndFw.side SideId.s0).fw.pattern = some wPattern)) ∧
    ((mPatInfoNone.Takes SideId.s0 2 4) ∧ ((mPatInfoNone.side SideId.s0).fw.pattern = none)) ∧
    (((mPatInfo.Takes SideId.s0 2 4) ∧ (wPattern.header.length = 64)) ∧ ((mPatInfo.side SideId.s0).fw.pattern = some wPattern)) ∧
    (((mPatLatencyBad.Takes SideId.s0 2 5) ∧ ((mPatLatencyBad.front SideId.s0).u 0 2 % 1024 ≠ 0 ∨ 16384 ≤ (mPatLatencyBad.front SideId.s0).u 0 2)) ∧ ((mPatLatencyBad.side SideId.s0).fw.pattern = some wPattern)) :=
  ⟨by unfold State.Takes; decide +kernel,
    ⟨by unfold State.Takes; decide +kernel, by rfl⟩,
    ⟨by unfold State.Takes; decide +kernel, by rfl, by rfl⟩,
    by unfold State.Takes; decide +kernel,
    ⟨by unfold State.Takes; decide +kernel, by rfl⟩,
    ⟨by unfold State.Takes; decide +kernel, by rfl⟩⟩

theorem witness_ImageMessages_3 :
    (((mPatLatency.Takes SideId.s0 2 5) ∧ ((mPatLatency.front SideId.s0).u 0 2 % 1024 = 0) ∧ ((mPatLatency.front SideId.s0).u 0 2 < 16384)) ∧ ((mPatLatency.side SideId.s0).fw.pattern = some wPattern) ∧ (wPattern.latency.length = 8 + 65536)) :=
  ⟨by unfold State.Takes; decide +kernel, by rfl, by exact List.length_replicate⟩

theorem witness_ShadowMessages_1 :
    ((mObjNone.Takes SideId.s0 3 1) ∧ (mObjNone.compile SideId.s0 (mObjNone.front SideId.s0) = some (Compiled.refused 12 0))) ∧
    ((mObjGainTb.Takes SideId.s0 3 1) ∧ (mObjGainTb.compile SideId.s0 (mObjGainTb.front SideId.s0) = some (Compiled.words [(0x07800000, 5)])) ∧ ((mObjGainTb.front SideId.s0).u 0 4 ≠ 0) ∧ (∀ (w : Nat × Nat), w ∈ [(0x07800000, 5)] → unitOf w.fst ≠ none) ∧ ([(0x07800000, 5)] ≠ []) ∧ (∀ (t : Take), t ∈ (mObjGainTb.side SideId.s0).takeList → t.num ≠ (mObjGainTb.front SideId.s0).u 0 4)) ∧
    ((mObjGainWaits.Takes SideId.s0 3 1) ∧ (mObjGainWaits.compile SideId.s0 (mObjGainWaits.front SideId.s0) = some (Compiled.words [(0x07800000, 5)])) ∧ (∀ (w : Nat × Nat), w ∈ [(0x07800000, 5)] → unitOf w.fst = some 32) ∧ ((mObjGainWaits.front SideId.s0).u 0 4 = 0) ∧ (List.map Take.num (List.filter (fun t => t.mask.testBit 32 && decide (t.state ≠ 4)) (List.filterMap id (mObjGainWaits.side SideId.s0).takes.queue.toList)) ≠ [])) ∧
    ((mStageBad.Takes SideId.s0 4 1) ∧ (mStageBad.compile SideId.s0 (mStageBad.front SideId.s0) = some (Compiled.refused 13 0))) ∧
    ((mStageTb.Takes SideId.s0 4 1) ∧ (mStageTb.compile SideId.s0 (mStageTb.front SideId.s0) = some (Compiled.words [(0x07800000, 7)])) ∧ ((mStageTb.front SideId.s0).u 0 4 ≠ 0) ∧ (∀ (w : Nat × Nat), w ∈ [(0x07800000, 7)] → unitOf w.fst ≠ none) ∧ ([(0x07800000, 7)] ≠ []) ∧ (∀ (t : Take), t ∈ (mStageTb.side SideId.s0).takeList → t.num ≠ (mStageTb.front SideId.s0).u 0 4)) ∧
    ((mStageWaits.Takes SideId.s0 4 1) ∧ (mStageWaits.compile SideId.s0 (mStageWaits.front SideId.s0) = some (Compiled.words [(0x07800000, 7)])) ∧ (∀ (w : Nat × Nat), w ∈ [(0x07800000, 7)] → unitOf w.fst = some 32) ∧ ((mStageWaits.front SideId.s0).u 0 4 = 0) ∧ (List.map Take.num (List.filter (fun t => t.mask.testBit 32 && decide (t.state ≠ 4)) (List.filterMap id (mStageWaits.side SideId.s0).takes.queue.toList)) ≠ [])) := by refine ⟨?_, ?_, ?_, ?_, ?_, ?_⟩ <;> (unfold State.Takes; decide +kernel)

theorem witness_ShadowMessages_2 :
    ((mStageRowBad.Takes SideId.s0 4 2) ∧ (mStageRowBad.compile SideId.s0 (mStageRowBad.front SideId.s0) = some (Compiled.refused 13 0))) ∧
    ((mStageRowTb.Takes SideId.s0 4 2) ∧ (mStageRowTb.compile SideId.s0 (mStageRowTb.front SideId.s0) = some (Compiled.words [(0x07800000, 5)])) ∧ ((mStageRowTb.front SideId.s0).u 0 4 ≠ 0) ∧ (∀ (w : Nat × Nat), w ∈ [(0x07800000, 5)] → unitOf w.fst ≠ none) ∧ ([(0x07800000, 5)] ≠ []) ∧ (∀ (t : Take), t ∈ (mStageRowTb.side SideId.s0).takeList → t.num ≠ (mStageRowTb.front SideId.s0).u 0 4)) ∧
    ((mStageRowWaits.Takes SideId.s0 4 2) ∧ (mStageRowWaits.compile SideId.s0 (mStageRowWaits.front SideId.s0) = some (Compiled.words [(0x07800000, 5)])) ∧ (∀ (w : Nat × Nat), w ∈ [(0x07800000, 5)] → unitOf w.fst = some 32) ∧ ((mStageRowWaits.front SideId.s0).u 0 4 = 0) ∧ (List.map Take.num (List.filter (fun t => t.mask.testBit 32 && decide (t.state ≠ 4)) (List.filterMap id (mStageRowWaits.side SideId.s0).takes.queue.toList)) ≠ [])) ∧
    ((mHalfCfgBad.Takes SideId.s0 10 1) ∧ (mHalfCfgBad.compile SideId.s0 (mHalfCfgBad.front SideId.s0) = some (Compiled.refused 13 0))) ∧
    ((mHalfCfgTb.Takes SideId.s0 10 1) ∧ (mHalfCfgTb.compile SideId.s0 (mHalfCfgTb.front SideId.s0) = some (Compiled.words [(0x0B030100, 0), (0x0B030104, 255)])) ∧ ((mHalfCfgTb.front SideId.s0).u 0 4 ≠ 0) ∧ (∀ (w : Nat × Nat), w ∈ [(0x0B030100, 0), (0x0B030104, 255)] → unitOf w.fst ≠ none) ∧ ([(0x0B030100, 0), (0x0B030104, 255)] ≠ []) ∧ (∀ (t : Take), t ∈ (mHalfCfgTb.side SideId.s0).takeList → t.num ≠ (mHalfCfgTb.front SideId.s0).u 0 4)) ∧
    ((mHalfCfgWaits.Takes SideId.s0 10 1) ∧ (mHalfCfgWaits.compile SideId.s0 (mHalfCfgWaits.front SideId.s0) = some (Compiled.words [(0x0B030100, 0), (0x0B030104, 255)])) ∧ (∀ (w : Nat × Nat), w ∈ [(0x0B030100, 0), (0x0B030104, 255)] → unitOf w.fst = some 34) ∧ ((mHalfCfgWaits.front SideId.s0).u 0 4 = 0) ∧ (List.map Take.num (List.filter (fun t => t.mask.testBit 34 && decide (t.state ≠ 4)) (List.filterMap id (mHalfCfgWaits.side SideId.s0).takes.queue.toList)) ≠ [])) := by refine ⟨?_, ?_, ?_, ?_, ?_, ?_⟩ <;> (unfold State.Takes; decide +kernel)

theorem witness_ShadowMessages_3 :
    ((mFlowTakeBad.Takes SideId.s0 11 3) ∧ (mFlowTakeBad.compile SideId.s0 (mFlowTakeBad.front SideId.s0) = some (Compiled.refused 13 0))) ∧
    ((mFlowTakeTb.Takes SideId.s0 11 3) ∧ (mFlowTakeTb.compile SideId.s0 (mFlowTakeTb.front SideId.s0) = some (Compiled.words [(0x09F94000, 2621440), (0x09F94004, 0), (0x09F94020, 4096), (0x09F94030, 4096), (0x09F94034, 1), (0x09F94038, 0)])) ∧ ((mFlowTakeTb.front SideId.s0).u 0 4 ≠ 0) ∧ (∀ (w : Nat × Nat), w ∈ [(0x09F94000, 2621440), (0x09F94004, 0), (0x09F94020, 4096), (0x09F94030, 4096), (0x09F94034, 1), (0x09F94038, 0)] → unitOf w.fst ≠ none) ∧ ([(0x09F94000, 2621440), (0x09F94004, 0), (0x09F94020, 4096), (0x09F94030, 4096), (0x09F94034, 1), (0x09F94038, 0)] ≠ []) ∧ (∀ (t : Take), t ∈ (mFlowTakeTb.side SideId.s0).takeList → t.num ≠ (mFlowTakeTb.front SideId.s0).u 0 4)) ∧
    ((mFlowTakeWaits.Takes SideId.s0 11 3) ∧ (mFlowTakeWaits.compile SideId.s0 (mFlowTakeWaits.front SideId.s0) = some (Compiled.words [(0x09F94000, 2621440), (0x09F94004, 0), (0x09F94020, 4096), (0x09F94030, 4096), (0x09F94034, 1), (0x09F94038, 0)])) ∧ (∀ (w : Nat × Nat), w ∈ [(0x09F94000, 2621440), (0x09F94004, 0), (0x09F94020, 4096), (0x09F94030, 4096), (0x09F94034, 1), (0x09F94038, 0)] → unitOf w.fst = some 35) ∧ ((mFlowTakeWaits.front SideId.s0).u 0 4 = 0) ∧ (List.map Take.num (List.filter (fun t => t.mask.testBit 35 && decide (t.state ≠ 4)) (List.filterMap id (mFlowTakeWaits.side SideId.s0).takes.queue.toList)) ≠ [])) ∧
    (((mObjNone.front SideId.s0).cls = 3) ∧ ((mObjNone.front SideId.s0).op = 1) ∧ ((mObjNone.front SideId.s0).u 4 4 = 1) ∧ ((mObjNone.front SideId.s0).u 8 8 = 144115188075855871) ∧ ((mObjNone.front SideId.s0).u 16 4 = 5) ∧ (mObjNone.handleOk SideId.s0 (mObjNone.front SideId.s0).sel 144115188075855871 = false)) ∧
    (((mObjGain.front SideId.s0).cls = 3) ∧ ((mObjGain.front SideId.s0).op = 1) ∧ ((mObjGain.front SideId.s0).u 4 4 = 1) ∧ ((mObjGain.front SideId.s0).u 8 8 = 844424930131970) ∧ ((mObjGain.front SideId.s0).u 16 4 = 5) ∧ (mObjGain.handleOk SideId.s0 (mObjGain.front SideId.s0).sel 844424930131970 = true) ∧ (hClass 844424930131970 = 3) ∧ (hAttr 844424930131970 = 2)) ∧
    (((mObjSelect.front SideId.s0).cls = 3) ∧ ((mObjSelect.front SideId.s0).op = 1) ∧ ((mObjSelect.front SideId.s0).u 4 4 = 1) ∧ ((mObjSelect.front SideId.s0).u 8 8 = 1125899906842625) ∧ ((mObjSelect.front SideId.s0).u 16 4 = 32768) ∧ (mObjSelect.handleOk SideId.s0 (mObjSelect.front SideId.s0).sel 1125899906842625 = true) ∧ (hClass 1125899906842625 = 4) ∧ (hAttr 1125899906842625 = 1)) :=
  ⟨by unfold State.Takes; decide +kernel,
    by unfold State.Takes; decide +kernel,
    by unfold State.Takes; decide +kernel,
    by decide +kernel,
    by decide +kernel,
    by decide +kernel⟩

theorem witness_ShadowMessages_4 :
    (((mStage.front SideId.s0).cls = 4) ∧ ((mStage.front SideId.s0).op = 1) ∧ (1 ≤ (mStage.front SideId.s0).u 4 4) ∧ ((mStage.front SideId.s0).u 4 4 ≤ 507) ∧ (∀ (i : Nat), i < (mStage.front SideId.s0).u 4 4 → (mStage.front SideId.s0).u (8 + 8 * i) 4 < 2 ^ 20 ∧ (mStage.front SideId.s0).u (8 + 8 * i) 4 % 1024 < (mStage.side SideId.s0).sums)) ∧
    (((mStageRow.front SideId.s0).cls = 4) ∧ ((mStageRow.front SideId.s0).op = 2) ∧ (1 ≤ (mStageRow.front SideId.s0).u 8 2) ∧ ((mStageRow.front SideId.s0).u 8 2 ≤ 1013) ∧ ((mStageRow.front SideId.s0).u 4 2 < 1024) ∧ ((mStageRow.front SideId.s0).u 6 2 + (mStageRow.front SideId.s0).u 8 2 ≤ (mStageRow.side SideId.s0).sums)) ∧
    ((mStage.Takes SideId.s0 4 1) ∧ ((mStage.front SideId.s0).u 4 4 = 1) ∧ ((mStage.front SideId.s0).u 8 4 = 0) ∧ ((mStage.front SideId.s0).u 12 4 = 7) ∧ (0 < 2 ^ 20) ∧ (0 % 1024 < (mStage.side SideId.s0).sums) ∧ ((mStage.front SideId.s0).u 0 4 = 0) ∧ (List.map Take.num (List.filter (fun t => t.mask.testBit 32 && decide (t.state ≠ 4)) (List.filterMap id (mStage.side SideId.s0).takes.queue.toList)) = []) ∧ ((mStage.side SideId.s0).physWord (125829120 + 4 * 0) = some 142606336) ∧ ((mStage.side SideId.s0).gatedAt (125829120 + 4 * 0) = false) ∧ ((mStage.side SideId.s0).writeResp (125829120 + 4 * 0) false = 0) ∧ ((mStage.side SideId.s0).closingAt (125829120 + 4 * 0) = false) ∧ ((mStage.side SideId.s0).upsets = []) ∧ ((mStage.side SideId.s0).cross.refill = [])) ∧
    ((mHalfCfg.Takes SideId.s0 10 1) ∧ ((mHalfCfg.front SideId.s0).u 4 1 = (0 : Fin 16).val) ∧ ((mHalfCfg.front SideId.s0).u 5 1 = (0 : Fin 2).val) ∧ ((mHalfCfg.front SideId.s0).u 0 4 = 0) ∧ (List.map Take.num (List.filter (fun t => t.mask.testBit 34 && decide (t.state ≠ 4)) (List.filterMap id (mHalfCfg.side SideId.s0).takes.queue.toList)) = []) ∧ ((mHalfCfg.side SideId.s0).gateOpen 37 = true) ∧ ((mHalfCfg.side SideId.s0).clk.closing.testBit 37 = false) ∧ (halfCfgOk ((mHalfCfg.front SideId.s0).u 8 4) ((mHalfCfg.side SideId.s0).timingShadow (0 : Fin 32) % 4096) = true)) ∧
    ((mFlowTakeRx.Takes SideId.s0 11 3) ∧ ((mFlowTakeRx.front SideId.s0).u 4 2 = (0 : Fin 256).val) ∧ ((mFlowTakeRx.front SideId.s0).u 8 1 ≤ 63) ∧ ((mFlowTakeRx.front SideId.s0).u 9 1 ≤ 7) ∧ ((mFlowTakeRx.front SideId.s0).u 10 1 ≤ 7) ∧ ((0 : Fin 256).val < 128 → (mFlowTakeRx.front SideId.s0).u 12 2 ≤ (mFlowTakeRx.side SideId.s0).flowOMax (0 : Fin 256).val)) :=
  ⟨by decide +kernel,
    by decide +kernel,
    by unfold State.Takes; decide +kernel,
    by unfold State.Takes; decide +kernel,
    by unfold State.Takes; decide +kernel⟩

theorem witness_ObjectMessages_1 :
    ((mDescribe.Takes SideId.s0 3 2) ∧ (¬(mDescribe.handleOk SideId.s0 (mDescribe.front SideId.s0).sel ((mDescribe.front SideId.s0).u 0 8) = true ∧ mapped (hClass ((mDescribe.front SideId.s0).u 0 8)) = true ∧ ((mDescribe.side SideId.s0).param (hClass ((mDescribe.front SideId.s0).u 0 8)) (hIndex ((mDescribe.front SideId.s0).u 0 8)) (hAttr ((mDescribe.front SideId.s0).u 0 8) % 65536)).isSome = true))) ∧
    ((mClearHwmBad.Takes SideId.s0 3 3) ∧ (mClearHwmBad.handleOk SideId.s0 (mClearHwmBad.front SideId.s0).sel ((mClearHwmBad.front SideId.s0).u 0 8) = false ∨ hClass ((mClearHwmBad.front SideId.s0).u 0 8) ≠ 11)) ∧
    ((mClearHwm.Takes SideId.s0 3 3) ∧ (mClearHwm.handleOk SideId.s0 (mClearHwm.front SideId.s0).sel ((mClearHwm.front SideId.s0).u 0 8) = true) ∧ (hClass ((mClearHwm.front SideId.s0).u 0 8) = 11)) ∧
    ((mDescNamed.Takes SideId.s0 4 3) ∧ ((mDescNamed.front SideId.s0).u 0 1 = (3 : Fin 8).val) ∧ ((mDescNamed.front SideId.s0).u 1 1 ≤ 3) ∧ (((mDescNamed.side SideId.s0).takeList.any fun t => t.mask.testBit 32 && decide (t.desc = (3 : Fin 8).val ∧ t.state < 3)) = true)) ∧
    ((mDesc.Takes SideId.s0 4 3) ∧ ((mDesc.front SideId.s0).u 0 1 = (3 : Fin 8).val) ∧ ((mDesc.front SideId.s0).u 1 1 ≤ 3) ∧ (((mDesc.side SideId.s0).takeList.any fun t => t.mask.testBit 32 && decide (t.desc = (3 : Fin 8).val ∧ t.state < 3)) = false)) ∧
    ((mReadNone.Takes SideId.s0 16 1) ∧ (mReadNone.handleOk SideId.s0 (mReadNone.front SideId.s0).sel ((mReadNone.front SideId.s0).u 0 8) = false)) := by refine ⟨?_, ?_, ?_, ?_, ?_, ?_⟩ <;> (unfold State.Takes; decide +kernel)

theorem witness_ObjectMessages_2 :
    ((mReadLink.Takes SideId.s0 16 1) ∧ (mReadLink.handleOk SideId.s0 (mReadLink.front SideId.s0).sel ((mReadLink.front SideId.s0).u 0 8) = true) ∧ ((match hClass ((mReadLink.front SideId.s0).u 0 8) with | 6 => if hIndex ((mReadLink.front SideId.s0).u 0 8) < 32 then some (196864 + 64 * hIndex ((mReadLink.front SideId.s0).u 0 8), 16) else none | 9 => if hAttr ((mReadLink.front SideId.s0).u 0 8) = 0 then some (462848 + 32 * hIndex ((mReadLink.front SideId.s0).u 0 8), 8) else none | 10 => some (131328 + 32 * hIndex ((mReadLink.front SideId.s0).u 0 8), 8) | 11 => some (if hAttr ((mReadLink.front SideId.s0).u 0 8) = 0 then (1048576 + 65536 * hIndex ((mReadLink.front SideId.s0).u 0 8), 32) else (1048576 + 65536 * hIndex ((mReadLink.front SideId.s0).u 0 8) + 256 * hAttr ((mReadLink.front SideId.s0).u 0 8), 64)) | 12 => some (786688 + 16 * hIndex ((mReadLink.front SideId.s0).u 0 8), 4) | 13 => some (721152 + 64 * hIndex ((mReadLink.front SideId.s0).u 0 8), 16) | 16 => some (4 * hIndex ((mReadLink.front SideId.s0).u 0 8), 1) | x => none) = some (131328, 8)) ∧ (∀ (k : Nat), k < 8 → (mReadLink.side SideId.s0).gatedAt (184549376 + 131328 + 4 * k) = false ∧ (mReadLink.side SideId.s0).closingAt (184549376 + 131328 + 4 * k) = false)) ∧
    ((mReadMeter.Takes SideId.s0 16 1) ∧ (mReadMeter.handleOk SideId.s0 (mReadMeter.front SideId.s0).sel ((mReadMeter.front SideId.s0).u 0 8) = true) ∧ ((match hClass ((mReadMeter.front SideId.s0).u 0 8) with | 5 => some (if hAttr ((mReadMeter.front SideId.s0).u 0 8) = 0 then 168230912 + 32 * hIndex ((mReadMeter.front SideId.s0).u 0 8) else 168099840 + 32 * hIndex ((mReadMeter.front SideId.s0).u 0 8), 8) | 7 => some (if hAttr ((mReadMeter.front SideId.s0).u 0 8) = 0 then 167247872 + 128 * hIndex ((mReadMeter.front SideId.s0).u 0 8) else 167313408 + 128 * hIndex ((mReadMeter.front SideId.s0).u 0 8), 24) | 9 => if hAttr ((mReadMeter.front SideId.s0).u 0 8) = 65536 then some (150994944 + 65536 * hIndex ((mReadMeter.front SideId.s0).u 0 8), 64) else none | x => none) = some (168230912, 8)) ∧ ((mReadMeter.side SideId.s0).upsets = []) ∧ (∀ (k : Nat), k < 8 → (mReadMeter.side SideId.s0).gatedAt (168230912 + 4 * k) = false ∧ (mReadMeter.side SideId.s0).closingAt (168230912 + 4 * k) = false ∧ (mReadMeter.side SideId.s0).bankLives (168230912 + 4 * k) = true)) ∧
    ((mReadSkein.Takes SideId.s0 16 1) ∧ (mReadSkein.handleOk SideId.s0 (mReadSkein.front SideId.s0).sel ((mReadSkein.front SideId.s0).u 0 8) = true) ∧ (hClass ((mReadSkein.front SideId.s0).u 0 8) = 8)) ∧
    ((mReadGpio.Takes SideId.s0 16 1) ∧ (mReadGpio.handleOk SideId.s0 (mReadGpio.front SideId.s0).sel ((mReadGpio.front SideId.s0).u 0 8) = true) ∧ (hClass ((mReadGpio.front SideId.s0).u 0 8) = 15)) ∧
    ((mRangeBad.Takes SideId.s0 16 2) ∧ ((mRangeBad.front SideId.s0).u 4 4 < 4 ∨ 65536 < (mRangeBad.front SideId.s0).u 4 4 ∨ (mRangeBad.front SideId.s0).u 4 4 % 4 ≠ 0 ∨ (mRangeBad.front SideId.s0).u 0 4 % 4 ≠ 0)) ∧
    ((mRange.Takes SideId.s0 16 2) ∧ (4 ≤ (mRange.front SideId.s0).u 4 4) ∧ ((mRange.front SideId.s0).u 4 4 ≤ 65536) ∧ ((mRange.front SideId.s0).u 4 4 % 4 = 0) ∧ ((mRange.front SideId.s0).u 0 4 % 4 = 0) ∧ ((mRange.front SideId.s0).sel ≠ 3) ∧ ((mRange.side SideId.s0).PlainBytes ((mRange.front SideId.s0).u 0 4) ((mRange.front SideId.s0).u 4 4))) :=
  ⟨by unfold State.Takes; decide +kernel,
    by unfold State.Takes; decide +kernel,
    by unfold State.Takes; decide +kernel,
    by unfold State.Takes; decide +kernel,
    by unfold State.Takes; decide +kernel,
    by unfold State.Takes Side.PlainBytes; decide +kernel⟩

theorem witness_ObjectMessages_3 :
    ((mRangeHost.Takes SideId.s0 16 2) ∧ (4 ≤ (mRangeHost.front SideId.s0).u 4 4) ∧ ((mRangeHost.front SideId.s0).u 4 4 ≤ 65536) ∧ ((mRangeHost.front SideId.s0).u 4 4 % 4 = 0) ∧ ((mRangeHost.front SideId.s0).u 0 4 % 4 = 0) ∧ ((mRangeHost.front SideId.s0).sel = 3) ∧ ((mRangeHost.front SideId.s0).u 0 4 + (mRangeHost.front SideId.s0).u 4 4 ≤ 131072 ∨ 262144 ≤ (mRangeHost.front SideId.s0).u 0 4 ∧ (mRangeHost.front SideId.s0).u 0 4 + (mRangeHost.front SideId.s0).u 4 4 ≤ 1048576)) ∧
    ((mListBad.Takes SideId.s0 16 3) ∧ ((mListBad.front SideId.s0).u 0 2 = 0 ∨ 16 < (mListBad.front SideId.s0).u 0 2)) ∧
    ((mList.Takes SideId.s0 16 3) ∧ (1 ≤ (mList.front SideId.s0).u 0 2) ∧ ((mList.front SideId.s0).u 0 2 ≤ 16)) := by refine ⟨?_, ?_, ?_⟩ <;> (unfold State.Takes; decide +kernel)

theorem witness_TakeMessages_1 :
    ((mPostBad.Takes SideId.s0 5 1) ∧ (¬((mPostBad.side SideId.s0).maskOk ((mPostBad.front SideId.s0).u 8 8) = true ∧ (((mPostBad.front SideId.s0).u 8 8).testBit 32 = true → (mPostBad.front SideId.s0).u 16 1 ≤ 7)))) ∧
    ((mPostFull.Takes SideId.s0 5 1) ∧ ((mPostFull.side SideId.s0).maskOk ((mPostFull.front SideId.s0).u 8 8) = true ∧ (((mPostFull.front SideId.s0).u 8 8).testBit 32 = true → (mPostFull.front SideId.s0).u 16 1 ≤ 7)) ∧ ((mPostFull.front SideId.s0).u 0 8 = 0) ∧ ((mPostFull.side SideId.s0).awaitsLead = false ∨ ∀ (e : Nat × Nat), e ∈ (mPostFull.side SideId.s0).takes.kept → e.fst ≠ (mPostFull.side SideId.s0).get F.TK_NEXT_NUM) ∧ ((mPostFull.side SideId.s0).freeEntry = none)) ∧
    ((mPostKeptLate.Takes SideId.s0 5 1) ∧ ((mPostKeptLate.side SideId.s0).maskOk ((mPostKeptLate.front SideId.s0).u 8 8) = true ∧ (((mPostKeptLate.front SideId.s0).u 8 8).testBit 32 = true → (mPostKeptLate.front SideId.s0).u 16 1 ≤ 7)) ∧ ((mPostKeptLate.front SideId.s0).u 0 8 = 0) ∧ ((mPostKeptLate.side SideId.s0).awaitsLead = true) ∧ (List.find? (fun e => decide (e.fst = (mPostKeptLate.side SideId.s0).get F.TK_NEXT_NUM)) (mPostKeptLate.side SideId.s0).takes.kept = some (1, 2)) ∧ ((1, 2).snd < (mPostKeptLate.side SideId.s0).row + 3) ∧ ((mPostKeptLate.side SideId.s0).flag F.TK_STAT_FAIL = true) ∧ ((mPostKeptLate.front SideId.s0).u 8 8 ≠ 0)) ∧
    ((mPostKept.Takes SideId.s0 5 1) ∧ ((mPostKept.side SideId.s0).maskOk ((mPostKept.front SideId.s0).u 8 8) = true ∧ (((mPostKept.front SideId.s0).u 8 8).testBit 32 = true → (mPostKept.front SideId.s0).u 16 1 ≤ 7)) ∧ ((mPostKept.front SideId.s0).u 0 8 = 0) ∧ ((mPostKept.side SideId.s0).awaitsLead = true) ∧ (List.find? (fun e => decide (e.fst = (mPostKept.side SideId.s0).get F.TK_NEXT_NUM)) (mPostKept.side SideId.s0).takes.kept = some (1, 9)) ∧ ((mPostKept.side SideId.s0).freeEntry = some (0 : Fin 8)) ∧ ((mPostKept.side SideId.s0).row + 3 ≤ (1, 9).snd) ∧ (((mPostKept.front SideId.s0).u 8 8).testBit 32 = false ∨ (mPostKept.side SideId.s0).crossAt (1, 9).snd = false)) ∧
    ((mPostFloat.Takes SideId.s0 5 1) ∧ ((mPostFloat.side SideId.s0).maskOk ((mPostFloat.front SideId.s0).u 8 8) = true ∧ (((mPostFloat.front SideId.s0).u 8 8).testBit 32 = true → (mPostFloat.front SideId.s0).u 16 1 ≤ 7)) ∧ ((mPostFloat.front SideId.s0).u 0 8 = 0) ∧ ((mPostFloat.side SideId.s0).freeEntry = some (0 : Fin 8)) ∧ ((mPostFloat.side SideId.s0).awaitsLead = false)) ∧
    ((mPostFollow.Takes SideId.s0 5 1) ∧ ((mPostFollow.side SideId.s0).maskOk ((mPostFollow.front SideId.s0).u 8 8) = true ∧ (((mPostFollow.front SideId.s0).u 8 8).testBit 32 = true → (mPostFollow.front SideId.s0).u 16 1 ≤ 7)) ∧ ((mPostFollow.front SideId.s0).u 0 8 = 0) ∧ ((mPostFollow.side SideId.s0).freeEntry = some (0 : Fin 8)) ∧ ((mPostFollow.side SideId.s0).awaitsLead = true) ∧ (∀ (e : Nat × Nat), e ∈ (mPostFollow.side SideId.s0).takes.kept → e.fst ≠ (mPostFollow.side SideId.s0).get F.TK_NEXT_NUM)) := by refine ⟨?_, ?_, ?_, ?_, ?_, ?_⟩ <;> (unfold State.Takes; decide +kernel)

theorem witness_TakeMessages_2 :
    ((mPostLate.Takes SideId.s0 5 1) ∧ ((mPostLate.side SideId.s0).maskOk ((mPostLate.front SideId.s0).u 8 8) = true ∧ (((mPostLate.front SideId.s0).u 8 8).testBit 32 = true → (mPostLate.front SideId.s0).u 16 1 ≤ 7)) ∧ ((mPostLate.front SideId.s0).u 0 8 ≠ 0) ∧ ((mPostLate.front SideId.s0).u 0 8 < (mPostLate.side SideId.s0).row + 3)) ∧
    ((mPostRowFull.Takes SideId.s0 5 1) ∧ ((mPostRowFull.side SideId.s0).maskOk ((mPostRowFull.front SideId.s0).u 8 8) = true ∧ (((mPostRowFull.front SideId.s0).u 8 8).testBit 32 = true → (mPostRowFull.front SideId.s0).u 16 1 ≤ 7)) ∧ ((mPostRowFull.front SideId.s0).u 0 8 ≠ 0) ∧ ((mPostRowFull.side SideId.s0).row + 3 ≤ (mPostRowFull.front SideId.s0).u 0 8) ∧ ((mPostRowFull.side SideId.s0).freeEntry = none)) ∧
    ((mPostCrossTaken.Takes SideId.s0 5 1) ∧ ((mPostCrossTaken.side SideId.s0).maskOk ((mPostCrossTaken.front SideId.s0).u 8 8) = true ∧ (((mPostCrossTaken.front SideId.s0).u 8 8).testBit 32 = true → (mPostCrossTaken.front SideId.s0).u 16 1 ≤ 7)) ∧ ((mPostCrossTaken.front SideId.s0).u 0 8 ≠ 0) ∧ ((mPostCrossTaken.side SideId.s0).row + 3 ≤ (mPostCrossTaken.front SideId.s0).u 0 8) ∧ ((mPostCrossTaken.side SideId.s0).freeEntry = some (1 : Fin 8)) ∧ (((mPostCrossTaken.front SideId.s0).u 8 8).testBit 32 = true) ∧ ((mPostCrossTaken.side SideId.s0).crossAt ((mPostCrossTaken.front SideId.s0).u 0 8) = true)) ∧
    ((mPostRow.Takes SideId.s0 5 1) ∧ ((mPostRow.side SideId.s0).maskOk ((mPostRow.front SideId.s0).u 8 8) = true ∧ (((mPostRow.front SideId.s0).u 8 8).testBit 32 = true → (mPostRow.front SideId.s0).u 16 1 ≤ 7)) ∧ ((mPostRow.front SideId.s0).u 0 8 ≠ 0) ∧ ((mPostRow.side SideId.s0).row + 3 ≤ (mPostRow.front SideId.s0).u 0 8) ∧ ((mPostRow.side SideId.s0).freeEntry = some (0 : Fin 8)) ∧ (((mPostRow.front SideId.s0).u 8 8).testBit 32 = false ∨ (mPostRow.side SideId.s0).crossAt ((mPostRow.front SideId.s0).u 0 8) = false)) ∧
    ((mCancelNone.Takes SideId.s0 5 2) ∧ ((mCancelNone.side SideId.s0).entryOf ((mCancelNone.front SideId.s0).u 0 4) = none)) ∧
    ((mCancelDone.Takes SideId.s0 5 2) ∧ ((mCancelDone.side SideId.s0).entryOf ((mCancelDone.front SideId.s0).u 0 4) = some (0 : Fin 8)) ∧ ((mCancelDone.side SideId.s0).takes.queue[(0 : Fin 8)] = some { wTake 5 (some 50) with state := 2 }) ∧ ({ wTake 5 (some 50) with state := 2 }.state ≠ 1)) := by refine ⟨?_, ?_, ?_, ?_, ?_, ?_⟩ <;> (unfold State.Takes; decide +kernel)

theorem witness_TakeMessages_3 :
    ((mCancel.Takes SideId.s0 5 2) ∧ ((mCancel.side SideId.s0).entryOf ((mCancel.front SideId.s0).u 0 4) = some (0 : Fin 8)) ∧ ((mCancel.side SideId.s0).takes.queue[(0 : Fin 8)] = some (wTake 5 (some 50))) ∧ ((wTake 5 (some 50)).state = 1) ∧ ((mCancel.side SideId.s0).fw.held = []) ∧ ((mCancel.side SideId.s0).takes.slips = [])) := by unfold State.Takes; decide +kernel

theorem witness_CueMessages_1 :
    ((mMargin.Takes SideId.s0 6 9)) ∧
    (((mBeginBusy.front SideId.s0).u 0 1 = (3 : Fin 128).val) ∧ (mBeginBusy.Takes SideId.s0 6 1) ∧ ((mBeginBusy.side SideId.s0).get (F.TK_CUE_STATE (3 : Fin 128).val) = 2 ∨ (mBeginBusy.side SideId.s0).get (F.TK_CUE_STATE (3 : Fin 128).val) = 3)) ∧
    (((mAddBusy.front SideId.s0).u 0 1 = (3 : Fin 128).val) ∧ (mAddBusy.Takes SideId.s0 6 2) ∧ ((mAddBusy.side SideId.s0).get (F.TK_CUE_STATE (3 : Fin 128).val) = 2 ∨ (mAddBusy.side SideId.s0).get (F.TK_CUE_STATE (3 : Fin 128).val) = 3)) ∧
    (((mEndBusy.front SideId.s0).u 0 1 = (3 : Fin 128).val) ∧ (mEndBusy.Takes SideId.s0 6 3) ∧ ((mEndBusy.side SideId.s0).get (F.TK_CUE_STATE (3 : Fin 128).val) = 2 ∨ (mEndBusy.side SideId.s0).get (F.TK_CUE_STATE (3 : Fin 128).val) = 3)) ∧
    (((mArmBusy.front SideId.s0).u 0 1 = (3 : Fin 128).val) ∧ (mArmBusy.Takes SideId.s0 6 4) ∧ ((mArmBusy.side SideId.s0).get (F.TK_CUE_STATE (3 : Fin 128).val) = 2 ∨ (mArmBusy.side SideId.s0).get (F.TK_CUE_STATE (3 : Fin 128).val) = 3)) ∧
    (((mClear2.front SideId.s0).u 0 1 = (3 : Fin 128).val) ∧ (mClear2.Takes SideId.s0 6 8) ∧ ((mClear2.side SideId.s0).get (F.TK_CUE_STATE (3 : Fin 128).val) = 2 ∨ (mClear2.side SideId.s0).get (F.TK_CUE_STATE (3 : Fin 128).val) = 3)) := by refine ⟨?_, ?_, ?_, ?_, ?_, ?_⟩ <;> (unfold State.Takes; decide +kernel)

theorem witness_CueMessages_2 :
    (((mBeginTrig.front SideId.s0).u 0 1 = (3 : Fin 128).val) ∧ (mBeginTrig.Takes SideId.s0 6 1) ∧ ((mBeginTrig.side SideId.s0).get (F.TK_CUE_STATE (3 : Fin 128).val) ≠ 2) ∧ ((mBeginTrig.side SideId.s0).get (F.TK_CUE_STATE (3 : Fin 128).val) ≠ 3) ∧ (3 < (mBeginTrig.front SideId.s0).u 4 4 / 8 % 8 ∨ 4 < (mBeginTrig.front SideId.s0).u 16 4 / 2 ^ 18 % 8)) ∧
    (((mBeginBuffer.front SideId.s0).u 0 1 = (3 : Fin 128).val) ∧ (mBeginBuffer.Takes SideId.s0 6 1) ∧ ((mBeginBuffer.side SideId.s0).get (F.TK_CUE_STATE (3 : Fin 128).val) ≠ 2) ∧ ((mBeginBuffer.side SideId.s0).get (F.TK_CUE_STATE (3 : Fin 128).val) ≠ 3) ∧ ((mBeginBuffer.front SideId.s0).u 4 4 / 8 % 8 ≤ 3) ∧ ((mBeginBuffer.front SideId.s0).u 16 4 / 2 ^ 18 % 8 ≤ 4) ∧ (0 < (mBeginBuffer.front SideId.s0).u 16 4 / 2 ^ 18 % 8) ∧ (255 < (mBeginBuffer.front SideId.s0).u (148 + 16 * 0) 4 % 65536)) ∧
    (((mBeginMask.front SideId.s0).u 0 1 = (3 : Fin 128).val) ∧ (mBeginMask.Takes SideId.s0 6 1) ∧ ((mBeginMask.side SideId.s0).get (F.TK_CUE_STATE (3 : Fin 128).val) ≠ 2) ∧ ((mBeginMask.side SideId.s0).get (F.TK_CUE_STATE (3 : Fin 128).val) ≠ 3) ∧ ((mBeginMask.front SideId.s0).u 4 4 / 8 % 8 ≤ 3) ∧ ((mBeginMask.front SideId.s0).u 16 4 / 2 ^ 18 % 8 ≤ 4) ∧ (∀ (p : Nat), p < (mBeginMask.front SideId.s0).u 16 4 / 2 ^ 18 % 8 → (mBeginMask.front SideId.s0).u (148 + 16 * p) 4 % 65536 ≤ 255) ∧ ((mBeginMask.side SideId.s0).maskOk ((mBeginMask.front SideId.s0).u 8 4 + 2 ^ 32 * (mBeginMask.front SideId.s0).u 12 1) = false)) ∧
    (((mBegin.front SideId.s0).u 0 1 = (3 : Fin 128).val) ∧ (mBegin.Takes SideId.s0 6 1) ∧ ((mBegin.side SideId.s0).get (F.TK_CUE_STATE (3 : Fin 128).val) ≠ 2) ∧ ((mBegin.side SideId.s0).get (F.TK_CUE_STATE (3 : Fin 128).val) ≠ 3) ∧ ((mBegin.front SideId.s0).u 4 4 / 8 % 8 ≤ 3) ∧ ((mBegin.front SideId.s0).u 16 4 / 2 ^ 18 % 8 ≤ 4) ∧ (∀ (p : Nat), p < (mBegin.front SideId.s0).u 16 4 / 2 ^ 18 % 8 → (mBegin.front SideId.s0).u (148 + 16 * p) 4 % 65536 ≤ 255) ∧ ((mBegin.side SideId.s0).maskOk ((mBegin.front SideId.s0).u 8 4 + 2 ^ 32 * (mBegin.front SideId.s0).u 12 1) = true) ∧ ((mBegin.side SideId.s0).bankOn 47 = true)) ∧
    (((mAddNone.front SideId.s0).u 0 1 = (3 : Fin 128).val) ∧ (mAddNone.Takes SideId.s0 6 2) ∧ ((mAddNone.side SideId.s0).get (F.TK_CUE_STATE (3 : Fin 128).val) ≠ 2) ∧ ((mAddNone.side SideId.s0).get (F.TK_CUE_STATE (3 : Fin 128).val) ≠ 3) ∧ (mAddNone.compile SideId.s0 (mAddNone.front SideId.s0).carried = none)) ∧
    (((mAddBad.front SideId.s0).u 0 1 = (3 : Fin 128).val) ∧ (mAddBad.Takes SideId.s0 6 2) ∧ ((mAddBad.side SideId.s0).get (F.TK_CUE_STATE (3 : Fin 128).val) ≠ 2) ∧ ((mAddBad.side SideId.s0).get (F.TK_CUE_STATE (3 : Fin 128).val) ≠ 3) ∧ (mAddBad.compile SideId.s0 (mAddBad.front SideId.s0).carried = some (Compiled.refused 13 0))) := by refine ⟨?_, ?_, ?_, ?_, ?_, ?_⟩ <;> (unfold State.Takes; decide +kernel)

theorem witness_CueMessages_3 :
    (((mAddUnnamed.front SideId.s0).u 0 1 = (3 : Fin 128).val) ∧ (mAddUnnamed.Takes SideId.s0 6 2) ∧ ((mAddUnnamed.side SideId.s0).get (F.TK_CUE_STATE (3 : Fin 128).val) ≠ 2) ∧ ((mAddUnnamed.side SideId.s0).get (F.TK_CUE_STATE (3 : Fin 128).val) ≠ 3) ∧ (mAddUnnamed.compile SideId.s0 (mAddUnnamed.front SideId.s0).carried = some (Compiled.words [(125829120, 7)])) ∧ (∀ (u : Nat), unitOf 125829120 = some u → ((mAddUnnamed.side SideId.s0).get64 (F.TK_CUE_MASK_LO (3 : Fin 128).val) (F.TK_CUE_MASK_HI (3 : Fin 128).val)).testBit u = false)) ∧
    (((mAddFull.front SideId.s0).u 0 1 = (3 : Fin 128).val) ∧ (mAddFull.Takes SideId.s0 6 2) ∧ ((mAddFull.side SideId.s0).get (F.TK_CUE_STATE (3 : Fin 128).val) ≠ 2) ∧ ((mAddFull.side SideId.s0).get (F.TK_CUE_STATE (3 : Fin 128).val) ≠ 3) ∧ (mAddFull.compile SideId.s0 (mAddFull.front SideId.s0).carried = some (Compiled.words [(125829120, 7)])) ∧ (unitOf 125829120 = some 32) ∧ (((mAddFull.side SideId.s0).get64 (F.TK_CUE_MASK_LO (3 : Fin 128).val) (F.TK_CUE_MASK_HI (3 : Fin 128).val)).testBit 32 = true) ∧ (65280 < (mAddFull.side SideId.s0).cueSize (3 : Fin 128).val + 16)) ∧
    (((mAdd.front SideId.s0).u 0 1 = (3 : Fin 128).val) ∧ (mAdd.Takes SideId.s0 6 2) ∧ ((mAdd.side SideId.s0).get (F.TK_CUE_STATE (3 : Fin 128).val) ≠ 2) ∧ ((mAdd.side SideId.s0).get (F.TK_CUE_STATE (3 : Fin 128).val) ≠ 3) ∧ (mAdd.compile SideId.s0 (mAdd.front SideId.s0).carried = some (Compiled.words [(125829120, 7)])) ∧ (unitOf 125829120 = some 32) ∧ (((mAdd.side SideId.s0).get64 (F.TK_CUE_MASK_LO (3 : Fin 128).val) (F.TK_CUE_MASK_HI (3 : Fin 128).val)).testBit 32 = true) ∧ ((mAdd.side SideId.s0).cueSize (3 : Fin 128).val + 16 ≤ 65280) ∧ ((mAdd.side SideId.s0).bankOn 47 = true) ∧ ((mAdd.side SideId.s0).upsets = [])) ∧
    (((mEndBad.front SideId.s0).u 0 1 = (3 : Fin 128).val) ∧ (mEndBad.Takes SideId.s0 6 3) ∧ ((mEndBad.side SideId.s0).get (F.TK_CUE_STATE (3 : Fin 128).val) ≠ 2) ∧ ((mEndBad.side SideId.s0).get (F.TK_CUE_STATE (3 : Fin 128).val) ≠ 3) ∧ ((mEndBad.side SideId.s0).upsets = []) ∧ ((((mEndBad.side SideId.s0).putBytes (150994944 + 65536 * (3 : Fin 128).val + 256 + (mEndBad.side SideId.s0).cueSize (3 : Fin 128).val) (leBytes 4 4026531840)).slotRecords (3 : Fin 128).val).all (recordOk ((mEndBad.side SideId.s0).get64 (F.TK_CUE_MASK_LO (3 : Fin 128).val) (F.TK_CUE_MASK_HI (3 : Fin 128).val))) = false)) ∧
    (((mEnd.front SideId.s0).u 0 1 = (3 : Fin 128).val) ∧ (mEnd.Takes SideId.s0 6 3) ∧ ((mEnd.side SideId.s0).get (F.TK_CUE_STATE (3 : Fin 128).val) ≠ 2) ∧ ((mEnd.side SideId.s0).get (F.TK_CUE_STATE (3 : Fin 128).val) ≠ 3) ∧ ((mEnd.side SideId.s0).upsets = []) ∧ ((((mEnd.side SideId.s0).putBytes (150994944 + 65536 * (3 : Fin 128).val + 256 + (mEnd.side SideId.s0).cueSize (3 : Fin 128).val) (leBytes 4 4026531840)).slotRecords (3 : Fin 128).val).all (recordOk ((mEnd.side SideId.s0).get64 (F.TK_CUE_MASK_LO (3 : Fin 128).val) (F.TK_CUE_MASK_HI (3 : Fin 128).val))) = true) ∧ ((mEnd.side SideId.s0).bankOn 47 = true) ∧ ((mEnd.side SideId.s0).cueSize (3 : Fin 128).val < 65280)) ∧
    (((mArmEmpty.front SideId.s0).u 0 1 = (3 : Fin 128).val) ∧ (mArmEmpty.Takes SideId.s0 6 4) ∧ ((mArmEmpty.side SideId.s0).get (F.TK_CUE_STATE (3 : Fin 128).val) ≠ 2) ∧ ((mArmEmpty.side SideId.s0).get (F.TK_CUE_STATE (3 : Fin 128).val) ≠ 3) ∧ ((mArmEmpty.side SideId.s0).get (F.TK_CUE_STATE (3 : Fin 128).val) = 0 ∨ (mArmEmpty.side SideId.s0).maskOk ((mArmEmpty.side SideId.s0).get64 (F.TK_CUE_MASK_LO (3 : Fin 128).val) (F.TK_CUE_MASK_HI (3 : Fin 128).val)) = false)) := by refine ⟨?_, ?_, ?_, ?_, ?_, ?_⟩ <;> (unfold State.Takes; decide +kernel)

theorem witness_CueMessages_4 :
    (((mArm.front SideId.s0).u 0 1 = (3 : Fin 128).val) ∧ (mArm.Takes SideId.s0 6 4) ∧ ((mArm.side SideId.s0).get (F.TK_CUE_STATE (3 : Fin 128).val) ≠ 2) ∧ ((mArm.side SideId.s0).get (F.TK_CUE_STATE (3 : Fin 128).val) ≠ 3) ∧ ((mArm.side SideId.s0).get (F.TK_CUE_STATE (3 : Fin 128).val) ≠ 0) ∧ ((mArm.side SideId.s0).maskOk ((mArm.side SideId.s0).get64 (F.TK_CUE_MASK_LO (3 : Fin 128).val) (F.TK_CUE_MASK_HI (3 : Fin 128).val)) = true) ∧ (¬(mArm.side SideId.s0).get (F.TK_CUE_TRIG (3 : Fin 128).val) = 1)) ∧
    (((mArmNoTime.front SideId.s0).u 0 1 = (3 : Fin 128).val) ∧ (mArmNoTime.Takes SideId.s0 6 4) ∧ ((mArmNoTime.side SideId.s0).get (F.TK_CUE_STATE (3 : Fin 128).val) ≠ 2) ∧ ((mArmNoTime.side SideId.s0).get (F.TK_CUE_STATE (3 : Fin 128).val) ≠ 3) ∧ ((mArmNoTime.side SideId.s0).get (F.TK_CUE_STATE (3 : Fin 128).val) ≠ 0) ∧ ((mArmNoTime.side SideId.s0).maskOk ((mArmNoTime.side SideId.s0).get64 (F.TK_CUE_MASK_LO (3 : Fin 128).val) (F.TK_CUE_MASK_HI (3 : Fin 128).val)) = true) ∧ ((mArmNoTime.side SideId.s0).get (F.TK_CUE_TRIG (3 : Fin 128).val) = 1) ∧ ((mArmNoTime.side SideId.s0).flag F.TM_STAT_TIME_VALID = false ∨ (mArmNoTime.front SideId.s0).u 4 8 < (mArmNoTime.side SideId.s0).row + 4)) ∧
    (((mArmTaken.front SideId.s0).u 0 1 = (3 : Fin 128).val) ∧ (mArmTaken.Takes SideId.s0 6 4) ∧ ((mArmTaken.side SideId.s0).get (F.TK_CUE_STATE (3 : Fin 128).val) ≠ 2) ∧ ((mArmTaken.side SideId.s0).get (F.TK_CUE_STATE (3 : Fin 128).val) ≠ 3) ∧ ((mArmTaken.side SideId.s0).get (F.TK_CUE_STATE (3 : Fin 128).val) ≠ 0) ∧ ((mArmTaken.side SideId.s0).maskOk ((mArmTaken.side SideId.s0).get64 (F.TK_CUE_MASK_LO (3 : Fin 128).val) (F.TK_CUE_MASK_HI (3 : Fin 128).val)) = true) ∧ ((mArmTaken.side SideId.s0).get (F.TK_CUE_TRIG (3 : Fin 128).val) = 1) ∧ ((mArmTaken.side SideId.s0).flag F.TM_STAT_TIME_VALID = true) ∧ ((mArmTaken.side SideId.s0).row + 4 ≤ (mArmTaken.front SideId.s0).u 4 8) ∧ (((mArmTaken.side SideId.s0).get64 (F.TK_CUE_MASK_LO (3 : Fin 128).val) (F.TK_CUE_MASK_HI (3 : Fin 128).val)).testBit 32 = true) ∧ ((mArmTaken.side SideId.s0).crossTaken ((3 : Fin 128).val) ((mArmTaken.front SideId.s0).u 4 8) = true)) ∧
    (((mArmRow.front SideId.s0).u 0 1 = (3 : Fin 128).val) ∧ (mArmRow.Takes SideId.s0 6 4) ∧ ((mArmRow.side SideId.s0).get (F.TK_CUE_STATE (3 : Fin 128).val) ≠ 2) ∧ ((mArmRow.side SideId.s0).get (F.TK_CUE_STATE (3 : Fin 128).val) ≠ 3) ∧ ((mArmRow.side SideId.s0).get (F.TK_CUE_STATE (3 : Fin 128).val) ≠ 0) ∧ ((mArmRow.side SideId.s0).maskOk ((mArmRow.side SideId.s0).get64 (F.TK_CUE_MASK_LO (3 : Fin 128).val) (F.TK_CUE_MASK_HI (3 : Fin 128).val)) = true) ∧ ((mArmRow.side SideId.s0).get (F.TK_CUE_TRIG (3 : Fin 128).val) = 1) ∧ ((mArmRow.side SideId.s0).flag F.TM_STAT_TIME_VALID = true) ∧ ((mArmRow.side SideId.s0).row + 4 ≤ (mArmRow.front SideId.s0).u 4 8) ∧ (((mArmRow.side SideId.s0).get64 (F.TK_CUE_MASK_LO (3 : Fin 128).val) (F.TK_CUE_MASK_HI (3 : Fin 128).val)).testBit 32 = false ∨ (mArmRow.side SideId.s0).crossTaken ((3 : Fin 128).val) ((mArmRow.front SideId.s0).u 4 8) = false)) ∧
    (((mDisarm2.front SideId.s0).u 0 1 = (3 : Fin 128).val) ∧ (mDisarm2.Takes SideId.s0 6 5) ∧ ((mDisarm2.side SideId.s0).get (F.TK_CUE_STATE (3 : Fin 128).val) = 2)) ∧
    (((mDisarm3.front SideId.s0).u 0 1 = (3 : Fin 128).val) ∧ (mDisarm3.Takes SideId.s0 6 5) ∧ ((mDisarm3.side SideId.s0).get (F.TK_CUE_STATE (3 : Fin 128).val) = 3)) := by refine ⟨?_, ?_, ?_, ?_, ?_, ?_⟩ <;> (unfold State.Takes; decide +kernel)

theorem witness_CueMessages_5 :
    (((mDisarm0.front SideId.s0).u 0 1 = (3 : Fin 128).val) ∧ (mDisarm0.Takes SideId.s0 6 5) ∧ ((mDisarm0.side SideId.s0).get (F.TK_CUE_STATE (3 : Fin 128).val) ≠ 2) ∧ ((mDisarm0.side SideId.s0).get (F.TK_CUE_STATE (3 : Fin 128).val) ≠ 3)) ∧
    (((mFire3.front SideId.s0).u 0 1 = (3 : Fin 128).val) ∧ (mFire3.Takes SideId.s0 6 6) ∧ ((mFire3.side SideId.s0).get (F.TK_CUE_STATE (3 : Fin 128).val) = 3)) ∧
    (((mFire0.front SideId.s0).u 0 1 = (3 : Fin 128).val) ∧ (mFire0.Takes SideId.s0 6 6) ∧ ((mFire0.side SideId.s0).get (F.TK_CUE_STATE (3 : Fin 128).val) = 0 ∨ (mFire0.side SideId.s0).get (F.TK_CUE_STATE (3 : Fin 128).val) = 4)) ∧
    (((mFireMask.front SideId.s0).u 0 1 = (3 : Fin 128).val) ∧ (mFireMask.Takes SideId.s0 6 6) ∧ ((mFireMask.side SideId.s0).get (F.TK_CUE_STATE (3 : Fin 128).val) = 1 ∨ (mFireMask.side SideId.s0).get (F.TK_CUE_STATE (3 : Fin 128).val) = 2) ∧ ((mFireMask.side SideId.s0).maskOk ((mFireMask.side SideId.s0).get64 (F.TK_CUE_MASK_LO (3 : Fin 128).val) (F.TK_CUE_MASK_HI (3 : Fin 128).val)) = false)) ∧
    (((mFire1.front SideId.s0).u 0 1 = (3 : Fin 128).val) ∧ (mFire1.Takes SideId.s0 6 6) ∧ ((mFire1.side SideId.s0).get (F.TK_CUE_STATE (3 : Fin 128).val) = 1 ∨ (mFire1.side SideId.s0).get (F.TK_CUE_STATE (3 : Fin 128).val) = 2) ∧ ((mFire1.side SideId.s0).maskOk ((mFire1.side SideId.s0).get64 (F.TK_CUE_MASK_LO (3 : Fin 128).val) (F.TK_CUE_MASK_HI (3 : Fin 128).val)) = true) ∧ ((mFire1.side SideId.s0).freeEntry = some (0 : Fin 8)) ∧ ((mFire1.side SideId.s0).takes.loader = []) ∧ ((mFire1.side SideId.s0).takes.slips = []) ∧ ((mFire1.side SideId.s0).flag (F.TK_CUE_BCAST (3 : Fin 128).val) = false) ∧ ((mFire1.side SideId.s0).awaitsLead = false)) ∧
    (((mAbort0.front SideId.s0).u 0 1 = (3 : Fin 128).val) ∧ (mAbort0.Takes SideId.s0 6 7) ∧ ((mAbort0.side SideId.s0).get (F.TK_CUE_STATE (3 : Fin 128).val) ≠ 3)) := by refine ⟨?_, ?_, ?_, ?_, ?_, ?_⟩ <;> (unfold State.Takes; decide +kernel)

theorem witness_CueMessages_6 :
    (((mAbortDone.front SideId.s0).u 0 1 = (3 : Fin 128).val) ∧ (mAbortDone.Takes SideId.s0 6 7) ∧ ((mAbortDone.side SideId.s0).get (F.TK_CUE_STATE (3 : Fin 128).val) = 3) ∧ ((mAbortDone.side SideId.s0).takes.queue[(0 : Fin 8)] = some { wTake 5 (some 50) with cue := some 3, state := 2 }) ∧ ({ wTake 5 (some 50) with cue := some 3, state := 2 }.cue = some (3 : Fin 128).val) ∧ (∀ (u : Take), u ∈ (mAbortDone.side SideId.s0).takeList → u.cue = some (3 : Fin 128).val ∨ u.num = { wTake 5 (some 50) with cue := some 3, state := 2 }.num → u = { wTake 5 (some 50) with cue := some 3, state := 2 }) ∧ ({ wTake 5 (some 50) with cue := some 3, state := 2 }.state ≠ 1)) ∧
    (((mAbortQueued.front SideId.s0).u 0 1 = (3 : Fin 128).val) ∧ (mAbortQueued.Takes SideId.s0 6 7) ∧ ((mAbortQueued.side SideId.s0).get (F.TK_CUE_STATE (3 : Fin 128).val) = 3) ∧ ((mAbortQueued.side SideId.s0).takes.queue[(0 : Fin 8)] = some { wTake 5 (some 50) with cue := some 3 }) ∧ ({ wTake 5 (some 50) with cue := some 3 }.cue = some (3 : Fin 128).val) ∧ (∀ (u : Take), u ∈ (mAbortQueued.side SideId.s0).takeList → u.cue = some (3 : Fin 128).val ∨ u.num = { wTake 5 (some 50) with cue := some 3 }.num → u = { wTake 5 (some 50) with cue := some 3 }) ∧ ({ wTake 5 (some 50) with cue := some 3 }.state = 1) ∧ ((mAbortQueued.side SideId.s0).fw.held = []) ∧ ((mAbortQueued.side SideId.s0).takes.slips = []) ∧ ((mAbortQueued.side SideId.s0).entryOf { wTake 5 (some 50) with cue := some 3 }.num = some (0 : Fin 8))) ∧
    (((mAbort3.front SideId.s0).u 0 1 = (3 : Fin 128).val) ∧ (mAbort3.Takes SideId.s0 6 7) ∧ ((mAbort3.side SideId.s0).get (F.TK_CUE_STATE (3 : Fin 128).val) = 3) ∧ (∀ (t : Take), t ∈ (mAbort3.side SideId.s0).takeList → t.cue ≠ some (3 : Fin 128).val)) ∧
    (((mClear0.front SideId.s0).u 0 1 = (3 : Fin 128).val) ∧ (mClear0.Takes SideId.s0 6 8) ∧ ((mClear0.side SideId.s0).get (F.TK_CUE_STATE (3 : Fin 128).val) ≠ 2) ∧ ((mClear0.side SideId.s0).get (F.TK_CUE_STATE (3 : Fin 128).val) ≠ 3)) := by refine ⟨?_, ?_, ?_, ?_⟩ <;> (unfold State.Takes; decide +kernel)

theorem witness_MeterAndLinkMessages_1 :
    ((mPointBad.Takes SideId.s0 7 1) ∧ (4096 < (mPointBad.front SideId.s0).u 0 2 + (mPointBad.front SideId.s0).u 2 2 ∨ (mPointBad.front SideId.s0).u 8 2 = 0 ∨ 3000 < (mPointBad.front SideId.s0).u 8 2 ∨ 10000 < (mPointBad.front SideId.s0).u 10 2 ∨ 600 < (mPointBad.front SideId.s0).u 12 2)) ∧
    ((mPoint.Takes SideId.s0 7 1) ∧ (¬(4096 < (mPoint.front SideId.s0).u 0 2 + (mPoint.front SideId.s0).u 2 2 ∨ (mPoint.front SideId.s0).u 8 2 = 0 ∨ 3000 < (mPoint.front SideId.s0).u 8 2 ∨ 10000 < (mPoint.front SideId.s0).u 10 2 ∨ 600 < (mPoint.front SideId.s0).u 12 2)) ∧ ((mPoint.front SideId.s0).u 2 2 = 1) ∧ ((mPoint.side SideId.s0).gatedAt (meterParam ((mPoint.front SideId.s0).u 0 2)) = false) ∧ ((mPoint.side SideId.s0).closingAt (meterParam ((mPoint.front SideId.s0).u 0 2)) = false) ∧ ((mPoint.side SideId.s0).upsets = []) ∧ ((mPoint.side SideId.s0).bankOn 50 = true) ∧ ((mPoint.side SideId.s0).flag (F.MM_BANK_TESTING 50) = false)) ∧
    ((mMtrResetBad.Takes SideId.s0 7 2) ∧ (4096 < (mMtrResetBad.front SideId.s0).u 0 2 + (mMtrResetBad.front SideId.s0).u 2 2)) ∧
    ((mMtrReset.Takes SideId.s0 7 2) ∧ ((mMtrReset.front SideId.s0).u 0 2 + (mMtrReset.front SideId.s0).u 2 2 ≤ 4096)) ∧
    ((mGroupBad.Takes SideId.s0 7 3) ∧ ((mGroupBad.front SideId.s0).u 0 1 = (0 : Fin 8).val) ∧ (¬((mGroupBad.front SideId.s0).u 1 1 ≤ 1 ∧ (mGroupBad.front SideId.s0).u 2 1 ≤ 3 ∧ rateHz (mGroupBad.side SideId.s0).rate / 200 ≤ (mGroupBad.front SideId.s0).u 4 4 ∧ (mGroupBad.front SideId.s0).u 4 4 ≤ rateHz (mGroupBad.side SideId.s0).rate ∧ 1 ≤ (mGroupBad.front SideId.s0).u 10 2 ∧ (mGroupBad.front SideId.s0).u 8 2 + (mGroupBad.front SideId.s0).u 10 2 ≤ 4096))) ∧
    ((mGroup.Takes SideId.s0 7 3) ∧ ((mGroup.front SideId.s0).u 0 1 = (0 : Fin 8).val) ∧ ((mGroup.front SideId.s0).u 1 1 ≤ 1 ∧ (mGroup.front SideId.s0).u 2 1 ≤ 3 ∧ rateHz (mGroup.side SideId.s0).rate / 200 ≤ (mGroup.front SideId.s0).u 4 4 ∧ (mGroup.front SideId.s0).u 4 4 ≤ rateHz (mGroup.side SideId.s0).rate ∧ 1 ≤ (mGroup.front SideId.s0).u 10 2 ∧ (mGroup.front SideId.s0).u 8 2 + (mGroup.front SideId.s0).u 10 2 ≤ 4096) ∧ (∀ (i : Nat), i < (mGroup.front SideId.s0).u 10 2 → ¬(((mGroup.side SideId.s0).mparam ((mGroup.front SideId.s0).u 8 2 + i) 0).testBit 19 = true ∧ (mGroup.side SideId.s0).mparam ((mGroup.front SideId.s0).u 8 2 + i) 0 / 65536 % 8 ≠ (0 : Fin 8).val)) ∧ ((mGroup.side SideId.s0).gateOpen 33 = true) ∧ ((mGroup.side SideId.s0).clk.closing.testBit 33 = false)) := by refine ⟨?_, ?_, ?_, ?_, ?_, ?_⟩ <;> (unfold State.Takes; decide +kernel)

theorem witness_MeterAndLinkMessages_2 :
    ((mGroupOther.Takes SideId.s0 7 3) ∧ ((mGroupOther.front SideId.s0).u 0 1 = (0 : Fin 8).val) ∧ ((mGroupOther.front SideId.s0).u 1 1 ≤ 1 ∧ (mGroupOther.front SideId.s0).u 2 1 ≤ 3 ∧ rateHz (mGroupOther.side SideId.s0).rate / 200 ≤ (mGroupOther.front SideId.s0).u 4 4 ∧ (mGroupOther.front SideId.s0).u 4 4 ≤ rateHz (mGroupOther.side SideId.s0).rate ∧ 1 ≤ (mGroupOther.front SideId.s0).u 10 2 ∧ (mGroupOther.front SideId.s0).u 8 2 + (mGroupOther.front SideId.s0).u 10 2 ≤ 4096) ∧ (0 < (mGroupOther.front SideId.s0).u 10 2) ∧ (((mGroupOther.side SideId.s0).mparam ((mGroupOther.front SideId.s0).u 8 2 + 0) 0).testBit 19 = true ∧ (mGroupOther.side SideId.s0).mparam ((mGroupOther.front SideId.s0).u 8 2 + 0) 0 / 65536 % 8 ≠ (0 : Fin 8).val)) ∧
    ((mSkeinNone.Takes SideId.s0 12 1) ∧ (127 < (mSkeinNone.front SideId.s0).u 0 2)) ∧
    ((mSkeinFed0.Takes SideId.s0 12 1) ∧ ((mSkeinFed0.front SideId.s0).u 0 2 ≤ 127) ∧ (((mSkeinFed0.front SideId.s0).u 4 4).testBit 0 = true ∧ (mSkeinFed0.front SideId.s0).u 0 2 / 16 % 2 = 0 ∧ ((mSkeinFed0.front SideId.s0).u 4 4).testBit 7 = true ∧ (mSkeinFed0.side SideId.s0).skeinFed ((mSkeinFed0.front SideId.s0).u 4 4 / 2 ^ 24 % 4) ((mSkeinFed0.front SideId.s0).u 4 4 / 2 ^ 26 % 16) = true)) ∧
    ((mSkeinWide.Takes SideId.s0 12 1) ∧ ((mSkeinWide.front SideId.s0).u 0 2 ≤ 127) ∧ (¬(((mSkeinWide.front SideId.s0).u 4 4).testBit 0 = true ∧ (mSkeinWide.front SideId.s0).u 0 2 / 16 % 2 = 0 ∧ ((mSkeinWide.front SideId.s0).u 4 4).testBit 7 = true ∧ (mSkeinWide.side SideId.s0).skeinFed ((mSkeinWide.front SideId.s0).u 4 4 / 2 ^ 24 % 4) ((mSkeinWide.front SideId.s0).u 4 4 / 2 ^ 26 % 16) = true)) ∧ (¬(List.map (fun k => if (mSkeinWide.front SideId.s0).u 0 2 / 16 * 16 + k = (mSkeinWide.front SideId.s0).u 0 2 then if ((mSkeinWide.front SideId.s0).u 4 4).testBit 0 = true then (mSkeinWide.front SideId.s0).u 4 4 / 2 ^ 12 % 2 ^ 8 + 1 else 0 else if (mSkeinWide.side SideId.s0).skeinOn ((mSkeinWide.front SideId.s0).u 0 2 / 16 * 16 + k) = true then (mSkeinWide.side SideId.s0).skeinF ((mSkeinWide.front SideId.s0).u 0 2 / 16 * 16 + k) 0 12 8 + 1 else 0) (List.range 16)).sum ≤ if (mSkeinWide.side SideId.s0).rate ≤ 3 then 4096 else 2048)) ∧
    ((mSkein.Takes SideId.s0 12 1) ∧ ((mSkein.front SideId.s0).u 0 2 ≤ 127) ∧ (¬(((mSkein.front SideId.s0).u 4 4).testBit 0 = true ∧ (mSkein.front SideId.s0).u 0 2 / 16 % 2 = 0 ∧ ((mSkein.front SideId.s0).u 4 4).testBit 7 = true ∧ (mSkein.side SideId.s0).skeinFed ((mSkein.front SideId.s0).u 4 4 / 2 ^ 24 % 4) ((mSkein.front SideId.s0).u 4 4 / 2 ^ 26 % 16) = true)) ∧ ((List.map (fun k => if (mSkein.front SideId.s0).u 0 2 / 16 * 16 + k = (mSkein.front SideId.s0).u 0 2 then if ((mSkein.front SideId.s0).u 4 4).testBit 0 = true then (mSkein.front SideId.s0).u 4 4 / 2 ^ 12 % 2 ^ 8 + 1 else 0 else if (mSkein.side SideId.s0).skeinOn ((mSkein.front SideId.s0).u 0 2 / 16 * 16 + k) = true then (mSkein.side SideId.s0).skeinF ((mSkein.front SideId.s0).u 0 2 / 16 * 16 + k) 0 12 8 + 1 else 0) (List.range 16)).sum ≤ if (mSkein.side SideId.s0).rate ≤ 3 then 4096 else 2048)) ∧
    ((mAsymBad.Takes SideId.s0 12 2) ∧ (3 < (mAsymBad.front SideId.s0).u 0 1)) := by refine ⟨?_, ?_, ?_, ?_, ?_, ?_⟩ <;> (unfold State.Takes; decide +kernel)

theorem witness_MeterAndLinkMessages_3 :
    ((mAsym.Takes SideId.s0 12 2) ∧ ((mAsym.front SideId.s0).u 0 1 ≤ 3) ∧ ((mAsym.side SideId.s0).gateOpen 39 = true) ∧ ((mAsym.side SideId.s0).clk.closing.testBit 39 = false)) ∧
    ((mRouteBad.Takes SideId.s0 12 3) ∧ (63 < (mRouteBad.front SideId.s0).u 0 1)) ∧
    ((mRoute.Takes SideId.s0 12 3) ∧ ((mRoute.front SideId.s0).u 0 1 ≤ 63)) ∧
    ((mRelayBad.Takes SideId.s0 12 4) ∧ (1 < (mRelayBad.front SideId.s0).u 0 1 ∨ 1 < (mRelayBad.front SideId.s0).u 1 1)) ∧
    ((mRelay.Takes SideId.s0 12 4) ∧ ((mRelay.front SideId.s0).u 0 1 ≤ 1) ∧ ((mRelay.front SideId.s0).u 1 1 ≤ 1)) := by refine ⟨?_, ?_, ?_, ?_, ?_⟩ <;> (unfold State.Takes; decide +kernel)

theorem witness_ClockMessages_1 :
    ((mCandBad.Takes SideId.s0 8 1) ∧ ((∀ (k : Fin 8), (mCandBad.side SideId.s0).qualified ↑k = false) ∧ (mCandBad.side SideId.s0).flag F.TM_STAT_REF_SPLIT = false) ∧ ((mCandBad.front SideId.s0).u 0 1 = (0 : Fin 8).val) ∧ (1 < (mCandBad.front SideId.s0).u 1 1 ∨ 15 < (mCandBad.front SideId.s0).u 3 1)) ∧
    ((mCand0.Takes SideId.s0 8 1) ∧ ((∀ (k : Fin 8), (mCand0.side SideId.s0).qualified ↑k = false) ∧ (mCand0.side SideId.s0).flag F.TM_STAT_REF_SPLIT = false) ∧ ((mCand0.front SideId.s0).u 0 1 = (0 : Fin 8).val) ∧ ((mCand0.front SideId.s0).u 1 1 ≤ 1) ∧ ((mCand0.front SideId.s0).u 3 1 ≤ 15)) ∧
    ((mLoop.Takes SideId.s0 8 2) ∧ ((∀ (k : Fin 8), (mLoop.side SideId.s0).qualified ↑k = false) ∧ (mLoop.side SideId.s0).flag F.TM_STAT_REF_SPLIT = false) ∧ ((mLoop.front SideId.s0).u 0 1 ≤ 7)) ∧
    ((mOpenBad.Takes SideId.s0 8 3) ∧ (1 < (mOpenBad.front SideId.s0).u 0 1)) ∧
    ((mLoopOpenMsg.Takes SideId.s0 8 3) ∧ ((mLoopOpenMsg.front SideId.s0).u 0 1 = 1) ∧ ((mLoopOpenMsg.side SideId.s0).flag F.TM_CTRL_OPEN = false) ∧ ((mLoopOpenMsg.side SideId.s0).flag F.TM_STAT_LOCK = false ∨ (mLoopOpenMsg.side SideId.s0).flag F.TM_STICKY_LOCK_S = true)) ∧
    ((mLoopClose.Takes SideId.s0 8 3) ∧ ((mLoopClose.front SideId.s0).u 0 1 = 0) ∧ ((mLoopClose.side SideId.s0).flag F.TM_CTRL_OPEN = true) ∧ ((mLoopClose.side SideId.s0).flag F.TM_STAT_FREERUN = false)) := by refine ⟨?_, ?_, ?_, ?_, ?_, ?_⟩ <;> (unfold State.Takes; decide +kernel)

theorem witness_ClockMessages_2 :
    ((mLoopSame.Takes SideId.s0 8 3) ∧ ((mLoopSame.front SideId.s0).u 0 1 ≤ 1) ∧ ((mLoopSame.side SideId.s0).get F.TM_CTRL_OPEN = (mLoopSame.front SideId.s0).u 0 1)) ∧
    ((mFw.Takes SideId.s0 8 4) ∧ ((mFw.side SideId.s0).tm.steerBusy = false)) ∧
    ((mPpt.Takes SideId.s0 8 5) ∧ ((mPpt.side SideId.s0).tm.steerBusy = false)) ∧
    ((mPush.Takes SideId.s0 8 6) ∧ ((∀ (k : Fin 8), (mPush.side SideId.s0).qualified ↑k = false) ∧ (mPush.side SideId.s0).flag F.TM_STAT_REF_SPLIT = false) ∧ ((mPush.side SideId.s0).clocked = true)) ∧
    ((mObsBad.Takes SideId.s0 8 7) ∧ (31 < (mObsBad.front SideId.s0).u 0 1 ∨ 15 < (mObsBad.front SideId.s0).u 1 1 ∨ 3 < (mObsBad.front SideId.s0).u 2 1)) ∧
    ((mObs.Takes SideId.s0 8 7) ∧ ((mObs.front SideId.s0).u 0 1 ≤ 31) ∧ ((mObs.front SideId.s0).u 1 1 ≤ 15) ∧ ((mObs.front SideId.s0).u 2 1 ≤ 3)) := by refine ⟨?_, ?_, ?_, ?_, ?_, ?_⟩ <;> (unfold State.Takes; decide +kernel)

theorem witness_ClockMessages_3 :
    ((mObsSame.Takes SideId.s0 8 7) ∧ ((mObsSame.front SideId.s0).u 0 1 ≤ 31) ∧ ((mObsSame.front SideId.s0).u 1 1 ≤ 15) ∧ ((mObsSame.front SideId.s0).u 2 1 ≤ 3) ∧ ((mObsSame.side SideId.s0).get F.CK_OBS_SEL = (mObsSame.front SideId.s0).u 0 1)) := by unfold State.Takes; decide +kernel

theorem witness_TimeMessages_1 :
    ((mSnap.Takes SideId.s0 9 1) ∧ (∀ (p : Nat × Nat), p ∈ (mSnap.side SideId.s0).tm.pulses → (if ((mSnap.side SideId.s0).clocked && (mSnap.side SideId.s0).tm.started) = true then (mSnap.side SideId.s0).edgeAt 0 else (mSnap.side SideId.s0).counter) < p.snd)) ∧
    ((mStepBad.Takes SideId.s0 9 2) ∧ ((mStepBad.front SideId.s0).u 0 1 ≠ 1) ∧ ((mStepBad.front SideId.s0).u 0 1 ≠ 2)) ∧
    ((mStepNoRef.Takes SideId.s0 9 2) ∧ ((mStepNoRef.front SideId.s0).u 0 1 = 1 ∨ (mStepNoRef.front SideId.s0).u 0 1 = 2) ∧ ((mStepNoRef.side SideId.s0).clocked = true) ∧ ((mStepNoRef.side SideId.s0).stepVerdict (decide ((mStepNoRef.front SideId.s0).u 0 1 = 1)) ≠ 1)) ∧
    ((mStep.Takes SideId.s0 9 2) ∧ ((mStep.front SideId.s0).u 0 1 = 1 ∨ (mStep.front SideId.s0).u 0 1 = 2) ∧ ((mStep.side SideId.s0).clocked = true) ∧ ((mStep.side SideId.s0).stepVerdict (decide ((mStep.front SideId.s0).u 0 1 = 1)) = 1) ∧ ((mStep.side SideId.s0).mode ≠ Mode.lead)) ∧
    ((mTrigBad.Takes SideId.s0 9 3) ∧ ((mTrigBad.front SideId.s0).u 0 1 = (31 : Fin 32).val) ∧ (23 < (31 : Fin 32).val ∨ 5 < (mTrigBad.front SideId.s0).u 1 1 ∨ 31 < (mTrigBad.front SideId.s0).u 2 1 ∨ 1 < (mTrigBad.front SideId.s0).u 3 1)) ∧
    ((mTrig.Takes SideId.s0 9 3) ∧ ((mTrig.front SideId.s0).u 0 1 = (5 : Fin 32).val) ∧ ((5 : Fin 32).val ≤ 23) ∧ ((mTrig.front SideId.s0).u 1 1 ≤ 5) ∧ ((mTrig.front SideId.s0).u 2 1 ≤ 31) ∧ ((mTrig.front SideId.s0).u 3 1 ≤ 1)) := by refine ⟨?_, ?_, ?_, ?_, ?_, ?_⟩ <;> (unfold State.Takes; decide +kernel)

theorem witness_TimeMessages_2 :
    ((mCapSetBad.Takes SideId.s0 9 4) ∧ (1 < (mCapSetBad.front SideId.s0).u 0 1 ∨ 1 < (mCapSetBad.front SideId.s0).u 1 1)) ∧
    ((mCapSet.Takes SideId.s0 9 4) ∧ ((mCapSet.front SideId.s0).u 0 1 ≤ 1) ∧ ((mCapSet.front SideId.s0).u 1 1 ≤ 1)) ∧
    ((mPhy.Takes SideId.s0 9 5) ∧ ((mPhy.front SideId.s0).u 0 1 = (1 : Fin 2).val)) ∧
    ((mTimeAsym.Takes SideId.s0 9 6) ∧ ((mTimeAsym.front SideId.s0).u 0 1 = (1 : Fin 2).val)) ∧
    ((mUtc.Takes SideId.s0 9 7)) := by refine ⟨?_, ?_, ?_, ?_, ?_⟩ <;> (unfold State.Takes; decide +kernel)

theorem witness_PortMessages_1 :
    (((mStartBad.front SideId.s0).u 0 1 = (0 : Fin 32).val / 2) ∧ ((mStartBad.front SideId.s0).u 1 1 = (0 : Fin 32).val % 2) ∧ (mStartBad.Takes SideId.s0 10 2) ∧ (¬((mStartBad.front SideId.s0).u 2 1 ≤ 1 ∧ (mStartBad.front SideId.s0).u 3 1 ≤ 1 ∧ ((mStartBad.front SideId.s0).u 3 1 = 1 → (mStartBad.front SideId.s0).u 2 1 = 0 ∧ (0 : Fin 32).val % 2 = 0) ∧ 1 ≤ (mStartBad.front SideId.s0).u 4 2 ∧ (mStartBad.front SideId.s0).u 4 2 ≤ 2048 ∧ (mStartBad.front SideId.s0).u 6 2 < rowUnits (mStartBad.side SideId.s0).rate / mediaUnits (mStartBad.side SideId.s0).rate ∧ ((mStartBad.front SideId.s0).u 2 1 = 1 → ((mStartBad.front SideId.s0).u 4 2 = rowUnits (mStartBad.side SideId.s0).rate / mediaUnits (mStartBad.side SideId.s0).rate ∨ (mStartBad.front SideId.s0).u 4 2 ≤ rowUnits (mStartBad.side SideId.s0).rate / mediaUnits (mStartBad.side SideId.s0).rate / 2) ∧ ((0 : Fin 32).val % 2 = 1 → 8 ≤ (mStartBad.front SideId.s0).u 6 2)) ∧ slotCount ((mStartBad.side SideId.s0).cfgCur (0 : Fin 32)) * widthBits ((mStartBad.side SideId.s0).cfgCur (0 : Fin 32)) ≤ (mStartBad.front SideId.s0).u 4 2 ∧ slotCount ((mStartBad.side SideId.s0).cfgShadow (0 : Fin 32)) * widthBits ((mStartBad.side SideId.s0).cfgShadow (0 : Fin 32)) ≤ (mStartBad.front SideId.s0).u 4 2))) ∧
    (((mStartTwin.front SideId.s0).u 0 1 = (0 : Fin 32).val / 2) ∧ ((mStartTwin.front SideId.s0).u 1 1 = (0 : Fin 32).val % 2) ∧ (mStartTwin.Takes SideId.s0 10 2) ∧ ((mStartTwin.front SideId.s0).u 2 1 ≤ 1 ∧ (mStartTwin.front SideId.s0).u 3 1 ≤ 1 ∧ ((mStartTwin.front SideId.s0).u 3 1 = 1 → (mStartTwin.front SideId.s0).u 2 1 = 0 ∧ (0 : Fin 32).val % 2 = 0) ∧ 1 ≤ (mStartTwin.front SideId.s0).u 4 2 ∧ (mStartTwin.front SideId.s0).u 4 2 ≤ 2048 ∧ (mStartTwin.front SideId.s0).u 6 2 < rowUnits (mStartTwin.side SideId.s0).rate / mediaUnits (mStartTwin.side SideId.s0).rate ∧ ((mStartTwin.front SideId.s0).u 2 1 = 1 → ((mStartTwin.front SideId.s0).u 4 2 = rowUnits (mStartTwin.side SideId.s0).rate / mediaUnits (mStartTwin.side SideId.s0).rate ∨ (mStartTwin.front SideId.s0).u 4 2 ≤ rowUnits (mStartTwin.side SideId.s0).rate / mediaUnits (mStartTwin.side SideId.s0).rate / 2) ∧ ((0 : Fin 32).val % 2 = 1 → 8 ≤ (mStartTwin.front SideId.s0).u 6 2)) ∧ slotCount ((mStartTwin.side SideId.s0).cfgCur (0 : Fin 32)) * widthBits ((mStartTwin.side SideId.s0).cfgCur (0 : Fin 32)) ≤ (mStartTwin.front SideId.s0).u 4 2 ∧ slotCount ((mStartTwin.side SideId.s0).cfgShadow (0 : Fin 32)) * widthBits ((mStartTwin.side SideId.s0).cfgShadow (0 : Fin 32)) ≤ (mStartTwin.front SideId.s0).u 4 2) ∧ ((mStartTwin.front SideId.s0).u 2 1 = 1 ∧ (mStartTwin.side SideId.s0).get F.PW_MODE_ARR = 2)) ∧
    (((mStartRuns.front SideId.s0).u 0 1 = (0 : Fin 32).val / 2) ∧ ((mStartRuns.front SideId.s0).u 1 1 = (0 : Fin 32).val % 2) ∧ (mStartRuns.Takes SideId.s0 10 2) ∧ ((mStartRuns.front SideId.s0).u 2 1 ≤ 1 ∧ (mStartRuns.front SideId.s0).u 3 1 ≤ 1 ∧ ((mStartRuns.front SideId.s0).u 3 1 = 1 → (mStartRuns.front SideId.s0).u 2 1 = 0 ∧ (0 : Fin 32).val % 2 = 0) ∧ 1 ≤ (mStartRuns.front SideId.s0).u 4 2 ∧ (mStartRuns.front SideId.s0).u 4 2 ≤ 2048 ∧ (mStartRuns.front SideId.s0).u 6 2 < rowUnits (mStartRuns.side SideId.s0).rate / mediaUnits (mStartRuns.side SideId.s0).rate ∧ ((mStartRuns.front SideId.s0).u 2 1 = 1 → ((mStartRuns.front SideId.s0).u 4 2 = rowUnits (mStartRuns.side SideId.s0).rate / mediaUnits (mStartRuns.side SideId.s0).rate ∨ (mStartRuns.front SideId.s0).u 4 2 ≤ rowUnits (mStartRuns.side SideId.s0).rate / mediaUnits (mStartRuns.side SideId.s0).rate / 2) ∧ ((0 : Fin 32).val % 2 = 1 → 8 ≤ (mStartRuns.front SideId.s0).u 6 2)) ∧ slotCount ((mStartRuns.side SideId.s0).cfgCur (0 : Fin 32)) * widthBits ((mStartRuns.side SideId.s0).cfgCur (0 : Fin 32)) ≤ (mStartRuns.front SideId.s0).u 4 2 ∧ slotCount ((mStartRuns.side SideId.s0).cfgShadow (0 : Fin 32)) * widthBits ((mStartRuns.side SideId.s0).cfgShadow (0 : Fin 32)) ≤ (mStartRuns.front SideId.s0).u 4 2) ∧ (¬((mStartRuns.front SideId.s0).u 2 1 = 1 ∧ (mStartRuns.side SideId.s0).get F.PW_MODE_ARR = 2)) ∧ ((mStartRuns.side SideId.s0).halfRuns (0 : Fin 32) = true)) ∧
    (((mStart.front SideId.s0).u 0 1 = (0 : Fin 32).val / 2) ∧ ((mStart.front SideId.s0).u 1 1 = (0 : Fin 32).val % 2) ∧ (mStart.Takes SideId.s0 10 2) ∧ ((mStart.front SideId.s0).u 2 1 ≤ 1 ∧ (mStart.front SideId.s0).u 3 1 ≤ 1 ∧ ((mStart.front SideId.s0).u 3 1 = 1 → (mStart.front SideId.s0).u 2 1 = 0 ∧ (0 : Fin 32).val % 2 = 0) ∧ 1 ≤ (mStart.front SideId.s0).u 4 2 ∧ (mStart.front SideId.s0).u 4 2 ≤ 2048 ∧ (mStart.front SideId.s0).u 6 2 < rowUnits (mStart.side SideId.s0).rate / mediaUnits (mStart.side SideId.s0).rate ∧ ((mStart.front SideId.s0).u 2 1 = 1 → ((mStart.front SideId.s0).u 4 2 = rowUnits (mStart.side SideId.s0).rate / mediaUnits (mStart.side SideId.s0).rate ∨ (mStart.front SideId.s0).u 4 2 ≤ rowUnits (mStart.side SideId.s0).rate / mediaUnits (mStart.side SideId.s0).rate / 2) ∧ ((0 : Fin 32).val % 2 = 1 → 8 ≤ (mStart.front SideId.s0).u 6 2)) ∧ slotCount ((mStart.side SideId.s0).cfgCur (0 : Fin 32)) * widthBits ((mStart.side SideId.s0).cfgCur (0 : Fin 32)) ≤ (mStart.front SideId.s0).u 4 2 ∧ slotCount ((mStart.side SideId.s0).cfgShadow (0 : Fin 32)) * widthBits ((mStart.side SideId.s0).cfgShadow (0 : Fin 32)) ≤ (mStart.front SideId.s0).u 4 2) ∧ (¬((mStart.front SideId.s0).u 2 1 = 1 ∧ (mStart.side SideId.s0).get F.PW_MODE_ARR = 2)) ∧ ((mStart.side SideId.s0).halfRuns (0 : Fin 32) = false) ∧ ((mStart.side SideId.s0).gateOpen 37 = true) ∧ ((mStart.side SideId.s0).clk.closing.testBit 37 = false)) ∧
    (((mStop.front SideId.s0).u 0 1 = (0 : Fin 32).val / 2) ∧ ((mStop.front SideId.s0).u 1 1 = (0 : Fin 32).val % 2) ∧ (mStop.Takes SideId.s0 10 3) ∧ ((mStop.side SideId.s0).gateOpen 37 = true) ∧ ((mStop.side SideId.s0).clk.closing.testBit 37 = false)) ∧
    (((mApply.front SideId.s0).u 0 1 = (0 : Fin 32).val / 2) ∧ ((mApply.front SideId.s0).u 1 1 = (0 : Fin 32).val % 2) ∧ (mApply.Takes SideId.s0 10 4) ∧ ((mApply.side SideId.s0).gateOpen 37 = true) ∧ ((mApply.side SideId.s0).clk.closing.testBit 37 = false) ∧ ((mApply.side SideId.s0).flag (F.AP_CTRL_EN (0 : Fin 32).val) = (mApply.side SideId.s0).halfRuns (0 : Fin 32)) ∧ (((mApply.side SideId.s0).half (0 : Fin 32)).stopping = false)) := by refine ⟨?_, ?_, ?_, ?_, ?_, ?_⟩ <;> (unfold State.Takes; decide +kernel)

theorem witness_PortMessages_2 :
    ((mPdmOut.Takes SideId.s0 10 5) ∧ (((mPdmOut.front SideId.s0).u 0 4).testBit 1 = true) ∧ ((mPdmOut.side SideId.s0).get F.PW_MODE_ARR = 2)) ∧
    ((mPdmRate.Takes SideId.s0 10 5) ∧ (((mPdmRate.front SideId.s0).u 0 4).testBit 1 = true) ∧ ((mPdmRate.side SideId.s0).get F.PW_MODE_ARR ≠ 2) ∧ ((mPdmRate.side SideId.s0).rate % 2 = 0)) ∧
    ((mPdmIn.Takes SideId.s0 10 5) ∧ (((mPdmIn.front SideId.s0).u 0 4).testBit 1 = false ∨ (mPdmIn.side SideId.s0).get F.PW_MODE_ARR ≠ 2 ∧ (mPdmIn.side SideId.s0).rate % 2 = 1) ∧ ((mPdmIn.side SideId.s0).gateOpen 37 = true) ∧ ((mPdmIn.side SideId.s0).clk.closing.testBit 37 = false)) ∧
    ((mWclkBad.Takes SideId.s0 10 6) ∧ (¬((mWclkBad.front SideId.s0).u 0 1 ≤ 7 ∧ (mWclkBad.front SideId.s0).u 1 1 ≤ 1 ∧ (mWclkBad.front SideId.s0).u 2 2 ≤ 2047))) ∧
    ((mWclk.Takes SideId.s0 10 6) ∧ ((mWclk.front SideId.s0).u 0 1 ≤ 7 ∧ (mWclk.front SideId.s0).u 1 1 ≤ 1 ∧ (mWclk.front SideId.s0).u 2 2 ≤ 2047) ∧ ((mWclk.side SideId.s0).gateOpen 37 = true) ∧ ((mWclk.side SideId.s0).clk.closing.testBit 37 = false)) ∧
    ((mGpio.Takes SideId.s0 10 7) ∧ ((mGpio.side SideId.s0).gateOpen 37 = true) ∧ ((mGpio.side SideId.s0).clk.closing.testBit 37 = false)) := by refine ⟨?_, ?_, ?_, ?_, ?_, ?_⟩ <;> (unfold State.Takes; decide +kernel)

theorem witness_PortMessages_3 :
    ((mBridgeBad.Takes SideId.s0 10 8) ∧ (¬((mBridgeBad.front SideId.s0).u 0 1 ≤ 127 ∧ (mBridgeBad.front SideId.s0).u 1 1 ≤ 1 ∧ (mBridgeBad.front SideId.s0).u 2 1 ≤ 1 ∧ (mBridgeBad.front SideId.s0).u 3 1 ≤ 15 ∧ (mBridgeBad.front SideId.s0).u 4 1 ≤ 31 ∧ ((mBridgeBad.front SideId.s0).u 1 1 = 1 → (mBridgeBad.front SideId.s0).u 0 1 < (mBridgeBad.side SideId.s0).bridges)))) ∧
    ((mBridgeMsg.Takes SideId.s0 10 8) ∧ ((mBridgeMsg.front SideId.s0).u 0 1 ≤ 127 ∧ (mBridgeMsg.front SideId.s0).u 1 1 ≤ 1 ∧ (mBridgeMsg.front SideId.s0).u 2 1 ≤ 1 ∧ (mBridgeMsg.front SideId.s0).u 3 1 ≤ 15 ∧ (mBridgeMsg.front SideId.s0).u 4 1 ≤ 31 ∧ ((mBridgeMsg.front SideId.s0).u 1 1 = 1 → (mBridgeMsg.front SideId.s0).u 0 1 < (mBridgeMsg.side SideId.s0).bridges)) ∧ ((mBridgeMsg.side SideId.s0).gateOpen 37 = true) ∧ ((mBridgeMsg.side SideId.s0).clk.closing.testBit 37 = false)) := by refine ⟨?_, ?_⟩ <;> (unfold State.Takes; decide +kernel)

theorem witness_NetMessages_1 :
    ((mPortBad.Takes SideId.s0 11 1) ∧ (1 < (mPortBad.front SideId.s0).u 0 1)) ∧
    ((mPortProf.Takes SideId.s0 11 1) ∧ ((mPortProf.front SideId.s0).u 0 1 = (0 : Fin 2).val) ∧ (¬((mPortProf.front SideId.s0).u 1 1 ≤ 3 ∧ (mPortProf.front SideId.s0).u 2 1 ≤ 1 ∧ (mPortProf.front SideId.s0).u 3 1 ≤ 2 ∧ (mPortProf.front SideId.s0).u 4 1 ≤ 127 ∧ ((mPortProf.front SideId.s0).u 3 1 = 2 → (mPortProf.front SideId.s0).u 4 1 = 0) ∧ ((mPortProf.front SideId.s0).u 2 1 = 1 → (mPortProf.front SideId.s0).u 1 1 = 3)))) ∧
    ((mPortRate.Takes SideId.s0 11 1) ∧ ((mPortRate.front SideId.s0).u 0 1 = (0 : Fin 2).val) ∧ ((mPortRate.front SideId.s0).u 1 1 ≤ 3 ∧ (mPortRate.front SideId.s0).u 2 1 ≤ 1 ∧ (mPortRate.front SideId.s0).u 3 1 ≤ 2 ∧ (mPortRate.front SideId.s0).u 4 1 ≤ 127 ∧ ((mPortRate.front SideId.s0).u 3 1 = 2 → (mPortRate.front SideId.s0).u 4 1 = 0) ∧ ((mPortRate.front SideId.s0).u 2 1 = 1 → (mPortRate.front SideId.s0).u 1 1 = 3)) ∧ ((mPortRate.front SideId.s0).u 1 1 ≠ (mPortRate.side SideId.s0).get (if (0 : Fin 2).val = 0 then F.CK_SERPLL_RATE1 else F.CK_SERPLL_RATE2))) ∧
    ((mPort.Takes SideId.s0 11 1) ∧ ((mPort.front SideId.s0).u 0 1 = (0 : Fin 2).val) ∧ ((mPort.front SideId.s0).u 1 1 ≤ 3 ∧ (mPort.front SideId.s0).u 2 1 ≤ 1 ∧ (mPort.front SideId.s0).u 3 1 ≤ 2 ∧ (mPort.front SideId.s0).u 4 1 ≤ 127 ∧ ((mPort.front SideId.s0).u 3 1 = 2 → (mPort.front SideId.s0).u 4 1 = 0) ∧ ((mPort.front SideId.s0).u 2 1 = 1 → (mPort.front SideId.s0).u 1 1 = 3)) ∧ ((mPort.front SideId.s0).u 1 1 = (mPort.side SideId.s0).get (if (0 : Fin 2).val = 0 then F.CK_SERPLL_RATE1 else F.CK_SERPLL_RATE2))) ∧
    ((mFlowSetBad.Takes SideId.s0 11 2) ∧ (¬((mFlowSetBad.front SideId.s0).u 0 2 ≤ 255 ∧ (mFlowSetBad.front SideId.s0).u (4 + 4 * 0) 4 / 4 % 4 ≠ 3 ∧ (96 ≤ (mFlowSetBad.front SideId.s0).u (4 + 4 * 0) 4 / 2 ^ 12 % 2 ^ 7 ∨ (mFlowSetBad.front SideId.s0).u (4 + 4 * 0) 4 / 2 ^ 12 % 2 ^ 7 = 0 ∧ (mFlowSetBad.front SideId.s0).u 0 2 < 128) ∧ if (mFlowSetBad.front SideId.s0).u 0 2 < 128 then (mFlowSetBad.front SideId.s0).u (4 + 4 * 1) 4 / 65536 % 2048 ≤ (mFlowSetBad.front SideId.s0).u (4 + 4 * 2) 4 % 2048 else (mFlowSetBad.front SideId.s0).u (4 + 4 * 1) 4 / 65536 % 2048 < (mFlowSetBad.front SideId.s0).u (4 + 4 * 1) 4 % 1024))) ∧
    ((mFlowSetOn.Takes SideId.s0 11 2) ∧ ((mFlowSetOn.front SideId.s0).u 0 2 ≤ 255 ∧ (mFlowSetOn.front SideId.s0).u (4 + 4 * 0) 4 / 4 % 4 ≠ 3 ∧ (96 ≤ (mFlowSetOn.front SideId.s0).u (4 + 4 * 0) 4 / 2 ^ 12 % 2 ^ 7 ∨ (mFlowSetOn.front SideId.s0).u (4 + 4 * 0) 4 / 2 ^ 12 % 2 ^ 7 = 0 ∧ (mFlowSetOn.front SideId.s0).u 0 2 < 128) ∧ if (mFlowSetOn.front SideId.s0).u 0 2 < 128 then (mFlowSetOn.front SideId.s0).u (4 + 4 * 1) 4 / 65536 % 2048 ≤ (mFlowSetOn.front SideId.s0).u (4 + 4 * 2) 4 % 2048 else (mFlowSetOn.front SideId.s0).u (4 + 4 * 1) 4 / 65536 % 2048 < (mFlowSetOn.front SideId.s0).u (4 + 4 * 1) 4 % 1024) ∧ ((mFlowSetOn.side SideId.s0).flowOn ((mFlowSetOn.front SideId.s0).u 0 2) = true)) := by refine ⟨?_, ?_, ?_, ?_, ?_, ?_⟩ <;> (unfold State.Takes; decide +kernel)

theorem witness_NetMessages_2 :
    ((mFlowSet.Takes SideId.s0 11 2) ∧ ((mFlowSet.front SideId.s0).u 0 2 ≤ 255 ∧ (mFlowSet.front SideId.s0).u (4 + 4 * 0) 4 / 4 % 4 ≠ 3 ∧ (96 ≤ (mFlowSet.front SideId.s0).u (4 + 4 * 0) 4 / 2 ^ 12 % 2 ^ 7 ∨ (mFlowSet.front SideId.s0).u (4 + 4 * 0) 4 / 2 ^ 12 % 2 ^ 7 = 0 ∧ (mFlowSet.front SideId.s0).u 0 2 < 128) ∧ if (mFlowSet.front SideId.s0).u 0 2 < 128 then (mFlowSet.front SideId.s0).u (4 + 4 * 1) 4 / 65536 % 2048 ≤ (mFlowSet.front SideId.s0).u (4 + 4 * 2) 4 % 2048 else (mFlowSet.front SideId.s0).u (4 + 4 * 1) 4 / 65536 % 2048 < (mFlowSet.front SideId.s0).u (4 + 4 * 1) 4 % 1024) ∧ ((mFlowSet.side SideId.s0).flowOn ((mFlowSet.front SideId.s0).u 0 2) = false) ∧ ((mFlowSet.side SideId.s0).gateOpen 38 = true) ∧ ((mFlowSet.side SideId.s0).clk.closing.testBit 38 = false) ∧ ((mFlowSet.side SideId.s0).upsets = []) ∧ ((mFlowSet.side SideId.s0).bankOn 49 = true) ∧ ((mFlowSet.side SideId.s0).flag (F.MM_BANK_TESTING 49) = false)) ∧
    ((mFlowEnBad.Takes SideId.s0 11 4) ∧ (255 < (mFlowEnBad.front SideId.s0).u 0 2 ∨ 1 < (mFlowEnBad.front SideId.s0).u 2 1)) ∧
    ((mFlowEnOff.Takes SideId.s0 11 4) ∧ ((mFlowEnOff.front SideId.s0).u 0 2 ≤ 255) ∧ ((mFlowEnOff.front SideId.s0).u 2 1 ≤ 1) ∧ ((mFlowEnOff.front SideId.s0).u 2 1 = ((mFlowEnOff.side SideId.s0).flowOn ((mFlowEnOff.front SideId.s0).u 0 2)).toNat)) ∧
    ((mFlowEnSize.Takes SideId.s0 11 4) ∧ ((mFlowEnSize.front SideId.s0).u 0 2 ≤ 255) ∧ ((mFlowEnSize.front SideId.s0).u 2 1 = 1) ∧ ((mFlowEnSize.side SideId.s0).flowOn ((mFlowEnSize.front SideId.s0).u 0 2) = false) ∧ (¬((rateHz (mFlowEnSize.side SideId.s0).rate + 7999) / 8000 ≤ (mFlowEnSize.side SideId.s0).flowP ((mFlowEnSize.front SideId.s0).u 0 2) ∧ (mFlowEnSize.side SideId.s0).flowP ((mFlowEnSize.front SideId.s0).u 0 2) ≤ rateHz (mFlowEnSize.side SideId.s0).rate / 250 ∧ (mFlowEnSize.side SideId.s0).flowFormat ((mFlowEnSize.front SideId.s0).u 0 2) ≠ 3 ∧ (mFlowEnSize.side SideId.s0).flowChannels ((mFlowEnSize.front SideId.s0).u 0 2) * (mFlowEnSize.side SideId.s0).flowP ((mFlowEnSize.front SideId.s0).u 0 2) * sampleBytes ((mFlowEnSize.side SideId.s0).flowFormat ((mFlowEnSize.front SideId.s0).u 0 2)) ≤ 1440 ∧ (List.map (mFlowEnSize.side SideId.s0).flowChannels ((mFlowEnSize.side SideId.s0).flowsOn (if (mFlowEnSize.front SideId.s0).u 0 2 < 128 then 0 else 128) (if (mFlowEnSize.front SideId.s0).u 0 2 < 128 then 128 else 256) ++ [(mFlowEnSize.front SideId.s0).u 0 2])).sum ≤ if (mFlowEnSize.side SideId.s0).rate ≤ 3 then 2048 else 1024))) ∧
    ((mFlowEnStored.Takes SideId.s0 11 4) ∧ ((mFlowEnStored.front SideId.s0).u 0 2 ≤ 255) ∧ ((mFlowEnStored.front SideId.s0).u 2 1 = 1) ∧ ((mFlowEnStored.side SideId.s0).flowOn ((mFlowEnStored.front SideId.s0).u 0 2) = false) ∧ ((rateHz (mFlowEnStored.side SideId.s0).rate + 7999) / 8000 ≤ (mFlowEnStored.side SideId.s0).flowP ((mFlowEnStored.front SideId.s0).u 0 2) ∧ (mFlowEnStored.side SideId.s0).flowP ((mFlowEnStored.front SideId.s0).u 0 2) ≤ rateHz (mFlowEnStored.side SideId.s0).rate / 250 ∧ (mFlowEnStored.side SideId.s0).flowFormat ((mFlowEnStored.front SideId.s0).u 0 2) ≠ 3 ∧ (mFlowEnStored.side SideId.s0).flowChannels ((mFlowEnStored.front SideId.s0).u 0 2) * (mFlowEnStored.side SideId.s0).flowP ((mFlowEnStored.front SideId.s0).u 0 2) * sampleBytes ((mFlowEnStored.side SideId.s0).flowFormat ((mFlowEnStored.front SideId.s0).u 0 2)) ≤ 1440 ∧ (List.map (mFlowEnStored.side SideId.s0).flowChannels ((mFlowEnStored.side SideId.s0).flowsOn (if (mFlowEnStored.front SideId.s0).u 0 2 < 128 then 0 else 128) (if (mFlowEnStored.front SideId.s0).u 0 2 < 128 then 128 else 256) ++ [(mFlowEnStored.front SideId.s0).u 0 2])).sum ≤ if (mFlowEnStored.side SideId.s0).rate ≤ 3 then 2048 else 1024) ∧ ((mFlowEnStored.front SideId.s0).u 0 2 < 128) ∧ (¬(List.map (fun f => (mFlowEnStored.side SideId.s0).flowChannels f * (2 * (mFlowEnStored.side SideId.s0).flowP f + (mFlowEnStored.side SideId.s0).flowOMax f) * 4) ((mFlowEnStored.side SideId.s0).flowsOn (if (mFlowEnStored.front SideId.s0).u 0 2 < 128 then 0 else 128) (if (mFlowEnStored.front SideId.s0).u 0 2 < 128 then 128 else 256) ++ [(mFlowEnStored.front SideId.s0).u 0 2])).sum ≤ 3 * 2 ^ 20)) ∧
    ((mFlowEnBank.Takes SideId.s0 11 4) ∧ ((mFlowEnBank.front SideId.s0).u 0 2 ≤ 255) ∧ ((mFlowEnBank.front SideId.s0).u 2 1 = 1) ∧ ((mFlowEnBank.side SideId.s0).flowOn ((mFlowEnBank.front SideId.s0).u 0 2) = false) ∧ ((rateHz (mFlowEnBank.side SideId.s0).rate + 7999) / 8000 ≤ (mFlowEnBank.side SideId.s0).flowP ((mFlowEnBank.front SideId.s0).u 0 2) ∧ (mFlowEnBank.side SideId.s0).flowP ((mFlowEnBank.front SideId.s0).u 0 2) ≤ rateHz (mFlowEnBank.side SideId.s0).rate / 250 ∧ (mFlowEnBank.side SideId.s0).flowFormat ((mFlowEnBank.front SideId.s0).u 0 2) ≠ 3 ∧ (mFlowEnBank.side SideId.s0).flowChannels ((mFlowEnBank.front SideId.s0).u 0 2) * (mFlowEnBank.side SideId.s0).flowP ((mFlowEnBank.front SideId.s0).u 0 2) * sampleBytes ((mFlowEnBank.side SideId.s0).flowFormat ((mFlowEnBank.front SideId.s0).u 0 2)) ≤ 1440 ∧ (List.map (mFlowEnBank.side SideId.s0).flowChannels ((mFlowEnBank.side SideId.s0).flowsOn (if (mFlowEnBank.front SideId.s0).u 0 2 < 128 then 0 else 128) (if (mFlowEnBank.front SideId.s0).u 0 2 < 128 then 128 else 256) ++ [(mFlowEnBank.front SideId.s0).u 0 2])).sum ≤ if (mFlowEnBank.side SideId.s0).rate ≤ 3 then 2048 else 1024) ∧ ((mFlowEnBank.front SideId.s0).u 0 2 < 128) ∧ ((List.map (fun f => (mFlowEnBank.side SideId.s0).flowChannels f * (2 * (mFlowEnBank.side SideId.s0).flowP f + (mFlowEnBank.side SideId.s0).flowOMax f) * 4) ((mFlowEnBank.side SideId.s0).flowsOn (if (mFlowEnBank.front SideId.s0).u 0 2 < 128 then 0 else 128) (if (mFlowEnBank.front SideId.s0).u 0 2 < 128 then 128 else 256) ++ [(mFlowEnBank.front SideId.s0).u 0 2])).sum ≤ 3 * 2 ^ 20) ∧ ((mFlowEnBank.side SideId.s0).bankOn 49 = false)) := by refine ⟨?_, ?_, ?_, ?_, ?_, ?_⟩ <;> (unfold State.Takes; decide +kernel)

theorem witness_NetMessages_3 :
    ((mFlowEn.Takes SideId.s0 11 4) ∧ ((mFlowEn.front SideId.s0).u 0 2 ≤ 255) ∧ ((mFlowEn.front SideId.s0).u 2 1 = 1) ∧ ((mFlowEn.side SideId.s0).flowOn ((mFlowEn.front SideId.s0).u 0 2) = false) ∧ ((rateHz (mFlowEn.side SideId.s0).rate + 7999) / 8000 ≤ (mFlowEn.side SideId.s0).flowP ((mFlowEn.front SideId.s0).u 0 2) ∧ (mFlowEn.side SideId.s0).flowP ((mFlowEn.front SideId.s0).u 0 2) ≤ rateHz (mFlowEn.side SideId.s0).rate / 250 ∧ (mFlowEn.side SideId.s0).flowFormat ((mFlowEn.front SideId.s0).u 0 2) ≠ 3 ∧ (mFlowEn.side SideId.s0).flowChannels ((mFlowEn.front SideId.s0).u 0 2) * (mFlowEn.side SideId.s0).flowP ((mFlowEn.front SideId.s0).u 0 2) * sampleBytes ((mFlowEn.side SideId.s0).flowFormat ((mFlowEn.front SideId.s0).u 0 2)) ≤ 1440 ∧ (List.map (mFlowEn.side SideId.s0).flowChannels ((mFlowEn.side SideId.s0).flowsOn (if (mFlowEn.front SideId.s0).u 0 2 < 128 then 0 else 128) (if (mFlowEn.front SideId.s0).u 0 2 < 128 then 128 else 256) ++ [(mFlowEn.front SideId.s0).u 0 2])).sum ≤ if (mFlowEn.side SideId.s0).rate ≤ 3 then 2048 else 1024) ∧ ((mFlowEn.front SideId.s0).u 0 2 < 128) ∧ ((List.map (fun f => (mFlowEn.side SideId.s0).flowChannels f * (2 * (mFlowEn.side SideId.s0).flowP f + (mFlowEn.side SideId.s0).flowOMax f) * 4) ((mFlowEn.side SideId.s0).flowsOn (if (mFlowEn.front SideId.s0).u 0 2 < 128 then 0 else 128) (if (mFlowEn.front SideId.s0).u 0 2 < 128 then 128 else 256) ++ [(mFlowEn.front SideId.s0).u 0 2])).sum ≤ 3 * 2 ^ 20) ∧ ((mFlowEn.side SideId.s0).bankOn 49 = true) ∧ ((mFlowEn.side SideId.s0).upsets = [])) ∧
    ((mChstatusBad.Takes SideId.s0 11 5) ∧ (255 < (mChstatusBad.front SideId.s0).u 0 2)) ∧
    ((mChstatus.Takes SideId.s0 11 5) ∧ ((mChstatus.front SideId.s0).u 0 2 ≤ 255)) ∧
    ((mBufferLong.Takes SideId.s0 11 6) ∧ (1472 < (mBufferLong.front SideId.s0).len - 20 ∨ (mBufferLong.front SideId.s0).len - 20 < (mBufferLong.front SideId.s0).u 16 2)) ∧
    ((mBufferBad.Takes SideId.s0 11 6) ∧ (¬(1472 < (mBufferBad.front SideId.s0).len - 20 ∨ (mBufferBad.front SideId.s0).len - 20 < (mBufferBad.front SideId.s0).u 16 2)) ∧ (¬((mBufferBad.front SideId.s0).u 16 2 ≠ 0 ∧ (mBufferBad.front SideId.s0).u 12 1 ≤ 63 ∧ (mBufferBad.front SideId.s0).u 13 1 ≠ 0))) ∧
    ((mBufferBank.Takes SideId.s0 11 6) ∧ (¬(1472 < (mBufferBank.front SideId.s0).len - 20 ∨ (mBufferBank.front SideId.s0).len - 20 < (mBufferBank.front SideId.s0).u 16 2)) ∧ ((mBufferBank.front SideId.s0).u 16 2 ≠ 0 ∧ (mBufferBank.front SideId.s0).u 12 1 ≤ 63 ∧ (mBufferBank.front SideId.s0).u 13 1 ≠ 0) ∧ ((mBufferBank.side SideId.s0).bufferHeld ((mBufferBank.front SideId.s0).u 0 1) = true ∨ (mBufferBank.side SideId.s0).bankOn 49 = false)) := by refine ⟨?_, ?_, ?_, ?_, ?_, ?_⟩ <;> (unfold State.Takes; decide +kernel)

theorem witness_NetMessages_4 :
    ((mBuffer.Takes SideId.s0 11 6) ∧ (¬(1472 < (mBuffer.front SideId.s0).len - 20 ∨ (mBuffer.front SideId.s0).len - 20 < (mBuffer.front SideId.s0).u 16 2)) ∧ ((mBuffer.front SideId.s0).u 16 2 ≠ 0 ∧ (mBuffer.front SideId.s0).u 12 1 ≤ 63 ∧ (mBuffer.front SideId.s0).u 13 1 ≠ 0) ∧ ((mBuffer.side SideId.s0).bufferHeld ((mBuffer.front SideId.s0).u 0 1) = false) ∧ ((mBuffer.side SideId.s0).bankOn 49 = true) ∧ ((mBuffer.side SideId.s0).upsets = []) ∧ ((mBuffer.front SideId.s0).u 4 4 / 2 ^ 28 = 14 ∨ (mBuffer.front SideId.s0).u 4 4 = 2 ^ 32 - 1)) ∧
    ((mBuffer.Takes SideId.s0 11 6) ∧ (¬(1472 < (mBuffer.front SideId.s0).len - 20 ∨ (mBuffer.front SideId.s0).len - 20 < (mBuffer.front SideId.s0).u 16 2)) ∧ ((mBuffer.front SideId.s0).u 16 2 ≠ 0 ∧ (mBuffer.front SideId.s0).u 12 1 ≤ 63 ∧ (mBuffer.front SideId.s0).u 13 1 ≠ 0) ∧ ((mBuffer.side SideId.s0).bufferHeld ((mBuffer.front SideId.s0).u 0 1) = false) ∧ ((mBuffer.side SideId.s0).bankOn 49 = true) ∧ ((mBuffer.side SideId.s0).upsets = []) ∧ ((mBuffer.front SideId.s0).u 4 4 / 2 ^ 28 = 14)) := by refine ⟨?_, ?_⟩ <;> (unfold State.Takes; decide +kernel)

theorem witness_TwinMessages_1 :
    ((mTwinBad.Takes SideId.s0 13 1) ∧ (1 < (mTwinBad.front SideId.s0).u 8 1)) ∧
    ((mTwinBanks.Takes SideId.s0 13 1) ∧ ((mTwinBanks.front SideId.s0).u 8 1 ≤ 1) ∧ ((mTwinBanks.side SideId.s0).unitBanksOn = false)) ∧
    ((mTwinLate.Takes SideId.s0 13 1) ∧ ((mTwinLate.front SideId.s0).u 8 1 ≤ 1) ∧ ((mTwinLate.side SideId.s0).unitBanksOn = true) ∧ ((mTwinLate.front SideId.s0).u 0 8 < (mTwinLate.side SideId.s0).row + 4)) ∧
    ((mTwinUnfit.Takes SideId.s0 13 1) ∧ ((mTwinUnfit.front SideId.s0).u 8 1 ≤ 1) ∧ ((mTwinUnfit.side SideId.s0).unitBanksOn = true) ∧ (¬(mTwinUnfit.front SideId.s0).u 0 8 < (mTwinUnfit.side SideId.s0).row + 4) ∧ (¬if (mTwinUnfit.front SideId.s0).u 8 1 = SideId.s0.num then (mTwinUnfit.side SideId.s0).fw.pattern ≠ none ∧ mTwinUnfit.host.get F.HP_SEAM_TOKEN_OWNER = 3 else (mTwinUnfit.side SideId.s0).fw.pattern ≠ none ∧ Option.map (fun p => imgU p.header 8 8) (mTwinUnfit.side SideId.s0).fw.pattern = Option.map (fun p => imgU p.header 8 8) (mTwinUnfit.side SideId.s0.other).fw.pattern)) ∧
    ((mTwinLead.Takes SideId.s0 13 1) ∧ ((mTwinLead.front SideId.s0).u 8 1 ≤ 1) ∧ ((mTwinLead.side SideId.s0).unitBanksOn = true) ∧ (¬(mTwinLead.front SideId.s0).u 0 8 < (mTwinLead.side SideId.s0).row + 4) ∧ (if (mTwinLead.front SideId.s0).u 8 1 = SideId.s0.num then (mTwinLead.side SideId.s0).fw.pattern ≠ none ∧ mTwinLead.host.get F.HP_SEAM_TOKEN_OWNER = 3 else (mTwinLead.side SideId.s0).fw.pattern ≠ none ∧ Option.map (fun p => imgU p.header 8 8) (mTwinLead.side SideId.s0).fw.pattern = Option.map (fun p => imgU p.header 8 8) (mTwinLead.side SideId.s0.other).fw.pattern)) ∧
    ((mCableLate.Takes SideId.s0 13 2) ∧ ((mCableLate.front SideId.s0).u 0 8 < (mCableLate.side SideId.s0).row + 4)) := by refine ⟨?_, ?_, ?_, ?_, ?_, ?_⟩ <;> (unfold State.Takes; decide +kernel)

theorem witness_TwinMessages_2 :
    ((mCable.Takes SideId.s0 13 2) ∧ (¬(mCable.front SideId.s0).u 0 8 < (mCable.side SideId.s0).row + 4) ∧ (¬((mCable.side SideId.s0).get F.TW_HAND_KIND ≠ 0 ∧ ((mCable.side SideId.s0).get F.TW_HAND_STATE = 1 ∨ (mCable.side SideId.s0).get F.TW_HAND_STATE = 2) ∨ ∃ p, p ∈ (mCable.side SideId.s0).twin.plans ∧ p.snd = RoleChange.cable))) ∧
    ((mCablePending.Takes SideId.s0 13 2) ∧ (¬(mCablePending.front SideId.s0).u 0 8 < (mCablePending.side SideId.s0).row + 4) ∧ ((mCablePending.side SideId.s0).get F.TW_HAND_KIND ≠ 0 ∧ ((mCablePending.side SideId.s0).get F.TW_HAND_STATE = 1 ∨ (mCablePending.side SideId.s0).get F.TW_HAND_STATE = 2) ∨ ∃ p, p ∈ (mCablePending.side SideId.s0).twin.plans ∧ p.snd = RoleChange.cable)) ∧
    ((mBlendShort.Takes SideId.s0 13 3) ∧ ((mBlendShort.front SideId.s0).u 8 2 < 96)) ∧
    ((mBlendLate.Takes SideId.s0 13 3) ∧ (96 ≤ (mBlendLate.front SideId.s0).u 8 2) ∧ ((mBlendLate.front SideId.s0).u 0 8 < (mBlendLate.side SideId.s0).row + 4)) ∧
    ((mBlendUnfit.Takes SideId.s0 13 3) ∧ (96 ≤ (mBlendUnfit.front SideId.s0).u 8 2) ∧ (¬(mBlendUnfit.front SideId.s0).u 0 8 < (mBlendUnfit.side SideId.s0).row + 4) ∧ (¬(((mBlendUnfit.side SideId.s0).mode = Mode.rework ∧ (mBlendUnfit.side SideId.s0.other).mode = Mode.lead ∧ (mBlendUnfit.side SideId.s0).flag F.PB_CTRL_RUN = true ∨ (mBlendUnfit.side SideId.s0.other).mode = Mode.rework ∧ (mBlendUnfit.side SideId.s0).mode = Mode.lead ∧ (mBlendUnfit.side SideId.s0.other).flag F.PB_CTRL_RUN = true) ∧ ((mBlendUnfit.side SideId.s0).fw.pattern ≠ none ∧ Option.map (fun p => imgU p.header 16 8) (mBlendUnfit.side SideId.s0).fw.pattern = Option.map (fun p => imgU p.header 16 8) (mBlendUnfit.side SideId.s0.other).fw.pattern) ∧ ((mBlendUnfit.side SideId.s0).fw.pattern ≠ none ∧ Option.map (fun p => imgU p.header 6 1) (mBlendUnfit.side SideId.s0).fw.pattern = Option.map (fun p => imgU p.header 6 1) (mBlendUnfit.side SideId.s0.other).fw.pattern) ∧ ((mBlendUnfit.side SideId.s0).linkHeard = true ∧ (mBlendUnfit.side SideId.s0).seamHeard = true) ∧ ¬((mBlendUnfit.side SideId.s0).get F.TW_HAND_KIND ≠ 0 ∧ ((mBlendUnfit.side SideId.s0).get F.TW_HAND_STATE = 1 ∨ (mBlendUnfit.side SideId.s0).get F.TW_HAND_STATE = 2) ∨ ∃ p, p ∈ (mBlendUnfit.side SideId.s0).twin.plans ∧ p.snd = RoleChange.cable)))) ∧
    ((mBlendMsg.Takes SideId.s0 13 3) ∧ (96 ≤ (mBlendMsg.front SideId.s0).u 8 2) ∧ (¬(mBlendMsg.front SideId.s0).u 0 8 < (mBlendMsg.side SideId.s0).row + 4) ∧ (((mBlendMsg.side SideId.s0).mode = Mode.rework ∧ (mBlendMsg.side SideId.s0.other).mode = Mode.lead ∧ (mBlendMsg.side SideId.s0).flag F.PB_CTRL_RUN = true ∨ (mBlendMsg.side SideId.s0.other).mode = Mode.rework ∧ (mBlendMsg.side SideId.s0).mode = Mode.lead ∧ (mBlendMsg.side SideId.s0.other).flag F.PB_CTRL_RUN = true) ∧ ((mBlendMsg.side SideId.s0).fw.pattern ≠ none ∧ Option.map (fun p => imgU p.header 16 8) (mBlendMsg.side SideId.s0).fw.pattern = Option.map (fun p => imgU p.header 16 8) (mBlendMsg.side SideId.s0.other).fw.pattern) ∧ ((mBlendMsg.side SideId.s0).fw.pattern ≠ none ∧ Option.map (fun p => imgU p.header 6 1) (mBlendMsg.side SideId.s0).fw.pattern = Option.map (fun p => imgU p.header 6 1) (mBlendMsg.side SideId.s0.other).fw.pattern) ∧ ((mBlendMsg.side SideId.s0).linkHeard = true ∧ (mBlendMsg.side SideId.s0).seamHeard = true) ∧ ¬((mBlendMsg.side SideId.s0).get F.TW_HAND_KIND ≠ 0 ∧ ((mBlendMsg.side SideId.s0).get F.TW_HAND_STATE = 1 ∨ (mBlendMsg.side SideId.s0).get F.TW_HAND_STATE = 2) ∨ ∃ p, p ∈ (mBlendMsg.side SideId.s0).twin.plans ∧ p.snd = RoleChange.cable))) := by refine ⟨?_, ?_, ?_, ?_, ?_, ?_⟩ <;> (unfold State.Takes; decide +kernel)

theorem witness_TwinMessages_3 :
    ((mReworkLate.Takes SideId.s0 13 4) ∧ ((mReworkLate.front SideId.s0).u 0 8 < (mReworkLate.side SideId.s0).row + 4)) ∧
    ((mReworkMsg.Takes SideId.s0 13 4) ∧ (¬(mReworkMsg.front SideId.s0).u 0 8 < (mReworkMsg.side SideId.s0).row + 4)) ∧
    ((mSplitLate.Takes SideId.s0 13 6) ∧ ((mSplitLate.front SideId.s0).u 0 8 < (mSplitLate.side SideId.s0).row + 4)) ∧
    ((mSplit.Takes SideId.s0 13 6) ∧ (¬(mSplit.front SideId.s0).u 0 8 < (mSplit.side SideId.s0).row + 4)) ∧
    ((mJoinLate.Takes SideId.s0 13 7) ∧ ((mJoinLate.front SideId.s0).u 0 8 < (mJoinLate.side SideId.s0).row + 4)) ∧
    ((mJoin.Takes SideId.s0 13 7) ∧ (¬(mJoin.front SideId.s0).u 0 8 < (mJoin.side SideId.s0).row + 4) ∧ (¬((mJoin.side SideId.s0).mode = Mode.solo ∧ (mJoin.side SideId.s0.other).mode = Mode.ready ∨ (mJoin.side SideId.s0).mode = Mode.ready ∧ (mJoin.side SideId.s0.other).mode = Mode.solo))) := by refine ⟨?_, ?_, ?_, ?_, ?_, ?_⟩ <;> (unfold State.Takes; decide +kernel)

theorem witness_TwinMessages_4 :
    ((mJoinFit.Takes SideId.s0 13 7) ∧ (¬(mJoinFit.front SideId.s0).u 0 8 < (mJoinFit.side SideId.s0).row + 4) ∧ ((mJoinFit.side SideId.s0).mode = Mode.solo ∧ (mJoinFit.side SideId.s0.other).mode = Mode.ready ∨ (mJoinFit.side SideId.s0).mode = Mode.ready ∧ (mJoinFit.side SideId.s0.other).mode = Mode.solo)) ∧
    ((mRejoinUnfit.Takes SideId.s0 13 5) ∧ (¬((mRejoinUnfit.side SideId.s0).mode = Mode.rework ∧ (mRejoinUnfit.side SideId.s0.other).mode = Mode.lead ∧ (mRejoinUnfit.side SideId.s0).flag F.PB_CTRL_RUN = true ∧ ((mRejoinUnfit.side SideId.s0).fw.pattern ≠ none ∧ Option.map (fun p => imgU p.header 8 8) (mRejoinUnfit.side SideId.s0).fw.pattern = Option.map (fun p => imgU p.header 8 8) (mRejoinUnfit.side SideId.s0.other).fw.pattern) ∧ ((mRejoinUnfit.side SideId.s0).linkHeard = true ∧ (mRejoinUnfit.side SideId.s0).seamHeard = true) ∧ ¬(1 ≤ (mRejoinUnfit.side SideId.s0).get F.TW_MIR_STATE ∧ (mRejoinUnfit.side SideId.s0).get F.TW_MIR_STATE ≤ 5) ∧ ¬((mRejoinUnfit.side SideId.s0).get F.TW_HAND_KIND = 2 ∧ (mRejoinUnfit.side SideId.s0).get F.TW_HAND_STATE = 2)))) ∧
    ((mRejoin.Takes SideId.s0 13 5) ∧ ((mRejoin.side SideId.s0).mode = Mode.rework ∧ (mRejoin.side SideId.s0.other).mode = Mode.lead ∧ (mRejoin.side SideId.s0).flag F.PB_CTRL_RUN = true ∧ ((mRejoin.side SideId.s0).fw.pattern ≠ none ∧ Option.map (fun p => imgU p.header 8 8) (mRejoin.side SideId.s0).fw.pattern = Option.map (fun p => imgU p.header 8 8) (mRejoin.side SideId.s0.other).fw.pattern) ∧ ((mRejoin.side SideId.s0).linkHeard = true ∧ (mRejoin.side SideId.s0).seamHeard = true) ∧ ¬(1 ≤ (mRejoin.side SideId.s0).get F.TW_MIR_STATE ∧ (mRejoin.side SideId.s0).get F.TW_MIR_STATE ≤ 5) ∧ ¬((mRejoin.side SideId.s0).get F.TW_HAND_KIND = 2 ∧ (mRejoin.side SideId.s0).get F.TW_HAND_STATE = 2))) ∧
    ((mConfigBad.Takes SideId.s0 13 8) ∧ (¬((mConfigBad.front SideId.s0).u 1 1 ≤ 1 ∧ (mConfigBad.front SideId.s0).u 2 1 ≤ 1 ∧ (mConfigBad.front SideId.s0).u 3 1 ≤ 1))) ∧
    ((mConfig.Takes SideId.s0 13 8) ∧ ((mConfig.front SideId.s0).u 1 1 ≤ 1 ∧ (mConfig.front SideId.s0).u 2 1 ≤ 1 ∧ (mConfig.front SideId.s0).u 3 1 ≤ 1)) := by refine ⟨?_, ?_, ?_, ?_, ?_⟩ <;> (unfold State.Takes; decide +kernel)

theorem witness_MemoryMessages_1 :
    ((mBankBad.Takes SideId.s0 14 1) ∧ (51 < (mBankBad.front SideId.s0).u 0 1 ∨ 2 < (mBankBad.front SideId.s0).u 1 1)) ∧
    ((mBankBusy.Takes SideId.s0 14 1) ∧ ((mBankBusy.front SideId.s0).u 0 1 ≤ 51) ∧ ((mBankBusy.front SideId.s0).u 1 1 ≤ 2) ∧ ((mBankBusy.side SideId.s0).bankIdle ((mBankBusy.front SideId.s0).u 0 1) = false)) ∧
    ((mBank.Takes SideId.s0 14 1) ∧ ((mBank.front SideId.s0).u 0 1 ≤ 51) ∧ ((mBank.front SideId.s0).u 1 1 ≤ 2) ∧ ((mBank.side SideId.s0).bankIdle ((mBank.front SideId.s0).u 0 1) = true)) ∧
    ((mSwatchBad.Takes SideId.s0 14 2) ∧ (¬(((mSwatchBad.front SideId.s0).u 0 1 ≤ 51 ∨ (mSwatchBad.front SideId.s0).u 0 1 = 255) ∧ (mSwatchBad.front SideId.s0).u 1 1 ≤ 1 ∧ (mSwatchBad.front SideId.s0).u 2 1 ≤ 1 ∧ ((mSwatchBad.front SideId.s0).u 2 1 = 1 → (mSwatchBad.front SideId.s0).u 1 1 = 0)))) ∧
    ((mSwatchBusy.Takes SideId.s0 14 2) ∧ (((mSwatchBusy.front SideId.s0).u 0 1 ≤ 51 ∨ (mSwatchBusy.front SideId.s0).u 0 1 = 255) ∧ (mSwatchBusy.front SideId.s0).u 1 1 ≤ 1 ∧ (mSwatchBusy.front SideId.s0).u 2 1 ≤ 1 ∧ ((mSwatchBusy.front SideId.s0).u 2 1 = 1 → (mSwatchBusy.front SideId.s0).u 1 1 = 0)) ∧ (¬((mSwatchBusy.side SideId.s0).swatch = none ∧ ∀ (b : Nat), (b ∈ if (mSwatchBusy.front SideId.s0).u 0 1 = 255 then List.range 48 ++ [49, 50] else [(mSwatchBusy.front SideId.s0).u 0 1]) → (b ≤ 47 ∨ b = 49 ∨ b = 50) ∧ (mSwatchBusy.side SideId.s0).bankIdle b = true))) ∧
    ((mSwatch.Takes SideId.s0 14 2) ∧ (((mSwatch.front SideId.s0).u 0 1 ≤ 51 ∨ (mSwatch.front SideId.s0).u 0 1 = 255) ∧ (mSwatch.front SideId.s0).u 1 1 ≤ 1 ∧ (mSwatch.front SideId.s0).u 2 1 ≤ 1 ∧ ((mSwatch.front SideId.s0).u 2 1 = 1 → (mSwatch.front SideId.s0).u 1 1 = 0)) ∧ ((mSwatch.side SideId.s0).swatch = none ∧ ∀ (b : Nat), (b ∈ if (mSwatch.front SideId.s0).u 0 1 = 255 then List.range 48 ++ [49, 50] else [(mSwatch.front SideId.s0).u 0 1]) → (b ≤ 47 ∨ b = 49 ∨ b = 50) ∧ (mSwatch.side SideId.s0).bankIdle b = true)) := by refine ⟨?_, ?_, ?_, ?_, ?_, ?_⟩ <;> (unfold State.Takes; decide +kernel)

theorem witness_MemoryMessages_2 :
    ((mEccClearBad.Takes SideId.s0 14 3) ∧ (51 < (mEccClearBad.front SideId.s0).u 0 1)) ∧
    ((mEccClear.Takes SideId.s0 14 3) ∧ ((mEccClear.front SideId.s0).u 0 1 ≤ 51)) ∧
    ((mLendBad.Takes SideId.s0 15 1) ∧ (¬(12 ≤ (mLendBad.front SideId.s0).u 0 1 ∧ (mLendBad.front SideId.s0).u 0 1 ≤ 15 ∧ (mLendBad.side SideId.s0).flag (F.DMA_CH_LENT ((mLendBad.front SideId.s0).u 0 1)) = false ∧ ¬(Option.any (fun j => decide (j.ch = (mLendBad.front SideId.s0).u 0 1)) (mLendBad.side SideId.s0).dma.job = true ∨ ((mLendBad.side SideId.s0).dma.parked.any fun j => decide (j.ch = (mLendBad.front SideId.s0).u 0 1)) = true) ∧ (mLendBad.front SideId.s0).u 4 8 % 32 = 0 ∧ (mLendBad.front SideId.s0).u 12 4 % 32 = 0 ∧ (mLendBad.front SideId.s0).u 12 4 ≠ 0 ∧ (mLendBad.front SideId.s0).u 16 8 % 16 = 0 ∧ 1 ≤ (mLendBad.front SideId.s0).u 24 4 ∧ (mLendBad.front SideId.s0).u 24 4 ≤ 4096))) ∧
    ((mLend.Takes SideId.s0 15 1) ∧ (12 ≤ (mLend.front SideId.s0).u 0 1 ∧ (mLend.front SideId.s0).u 0 1 ≤ 15 ∧ (mLend.side SideId.s0).flag (F.DMA_CH_LENT ((mLend.front SideId.s0).u 0 1)) = false ∧ ¬(Option.any (fun j => decide (j.ch = (mLend.front SideId.s0).u 0 1)) (mLend.side SideId.s0).dma.job = true ∨ ((mLend.side SideId.s0).dma.parked.any fun j => decide (j.ch = (mLend.front SideId.s0).u 0 1)) = true) ∧ (mLend.front SideId.s0).u 4 8 % 32 = 0 ∧ (mLend.front SideId.s0).u 12 4 % 32 = 0 ∧ (mLend.front SideId.s0).u 12 4 ≠ 0 ∧ (mLend.front SideId.s0).u 16 8 % 16 = 0 ∧ 1 ≤ (mLend.front SideId.s0).u 24 4 ∧ (mLend.front SideId.s0).u 24 4 ≤ 4096)) ∧
    ((mReturnBad.Takes SideId.s0 15 2) ∧ ((mReturnBad.front SideId.s0).u 0 1 < 12 ∨ 15 < (mReturnBad.front SideId.s0).u 0 1)) ∧
    ((mReturnUnlent.Takes SideId.s0 15 2) ∧ (12 ≤ (mReturnUnlent.front SideId.s0).u 0 1) ∧ ((mReturnUnlent.front SideId.s0).u 0 1 ≤ 15) ∧ ((mReturnUnlent.side SideId.s0).flag (F.DMA_CH_LENT ((mReturnUnlent.front SideId.s0).u 0 1)) = false)) := by refine ⟨?_, ?_, ?_, ?_, ?_, ?_⟩ <;> (unfold State.Takes; decide +kernel)

theorem witness_MemoryMessages_3 :
    ((mReturn.Takes SideId.s0 15 2) ∧ (12 ≤ (mReturn.front SideId.s0).u 0 1) ∧ ((mReturn.front SideId.s0).u 0 1 ≤ 15) ∧ ((mReturn.side SideId.s0).flag (F.DMA_CH_LENT ((mReturn.front SideId.s0).u 0 1)) = true)) ∧
    ((mResumeBad.Takes SideId.s0 15 3) ∧ ((mResumeBad.front SideId.s0).u 0 1 < 12 ∨ 15 < (mResumeBad.front SideId.s0).u 0 1)) ∧
    ((mResumeUnlent.Takes SideId.s0 15 3) ∧ (12 ≤ (mResumeUnlent.front SideId.s0).u 0 1) ∧ ((mResumeUnlent.front SideId.s0).u 0 1 ≤ 15) ∧ ((mResumeUnlent.side SideId.s0).flag (F.DMA_CH_LENT ((mResumeUnlent.front SideId.s0).u 0 1)) = false)) ∧
    ((mResumeSkip.Takes SideId.s0 15 3) ∧ (12 ≤ (mResumeSkip.front SideId.s0).u 0 1) ∧ ((mResumeSkip.front SideId.s0).u 0 1 ≤ 15) ∧ ((mResumeSkip.side SideId.s0).flag (F.DMA_CH_LENT ((mResumeSkip.front SideId.s0).u 0 1)) = true) ∧ (1 < (mResumeSkip.front SideId.s0).u 1 1)) ∧
    ((mResume.Takes SideId.s0 15 3) ∧ (12 ≤ (mResume.front SideId.s0).u 0 1) ∧ ((mResume.front SideId.s0).u 0 1 ≤ 15) ∧ ((mResume.side SideId.s0).flag (F.DMA_CH_LENT ((mResume.front SideId.s0).u 0 1)) = true) ∧ ((mResume.front SideId.s0).u 1 1 ≤ 1) ∧ ((mResume.side SideId.s0).flag (F.DMA_CH_HALTED ((mResume.front SideId.s0).u 0 1)) = false)) ∧
    ((mResumeHalted.Takes SideId.s0 15 3) ∧ (12 ≤ (mResumeHalted.front SideId.s0).u 0 1) ∧ ((mResumeHalted.front SideId.s0).u 0 1 ≤ 15) ∧ ((mResumeHalted.side SideId.s0).flag (F.DMA_CH_LENT ((mResumeHalted.front SideId.s0).u 0 1)) = true) ∧ ((mResumeHalted.front SideId.s0).u 1 1 ≤ 1) ∧ ((mResumeHalted.side SideId.s0).flag (F.DMA_CH_HALTED ((mResumeHalted.front SideId.s0).u 0 1)) = true) ∧ (((mResumeHalted.side SideId.s0).dma.parked.any fun j => decide (j.ch = (mResumeHalted.front SideId.s0).u 0 1)) = true)) := by refine ⟨?_, ?_, ?_, ?_, ?_, ?_⟩ <;> (unfold State.Takes; decide +kernel)

theorem witness_MemoryMessages_4 :
    ((mCopyBad.Takes SideId.s0 15 4) ∧ ((mCopyBad.front SideId.s0).u 0 1 < 12 ∨ 15 < (mCopyBad.front SideId.s0).u 0 1)) ∧
    ((mCopyUnlent.Takes SideId.s0 15 4) ∧ (12 ≤ (mCopyUnlent.front SideId.s0).u 0 1) ∧ ((mCopyUnlent.front SideId.s0).u 0 1 ≤ 15) ∧ ((mCopyUnlent.side SideId.s0).flag (F.DMA_CH_LENT ((mCopyUnlent.front SideId.s0).u 0 1)) = false)) ∧
    ((mCopyBusy.Takes SideId.s0 15 4) ∧ (12 ≤ (mCopyBusy.front SideId.s0).u 0 1) ∧ ((mCopyBusy.front SideId.s0).u 0 1 ≤ 15) ∧ ((mCopyBusy.side SideId.s0).flag (F.DMA_CH_LENT ((mCopyBusy.front SideId.s0).u 0 1)) = true) ∧ ((∃ g : Fin 8, (mCopyBusy.side SideId.s0).flag (F.PB_GRP_EN g.val) = true ∧ (mCopyBusy.side SideId.s0).get (F.PB_GRP_CHANNEL g.val) + 12 = (mCopyBusy.front SideId.s0).u 0 1) ∨ (Option.any (fun j => decide (j.ch = (mCopyBusy.front SideId.s0).u 0 1)) (mCopyBusy.side SideId.s0).dma.job = true ∨ ((mCopyBusy.side SideId.s0).dma.parked.any fun j => decide (j.ch = (mCopyBusy.front SideId.s0).u 0 1)) = true) ∨ (mCopyBusy.side SideId.s0).bit (if 48 + (mCopyBusy.front SideId.s0).u 0 1 < 32 then (F.DMA_PEND_LO, 48 + (mCopyBusy.front SideId.s0).u 0 1) else (F.DMA_PEND_HI, 48 + (mCopyBusy.front SideId.s0).u 0 1 - 32)).fst (if 48 + (mCopyBusy.front SideId.s0).u 0 1 < 32 then (F.DMA_PEND_LO, 48 + (mCopyBusy.front SideId.s0).u 0 1) else (F.DMA_PEND_HI, 48 + (mCopyBusy.front SideId.s0).u 0 1 - 32)).snd = true)) ∧
    ((mCopyShort.Takes SideId.s0 15 4) ∧ (12 ≤ (mCopyShort.front SideId.s0).u 0 1) ∧ ((mCopyShort.front SideId.s0).u 0 1 ≤ 15) ∧ ((mCopyShort.side SideId.s0).flag (F.DMA_CH_LENT ((mCopyShort.front SideId.s0).u 0 1)) = true) ∧ (¬((∃ g : Fin 8, (mCopyShort.side SideId.s0).flag (F.PB_GRP_EN g.val) = true ∧ (mCopyShort.side SideId.s0).get (F.PB_GRP_CHANNEL g.val) + 12 = (mCopyShort.front SideId.s0).u 0 1) ∨ (Option.any (fun j => decide (j.ch = (mCopyShort.front SideId.s0).u 0 1)) (mCopyShort.side SideId.s0).dma.job = true ∨ ((mCopyShort.side SideId.s0).dma.parked.any fun j => decide (j.ch = (mCopyShort.front SideId.s0).u 0 1)) = true) ∨ (mCopyShort.side SideId.s0).bit (if 48 + (mCopyShort.front SideId.s0).u 0 1 < 32 then (F.DMA_PEND_LO, 48 + (mCopyShort.front SideId.s0).u 0 1) else (F.DMA_PEND_HI, 48 + (mCopyShort.front SideId.s0).u 0 1 - 32)).fst (if 48 + (mCopyShort.front SideId.s0).u 0 1 < 32 then (F.DMA_PEND_LO, 48 + (mCopyShort.front SideId.s0).u 0 1) else (F.DMA_PEND_HI, 48 + (mCopyShort.front SideId.s0).u 0 1 - 32)).snd = true)) ∧ (¬((mCopyShort.front SideId.s0).u 16 4 ≠ 0 ∧ (mCopyShort.front SideId.s0).u 16 4 < 2 ^ 24 ∧ (mCopyShort.front SideId.s0).u 4 4 % 32 = 0 ∧ (mCopyShort.front SideId.s0).u 8 8 % 32 = 0 ∧ (mCopyShort.side SideId.s0).get64 (F.DMA_CH_DATA_BASE_LO ((mCopyShort.front SideId.s0).u 0 1)) (F.DMA_CH_DATA_BASE_HI ((mCopyShort.front SideId.s0).u 0 1)) ≤ (mCopyShort.front SideId.s0).u 8 8 ∧ (mCopyShort.front SideId.s0).u 8 8 + (mCopyShort.front SideId.s0).u 16 4 ≤ (mCopyShort.side SideId.s0).get64 (F.DMA_CH_DATA_BASE_LO ((mCopyShort.front SideId.s0).u 0 1)) (F.DMA_CH_DATA_BASE_HI ((mCopyShort.front SideId.s0).u 0 1)) + (mCopyShort.side SideId.s0).get (F.DMA_CH_DATA_LEN ((mCopyShort.front SideId.s0).u 0 1))))) ∧
    ((mCopy.Takes SideId.s0 15 4) ∧ (12 ≤ (mCopy.front SideId.s0).u 0 1) ∧ ((mCopy.front SideId.s0).u 0 1 ≤ 15) ∧ ((mCopy.side SideId.s0).flag (F.DMA_CH_LENT ((mCopy.front SideId.s0).u 0 1)) = true) ∧ (¬((∃ g : Fin 8, (mCopy.side SideId.s0).flag (F.PB_GRP_EN g.val) = true ∧ (mCopy.side SideId.s0).get (F.PB_GRP_CHANNEL g.val) + 12 = (mCopy.front SideId.s0).u 0 1) ∨ (Option.any (fun j => decide (j.ch = (mCopy.front SideId.s0).u 0 1)) (mCopy.side SideId.s0).dma.job = true ∨ ((mCopy.side SideId.s0).dma.parked.any fun j => decide (j.ch = (mCopy.front SideId.s0).u 0 1)) = true) ∨ (mCopy.side SideId.s0).bit (if 48 + (mCopy.front SideId.s0).u 0 1 < 32 then (F.DMA_PEND_LO, 48 + (mCopy.front SideId.s0).u 0 1) else (F.DMA_PEND_HI, 48 + (mCopy.front SideId.s0).u 0 1 - 32)).fst (if 48 + (mCopy.front SideId.s0).u 0 1 < 32 then (F.DMA_PEND_LO, 48 + (mCopy.front SideId.s0).u 0 1) else (F.DMA_PEND_HI, 48 + (mCopy.front SideId.s0).u 0 1 - 32)).snd = true)) ∧ ((mCopy.front SideId.s0).u 16 4 ≠ 0 ∧ (mCopy.front SideId.s0).u 16 4 < 2 ^ 24 ∧ (mCopy.front SideId.s0).u 4 4 % 32 = 0 ∧ (mCopy.front SideId.s0).u 8 8 % 32 = 0 ∧ (mCopy.side SideId.s0).get64 (F.DMA_CH_DATA_BASE_LO ((mCopy.front SideId.s0).u 0 1)) (F.DMA_CH_DATA_BASE_HI ((mCopy.front SideId.s0).u 0 1)) ≤ (mCopy.front SideId.s0).u 8 8 ∧ (mCopy.front SideId.s0).u 8 8 + (mCopy.front SideId.s0).u 16 4 ≤ (mCopy.side SideId.s0).get64 (F.DMA_CH_DATA_BASE_LO ((mCopy.front SideId.s0).u 0 1)) (F.DMA_CH_DATA_BASE_HI ((mCopy.front SideId.s0).u 0 1)) + (mCopy.side SideId.s0).get (F.DMA_CH_DATA_LEN ((mCopy.front SideId.s0).u 0 1)))) := by refine ⟨?_, ?_, ?_, ?_, ?_⟩ <;> (unfold State.Takes; decide +kernel)


/-! ### Ill-formed commands are refused -/

theorem test_illformed_aperture : (Instr.apertureRead .s0 4194303 2).wellFormed = false := by decide
theorem test_illformed_aperture_empty : (Instr.apertureRead .s0 0 0).wellFormed = false := by decide
theorem test_illformed_slot : (Instr.inboundSlotWrite .s0 0 4094 [1, 2, 3]).wellFormed = false := by decide
theorem test_illformed_twin_slot : (Instr.twinPostWrite 0 4095 [1, 2]).wellFormed = false := by decide
theorem test_illformed_opcode : (Instr.reservedOpcode .s0 0 25).wellFormed = false := by decide
theorem test_illformed_block : SkeinBlock.fits { skein := 16, channels := 1, hops := 0, held := false, words := [0], crcOk := true } = false := by decide
theorem test_illformed_words : SkeinBlock.fits { skein := 0, channels := 2, hops := 0, held := false, words := [0], crcOk := true } = false := by decide
theorem test_illformed_payload_type : (EthFrame.media 1 1 5004 5004 128 0 0 []).fits = false := by decide
theorem test_illformed_domain : (EthFrame.ptp true 128 (.pdelayReq 0 0)).fits = false := by decide
theorem test_illformed_arp : (EthFrame.arpRequest 0 0 (2 ^ 48)).fits = false ∧ (EthFrame.arpReply (2 ^ 32) 0).fits = false := by decide
theorem test_illformed_echo : (EthFrame.echo (2 ^ 32) 0 []).fits = false := by decide
theorem test_illformed_group : (EthFrame.igmpQuery true (2 ^ 32)).fits = false := by decide
/-- A row frame with nothing in it. -/
def emptyRow (row : Nat) : RowFrame :=
  { row := row, devid := 0, side := 0, link := 0, keepalive := true, rate := 0, skeins := [], cells := [], credit := 0, txPrev := 0
    rxPrev := 0, rxPrevRow := 0, ack := 0, hcrcOk := true }
theorem test_illformed_row : (emptyRow (2 ^ 64)).fits = false ∧ { emptyRow 0 with devid := 64 }.fits = false := by decide +kernel

/-- A request of one beat of 32 bytes that crosses 4 KiB, one off its beat, and a narrow one of two beats. -/
theorem test_illformed_request :
    let q : FabReq := { master := 0, id := 0, write := false, dest := .space 0xFE0, narrow := false, beats := 0, data := [], strobes := [], collide := [] }
    q.fits = true ∧ { q with beats := 1 }.fits = false ∧ { q with dest := .space 4 }.fits = false ∧
      { q with narrow := true, beats := 1 }.fits = false := by decide +kernel

/-! ### Words of the Stitch formats, written out bit by bit from Tables SI-2 to SI-11 -/

/-- Format M: OP 2, LE 1001, MOFA X mode 7 P5 R3, MOFB CB mode 5 at 0x1234, A2, S 0, F 01. -/
theorem test_word_m : decodeStitch 0x0A4F5803A48D2100 =
    .macm .sub { le := 9, mofa := ⟨.x, .regInc 5 3⟩, mofb := ⟨.cb, .abs 0x1234⟩, acc := 2, s := 0 } := by decide +kernel

/-- Format R: OP 3, LE 1111, DA 3, CSEL 0, DB 5, MOF Y mode 4 P4 U 7, DM 6, MDIR 01, A1, S 2, F 10. -/
theorem test_word_r : decodeStitch 0x0FDAB2003E5A0000 =
    .macr .load { le := 15, da := 3, csel := false, db := 5, mof := ⟨.y, .off 4 7⟩, dm := 6, mdir := 1, acc := 1, s := 2 } := by
  decide +kernel

/-- Format D: OP 4, LE 1111, DSRC 1, n 0, MOFA X mode 2 P1, MOFB C mode 0 P2, A3, S 0, F 01. -/
theorem test_word_d : decodeStitch 0x13D0440020800310 =
    .dmac .sub { le := 15, dsrc := true, n := 0, mofa := ⟨.x, .postInc 1⟩, mofb := ⟨.c, .ind 2⟩, acc := 3, s := 0 } := by
  decide +kernel

/-- Format A: OP 5, LE 1111, AD 2, AA 1, AB 0, FN 4, K −3. -/
theorem test_word_a : decodeStitch 0x17E49A0000000000 = .arith .ash { le := 15, ad := 2, aa := 1, ab := 0, k := 13 } := by decide +kernel

/-- Format L: LDAN A1 from the double sample at Y mode 3 P0. -/
theorem test_word_lda : decodeStitch 0x1BD6000021C08000 =
    .lda .neg { le := 15, mof := ⟨.y, .postDec 0⟩, dr := 0, acc := 1, src := true, dbl := true } := by decide +kernel

/-- Format L: LDW of V4 with shift 4 from X mode 1 P3. -/
theorem test_word_ldw : decodeStitch 0x1FC2C00209000000 =
    .ldw { le := 15, mof := ⟨.x, .postMod 3⟩, dr := 4, acc := 0, k := 4, dest := true } := by decide +kernel

/-- Format L: STA of A2 with K −1 to Y mode 6 P2 R4 U 33. -/
theorem test_word_sta : decodeStitch 0x2BDCA0845E000000 = .sta { le := 15, mof := ⟨.y, .regOff 2 4 33⟩, acc := 2, k := 15 } := by decide +kernel

/-- Format L: CMOV of V7 to V2 where N is clear, LE 0101. -/
theorem test_word_cmov : decodeStitch 0x3D400001003B0000 = .cmov { le := 5, dr := 2, dr2 := 7, cond := 3 } := by decide +kernel

/-- Format P: PSET M3 to 0xFFFF. -/
theorem test_word_pset : decodeStitch 0x400B00000000FFFF = .pset { cls := 1, idx := 3, imm := 0xFFFF } := by decide +kernel

/-- Format P: LOOP to 0x123 with its count in P5, and to 0x3FFF with count 12 (CSRC 0, IDX 2). -/
theorem test_word_loop : decodeStitch 0x4C25012300000000 = .loop { csrc := true, idx := 5, stop := 0x123, count := 0 } ∧
    decodeStitch 0x4C023FFF0000000C = .loop { csrc := false, idx := 2, stop := 0x3FFF, count := 12 } := by decide +kernel

/-- Format P: JMP to 0x2ABC if Z in both lanes 1 and 2. -/
theorem test_word_jmp : decodeStitch 0x51902ABC00000000 = .jmp { le := 6, cond := 2, target := 0x2ABC } := by decide +kernel

/-- Format P: FLD of V4 through pair 2 with POST; CLRF of OVF and LOOP_ERR. -/
theorem test_word_far : decodeStitch 0x63E5000000000000 = .fld { le := 15, dr := 4, j := 2, post := true } ∧
    decodeStitch 0x5C00000000000005 = .clrf 5 := by decide +kernel

/-! ### Results the spec states or that follow from its tables by hand -/

/-- R76: 0x0500_0000 shifted by 4 is 0x50_0000; by 3 it saturates to 0x7F_FFFF. -/
theorem test_wide_load : wideReg 0x05000000 4 = (0x500000, false) ∧ wideReg 0x05000000 3 = (0x7FFFFF, true) := by decide

/-- R112: ABS of −2^55 clamps to 2^55 − 1 and overflows. -/
theorem test_abs_clamps : clamp56 (arithResult .abs (-2 ^ 55) 0 0) = (BitVec.ofNat 56 (2 ^ 55 - 1), true) := by decide

/-- R112: a right shift rounds toward minus infinity. -/
theorem test_ash_floor : arithResult .ash (-5) 0 (-1) = -3 := by decide

/-- The CRC-32 of R209 over the ASCII digits 1 to 9, the check value of that polynomial. -/
theorem test_crc : crc32 (("123456789".toList).map (fun c => BitVec.ofNat 8 c.toNat)) = 0xCBF43926 := by decide +kernel

/-- The text's example of Cross Array: XA_ROLE201 reads 0x24 after reset. -/
theorem test_role_reset : Regs.word Side.reset.regs (0x82000 + 4 * 201) = 0x24 := by decide +kernel

/-- The Patterns chapter's table of word 41,161: the gain of feed 40 to sum 201 in bank 2. -/
theorem test_gain_address : gainAddr 2 40 201 = gainAddr 2 0 0 + 4 * 41161 := by decide

/-- An empty queue idles (log entry 60). -/
theorem test_idle : step State.reset = .next State.reset := rfl

/-- The command at the front of the queue is taken out and run. -/
theorem test_front : step { State.reset with pending := [.pcieUnsupportedRequest, .seamClear] } =
    exec .pcieUnsupportedRequest { State.reset with pending := [.seamClear] } := rfl

/-- The table gives no row any bits. -/
theorem test_no_bits : decodeTableWord 64 0x5BC0000000000000 = none := rfl

end Sys2Proof.Tests
end

/-!
SUPPORT. A Stitch core's issue of one instruction: what is left of it once the core waits for nothing, and the instructions that change
their own core alone (R77, R101, R116 to R119).
-/
namespace Sys2Proof.Machine

open Sys2Proof

/-! ### One core of a Side -/

section
variable (x : Side) (k : Fin 32) (c d : Core) (r q : StitchRegs)

theorem Side.setCore_core : (x.setCore k c).cores[k] = c := Vector.getElem_set_self ..

theorem Side.setCore_setCore : (x.setCore k c).setCore k d = x.setCore k d := by
  simp only [Side.setCore, Vector.set_set]

theorem Side.setCore_self : x.setCore k x.cores[k] = x := by
  simp only [Side.setCore, Fin.getElem_fin, Vector.set_getElem_self]

theorem Side.setRegs_self : x.setRegs k (x.cores[k]).r = x := x.setCore_self k

theorem Side.coreIs_setCore : x.CoreIs (x.setCore k c) k c :=
  ⟨x.setCore_core k c, fun j hj => Vector.getElem_set_ne k.isLt j.isLt (fun e => hj (Fin.ext e.symm)), rfl⟩

/-- The end test changes the loops alone, so an issued core's other registers are those the instruction left. -/
theorem Core.regsBut_issued : (c.issued q).regsBut r = { q with lc := r.lc, inner := r.inner, stack := r.stack } := rfl

end

/-! ### Issue -/

section
variable {x : Side} {k : Fin 32} {op : StOp}

/-- A fetch where no word carries an error mark records nothing (R447). -/
theorem Side.eccTouch_of_upsets_nil (h : x.upsets = []) (a : Nat) : x.eccTouch a = x := by
  have hu : x.upset a = 0 := by simp only [Side.upset, h, Sparse.get]
  simp only [Side.eccTouch, hu]

/-- A core that waits for nothing carries its instruction out and goes on. -/
theorem Side.stitch_of_issues (h : x.Issues k op) :
    x.stitch k op = (x.runOp k op).setCore k ((x.cores[k]).went (((x.runOp k op).cores[k]).next op)) := by
  obtain ⟨hactive, hhalted, hbrk, hin, hfar, hups⟩ := h
  simp only [Side.stitch, hactive, hhalted, hbrk, Side.eccTouch_of_upsets_nil hups, Side.issueOp, hin, hfar]
  rfl

end

section
variable {s : State} {sd : SideId} {k : Fin 32} {op : StOp} {i : Instr}

theorem Completes.mono {P Q : Side → Prop} (h : Completes s sd i P) (hpq : ∀ y, P y → Q y) : Completes s sd i Q := by
  obtain ⟨t, hexec, helse, hp⟩ := h
  exact ⟨t, hexec, helse, hpq _ hp⟩

/-- A command that issues `op`, where `op` leaves its own core as `c` and touches nothing else: that core alone changes, to where issue
goes on from `c`. -/
theorem Completes.of_runOp_eq_setCore (hexec : exec i s = s.go sd (fun x => x.stitch k op)) (h : (s.side sd).Issues k op) {c d : Core}
    (hrun : (s.side sd).runOp k op = (s.side sd).setCore k c) (hnext : ((s.side sd).cores[k]).went (c.next op) = d) :
    Completes s sd i fun y => (s.side sd).CoreIs y k d := by
  refine Completes.of_go _ hexec ?_
  rw [Side.stitch_of_issues h, hrun, Side.setCore_core, Side.setCore_setCore, hnext]
  exact Side.coreIs_setCore ..

/-- The same for an instruction that does nothing besides its step of the pc. -/
theorem Completes.of_runOp_eq_self (hexec : exec i s = s.go sd (fun x => x.stitch k op)) (h : (s.side sd).Issues k op) {d : Core}
    (hrun : (s.side sd).runOp k op = s.side sd) (hnext : ((s.side sd).cores[k]).went (((s.side sd).cores[k]).next op) = d) :
    Completes s sd i fun y => (s.side sd).CoreIs y k d :=
  Completes.of_runOp_eq_setCore hexec h (hrun.trans (Side.setCore_self ..).symm) hnext

end

/-! ### What the instructions of Format P do -/

/-- PMOV as one register write: a source class that names no register leaves the registers (R116). -/
theorem Side.runPmov_eq_setRegs (x : Side) (k : Fin 32) (o : PmovF) : x.runPmov k o = x.setRegs k
    (match (x.cores[k]).r.shared o.scls o.sidx with
      | some v => (x.cores[k]).r.putShared o.cls o.idx v
      | none => (x.cores[k]).r) := by
  cases hv : (x.cores[k]).r.shared o.scls o.sidx with
  | some v => simp only [Side.runPmov, hv]
  | none => simp only [Side.runPmov, hv, Side.setRegs_self]

/-- The registers after a CLRF, with the three bits of its mask as numbers (Table SI-12). -/
def StitchRegs.clearFlags (r : StitchRegs) (m : Fin 8) : StitchRegs :=
  { r with
    ovf := if m.val % 2 = 1 then 0 else r.ovf
    sat := if m.val / 2 % 2 = 1 then 0 else r.sat
    loopErr := if m.val / 4 = 1 then false else r.loopErr }

theorem Side.runClrf_eq_setRegs (x : Side) (k : Fin 32) (m : Fin 8) : x.runClrf k m = x.setRegs k ((x.cores[k]).r.clearFlags m) := by
  have h2 : m.val / 2 / 2 % 2 = 1 ↔ m.val / 4 = 1 := by omega
  simp only [Side.runClrf, StitchRegs.clearFlags, Nat.testBit_succ, Nat.testBit_zero, decide_eq_true_eq, h2]

/-- LOOP by its cases (R117): ignored, an empty body, a fifth level, and a loop that opens. -/
theorem Core.went_runLoop (c : Core) (o : LoopF) :
    let n := if o.csrc then c.r.p[o.idx] else BitVec.ofNat 16 o.count.val
    let stop := BitVec.ofNat 14 o.stop.val
    c.went (c.runLoop o) =
      if o.stop.val ≤ c.pc.toNat ∨ c.pc ∈ c.r.loopEnds then c.issued c.r
      else if n = 0 then c.went { c with pc := stop + 1 }
      else if 4 ≤ c.r.depth then c.issued { c.r with loopErr := true }
      else c.went { c with
        pc := c.pc + 1
        r := { c.r with
          inner := some (c.pc + 1, stop), lc := n
          stack := (c.r.inner.map (fun p => { start := p.1, stop := p.2, count := c.r.lc : LoopEntry })).toList ++ c.r.stack } } := by
  simp only [Core.runLoop, Bool.or_eq_true, decide_eq_true_eq]
  generalize (if o.csrc then c.r.p[o.idx] else BitVec.ofNat 16 o.count.val) = n
  by_cases hskip : o.stop.val ≤ c.pc.toNat ∨ c.pc ∈ c.r.loopEnds
  · rw [if_pos hskip, if_pos hskip]
    rfl
  rw [if_neg hskip, if_neg hskip]
  by_cases hempty : n = 0
  · rw [if_pos hempty, if_pos hempty]
    rfl
  rw [if_neg hempty, if_neg hempty]
  by_cases hfull : 4 ≤ c.r.depth
  · rw [if_pos hfull, if_pos hfull]
    rfl
  rw [if_neg hfull, if_neg hfull]
  cases c.r.inner with
  | some p => rfl
  | none => rfl

/-! ### The condition of a JMP -/

theorem forall_lane (P : Fin 4 → Prop) : (∀ l, P l) ↔ ((P 0 ∧ P 1) ∧ P 2) ∧ P 3 :=
  ⟨fun h => ⟨⟨⟨h 0, h 1⟩, h 2⟩, h 3⟩, fun ⟨⟨⟨h0, h1⟩, h2⟩, h3⟩ l =>
    match l with
    | 0 => h0
    | 1 => h1
    | 2 => h2
    | 3 => h3⟩

theorem exists_lane (P : Fin 4 → Prop) : (∃ l, P l) ↔ ((P 0 ∨ P 1) ∨ P 2) ∨ P 3 :=
  ⟨fun ⟨l, h⟩ =>
    match l, h with
    | 0, h => .inl (.inl (.inl h))
    | 1, h => .inl (.inl (.inr h))
    | 2, h => .inl (.inr h)
    | 3, h => .inr h,
  fun h => h.elim (fun h => h.elim (fun h => h.elim (⟨0, ·⟩) (⟨1, ·⟩)) (⟨2, ·⟩)) (⟨3, ·⟩)⟩

theorem anyLane_iff (le : Fin 16) (f : BitVec 4) :
    (laneOn le 0 && f.getLsbD 0 || laneOn le 1 && f.getLsbD 1 || laneOn le 2 && f.getLsbD 2 || laneOn le 3 && f.getLsbD 3) = true ↔
      ∃ l : Fin 4, laneOn le l = true ∧ f.getLsbD l = true := by
  simp only [Bool.or_eq_true, Bool.and_eq_true]
  exact (exists_lane (fun l => laneOn le l = true ∧ f.getLsbD l = true)).symm

/-- The condition over every enabled lane asks for an enabled lane besides (R118). -/
theorem allLanes_iff (le : Fin 16) (f : BitVec 4) :
    (decide (le.val ≠ 0) && ((!laneOn le 0 || f.getLsbD 0) && (!laneOn le 1 || f.getLsbD 1) && (!laneOn le 2 || f.getLsbD 2) &&
      (!laneOn le 3 || f.getLsbD 3))) = true ↔ le ≠ 0 ∧ ∀ l : Fin 4, laneOn le l = true → f.getLsbD l = true := by
  have imp (a b : Bool) : (!a || b) = true ↔ (a = true → b = true) := by cases a <;> cases b <;> decide
  simp only [Bool.and_eq_true, imp, decide_eq_true_eq]
  exact and_congr (not_congr Fin.val_eq_zero_iff) (forall_lane (fun l => laneOn le l = true → f.getLsbD l = true)).symm

/-- The conditions of R118: with no lane enabled, conditions 1 to 4 do not hold. -/
theorem jmpTaken_iff (r : StitchRegs) (o : JmpF) : jmpTaken r o = true ↔
    o.cond = 0 ∨ (o.cond = 1 ∧ ∃ l, laneOn o.le l = true ∧ r.z.getLsbD l = true) ∨
    (o.cond = 2 ∧ o.le ≠ 0 ∧ ∀ l, laneOn o.le l = true → r.z.getLsbD l = true) ∨
    (o.cond = 3 ∧ ∃ l, laneOn o.le l = true ∧ r.n.getLsbD l = true) ∨
    (o.cond = 4 ∧ o.le ≠ 0 ∧ ∀ l, laneOn o.le l = true → r.n.getLsbD l = true) := by
  obtain ⟨le, cond, target⟩ := o
  match cond with
  | 0 => exact iff_of_true rfl (.inl rfl)
  | 1 =>
    have h : jmpTaken r ⟨le, 1, target⟩ = true ↔ _ := anyLane_iff le r.z
    simp only [h, Fin.reduceEq, true_and, false_and, false_or, or_false]
  | 2 =>
    have h : jmpTaken r ⟨le, 2, target⟩ = true ↔ _ := allLanes_iff le r.z
    simp only [h, Fin.reduceEq, true_and, false_and, false_or, or_false]
  | 3 =>
    have h : jmpTaken r ⟨le, 3, target⟩ = true ↔ _ := anyLane_iff le r.n
    simp only [h, Fin.reduceEq, true_and, false_and, false_or, or_false]
  | 4 =>
    have h : jmpTaken r ⟨le, 4, target⟩ = true ↔ _ := allLanes_iff le r.n
    simp only [h, Fin.reduceEq, true_and, false_and, false_or]
  | 5 | 6 | 7 => simp only [jmpTaken, Bool.false_eq_true, Fin.reduceEq, false_and, or_self]

/-! ### The statement -/

/-- Settles O25: each of these instructions changes its own core alone, by the registers it writes and the end test or by its jump. -/
theorem sharedRegistersAndFlow : Obligations.SharedRegistersAndFlow := by
  unfold Obligations.SharedRegistersAndFlow
  intro s sd k x c r
  refine ⟨?pset, ?padd, ?pmov, ?clrf, ?loop, ?jmp, ?nop, ?eor, ?reserved⟩
  case pset => exact fun o h => Completes.of_runOp_eq_setCore rfl h rfl rfl
  case padd => exact fun o h => Completes.of_runOp_eq_setCore rfl h rfl rfl
  case pmov => exact fun o h => Completes.of_runOp_eq_setCore rfl h (Side.runPmov_eq_setRegs ..) rfl
  case clrf =>
    intro m h
    refine (Completes.of_runOp_eq_setCore rfl h (Side.runClrf_eq_setRegs ..) (d := c.issued (r.clearFlags m)) rfl).mono fun y hy => ?_
    have hregs : (y.cores[k]).regsBut r = r.clearFlags m := by rw [hy.1, Core.regsBut_issued]; rfl
    rw [hregs]
    exact ⟨rfl, rfl, rfl, rfl, hy⟩
  case loop => exact fun o h => Completes.of_runOp_eq_self rfl h rfl (Core.went_runLoop c o)
  case jmp =>
    intro o h z n taken
    have ht : jmpTaken r o = true ↔ taken := jmpTaken_iff r o
    exact ⟨fun yes => Completes.of_runOp_eq_self rfl h rfl (congrArg c.went (if_pos (ht.mpr yes))),
      fun no => Completes.of_runOp_eq_self rfl h rfl (congrArg c.went (if_neg (mt ht.mp no)))⟩
  case nop => exact fun h => Completes.of_runOp_eq_self rfl h rfl rfl
  case eor => exact fun h => Completes.of_runOp_eq_setCore rfl h rfl rfl
  case reserved => exact fun op h => Completes.of_runOp_eq_self rfl h rfl rfl

end Sys2Proof.Machine

/-!
SUPPORT. The Lead token: what an operation leaves in the Seam's registers, carried out or refused, and what a Side's request leaves once
the Seam has answered it (R218, R219, Table TW-3).
-/
namespace Sys2Proof.Machine

open Sys2Proof

/-! ### The operations of Table TW-3 -/

/-- Whether an operation of Side `who` finds OWNER as it requires. -/
def SeamOp.may (op : SeamOp) (owner who : Nat) : Bool :=
  match op with
  | .grant => decide (owner = 3)
  | .seize => decide (owner ≠ who)
  | _ => decide (owner = who)

/-- The OWNER that an operation of Side `who` sets. -/
def SeamOp.target (op : SeamOp) (who : Nat) : Nat :=
  match op with
  | .grant | .seize => who
  | .transfer => 1 - who
  | .release => 3

/-- OWNER once the Seam has answered. -/
def SeamOp.after (op : SeamOp) (owner who : Nat) : Nat := if op.may owner who then op.target who else owner

theorem SeamOp.target_lt (op : SeamOp) (sd : SideId) : op.target sd.num < 4 := by
  cases op <;> cases sd <;> decide

/-- An operation that may be carried out changes OWNER. -/
theorem SeamOp.ne_target_of_may {op : SeamOp} {owner : Nat} {sd : SideId} (h : op.may owner sd.num = true) :
    owner ≠ op.target sd.num := by
  have hnum : sd.num < 2 := by cases sd <;> decide
  cases op with
  | seize => exact of_decide_eq_true h
  | grant | transfer | release =>
    have ho := of_decide_eq_true h
    simp only [SeamOp.target]
    omega

/-! ### The Seam's registers -/

section
variable (h : HostRegion)

theorem HostRegion.pulse_get (k : Nat) (f : Fld) : (h.pulse k).get f = h.get f := by
  have hregs : (h.pulse k).regs = h.regs := (congrArg HostRegion.regs (h.input_bare k 1 1 false h.col) :)
  simp only [HostRegion.get, hregs]

theorem HostRegion.pulse_held (k : Nat) : (h.pulse k).held = h.held := h.input_held ..

/-- `k` is `h` after a change of OWNER to `owner`: what it records, and what it leaves of the region. -/
structure HostRegion.Handed (k : HostRegion) (owner : Nat) : Prop where
  token : k.get F.HP_SEAM_TOKEN_OWNER = owner
  epoch : k.get F.HP_SEAM_TOKEN_EPOCH = (h.get F.HP_SEAM_TOKEN_EPOCH + 1) % 65536
  lastTo : k.get F.HP_SEAM_LAST_TO = owner
  lastFrom : k.get F.HP_SEAM_LAST_FROM = h.get F.HP_SEAM_TOKEN_OWNER
  refused : k.get F.HP_SEAM_STAT_REFUSED = h.get F.HP_SEAM_STAT_REFUSED
  sameCycle : k.get F.HP_SEAM_STAT_SAME_CYCLE = h.get F.HP_SEAM_STAT_SAME_CYCLE
  held : k.held = h.held

/-- The fields of which `HostRegion.Handed` speaks. -/
def seamFields : List Fld :=
  [F.HP_SEAM_TOKEN_OWNER, F.HP_SEAM_TOKEN_EPOCH, F.HP_SEAM_LAST_TO, F.HP_SEAM_LAST_FROM, F.HP_SEAM_STAT_REFUSED, F.HP_SEAM_STAT_SAME_CYCLE]

variable {h}

theorem HostRegion.Handed.set {k : HostRegion} {owner : Nat} (hk : h.Handed k owner) {f : Fld} (v : Nat)
    (hf : ∀ g ∈ seamFields, g.key ≠ f.key) : h.Handed (k.set f v) owner := by
  have hget : ∀ g ∈ seamFields, (k.set f v).get g = k.get g := fun g hg => HostRegion.get_set_other k v (hf g hg)
  simp only [seamFields, List.forall_mem_cons] at hget
  obtain ⟨htoken, hepoch, hto, hfrom, hrefused, hsame, -⟩ := hget
  exact ⟨htoken.trans hk.token, hepoch.trans hk.epoch, hto.trans hk.lastTo, hfrom.trans hk.lastFrom, hrefused.trans hk.refused,
    hsame.trans hk.sameCycle, hk.held⟩

theorem HostRegion.handed_setOwner {owner : Nat} (how : Nat) (hne : h.get F.HP_SEAM_TOKEN_OWNER ≠ owner) (hlt : owner < 4) :
    h.Handed (h.setOwner owner how) owner := by
  have hfrom : h.get F.HP_SEAM_TOKEN_OWNER < 4 := h.get_lt _
  simp only [HostRegion.setOwner, if_neg hne]
  constructor <;> simp [HostRegion.pulse_get, HostRegion.pulse_held, HostRegion.get_set, Fld.key, hlt, hfrom]

variable {sd : SideId} {op : SeamOp}

/-- R218: an operation that finds OWNER as it requires. -/
theorem HostRegion.seamOp_of_may (hmay : op.may (h.get F.HP_SEAM_TOKEN_OWNER) sd.num = true) :
    h.Handed (h.seamOp sd.num op).1 (op.target sd.num) ∧ (h.seamOp sd.num op).2 = true := by
  have handed (how : Nat) : h.Handed (h.setOwner (op.target sd.num) how) (op.target sd.num) :=
    HostRegion.handed_setOwner how (SeamOp.ne_target_of_may hmay) (op.target_lt sd)
  cases op with
  | grant =>
    rw [HostRegion.seamOp, if_pos (of_decide_eq_true hmay)]
    exact ⟨handed 0, rfl⟩
  | seize =>
    rw [HostRegion.seamOp, if_pos (of_decide_eq_true hmay)]
    exact ⟨(handed 1).set 1 (by cases sd <;> decide), rfl⟩
  | transfer =>
    rw [HostRegion.seamOp, if_pos (of_decide_eq_true hmay)]
    exact ⟨(handed 2).set 1 (by decide), rfl⟩
  | release =>
    rw [HostRegion.seamOp, if_pos (of_decide_eq_true hmay)]
    exact ⟨handed 3, rfl⟩

/-- R218: one that does not. -/
theorem HostRegion.seamOp_of_not_may (hmay : op.may (h.get F.HP_SEAM_TOKEN_OWNER) sd.num = false) :
    h.seamOp sd.num op = (h.set F.HP_SEAM_STAT_REFUSED 1, false) := by
  cases op <;> exact if_neg (of_decide_eq_false hmay)

variable (h sd op)

theorem HostRegion.seamOp_snd : (h.seamOp sd.num op).2 = op.may (h.get F.HP_SEAM_TOKEN_OWNER) sd.num := by
  cases hmay : op.may (h.get F.HP_SEAM_TOKEN_OWNER) sd.num with
  | true => exact (HostRegion.seamOp_of_may hmay).2
  | false => rw [HostRegion.seamOp_of_not_may hmay]

theorem HostRegion.seamOp_held : (h.seamOp sd.num op).1.held = h.held := by
  cases hmay : op.may (h.get F.HP_SEAM_TOKEN_OWNER) sd.num with
  | true => exact (HostRegion.seamOp_of_may hmay).1.held
  | false => rw [HostRegion.seamOp_of_not_may hmay, HostRegion.set_held]

theorem HostRegion.seamOp_owner :
    (h.seamOp sd.num op).1.get F.HP_SEAM_TOKEN_OWNER = op.after (h.get F.HP_SEAM_TOKEN_OWNER) sd.num := by
  cases hmay : op.may (h.get F.HP_SEAM_TOKEN_OWNER) sd.num with
  | true => rw [(HostRegion.seamOp_of_may hmay).1.token, SeamOp.after, hmay, if_pos rfl]
  | false =>
    rw [HostRegion.seamOp_of_not_may hmay, HostRegion.get_set_other _ _ (by decide), SeamOp.after, hmay, if_neg Bool.false_ne_true]

theorem HostRegion.seamOp_epoch : (h.seamOp sd.num op).1.get F.HP_SEAM_TOKEN_EPOCH =
    (h.get F.HP_SEAM_TOKEN_EPOCH + (op.may (h.get F.HP_SEAM_TOKEN_OWNER) sd.num).toNat) % 65536 := by
  cases hmay : op.may (h.get F.HP_SEAM_TOKEN_OWNER) sd.num with
  | true => exact (HostRegion.seamOp_of_may hmay).1.epoch
  | false =>
    rw [HostRegion.seamOp_of_not_may hmay, HostRegion.get_set_other _ _ (by decide)]
    exact (Nat.mod_eq_of_lt (h.get_lt _)).symm

theorem HostRegion.seamOp_refused : (h.seamOp sd.num op).1.get F.HP_SEAM_STAT_REFUSED =
    if op.may (h.get F.HP_SEAM_TOKEN_OWNER) sd.num then h.get F.HP_SEAM_STAT_REFUSED else 1 := by
  cases hmay : op.may (h.get F.HP_SEAM_TOKEN_OWNER) sd.num with
  | true => exact (HostRegion.seamOp_of_may hmay).1.refused
  | false => rw [HostRegion.seamOp_of_not_may hmay, HostRegion.get_set_same]; rfl

theorem HostRegion.seamOp_sameCycle : (h.seamOp sd.num op).1.get F.HP_SEAM_STAT_SAME_CYCLE = h.get F.HP_SEAM_STAT_SAME_CYCLE := by
  cases hmay : op.may (h.get F.HP_SEAM_TOKEN_OWNER) sd.num with
  | true => exact (HostRegion.seamOp_of_may hmay).1.sameCycle
  | false => rw [HostRegion.seamOp_of_not_may hmay, HostRegion.get_set_other _ _ (by decide)]

end

/-! ### A request that the Seam answers -/

/-- A Side whose request was answered; `seized` says that a SEIZE was carried out. -/
def Side.served (x : Side) (seized : Bool) : Side :=
  { x with twin := { x.twin with req := none, seized := x.twin.seized || seized } }

section
variable {s : State} {sd : SideId} {op : SeamOp}

theorem State.seamServe_of_req (hreq : (s.side sd).twin.req = some op) (hheld : s.host.held = false) :
    s.seamServe sd = (s.onHost fun h => (h.seamOp sd.num op).1).setSide sd
      ((s.side sd).served (op.may (s.host.get F.HP_SEAM_TOKEN_OWNER) sd.num && decide (op = .seize))) := by
  rw [← HostRegion.seamOp_snd]
  simp only [State.seamServe, hreq, State.setSide_host, hheld]
  cases sd <;> rfl

theorem State.seamArrive_alone (hreq : (s.side sd).twin.req = some op) : s.seamArrive sd op false = s.seamServe sd := by
  simp [State.seamArrive, hreq]

theorem State.seamArrive_met {other : SeamOp} (hreq : (s.side sd).twin.req = some op)
    (hother : (s.side sd.other).twin.req = some other) (hheld : s.host.held = false) :
    s.seamArrive sd op true = ((s.onHost fun h => h.set F.HP_SEAM_STAT_SAME_CYCLE 1).seamServe .s0).seamServe .s1 := by
  simp [State.seamArrive, hreq, hother, hheld, State.onHost]

/-- Both requests answered: Side 1's operation meets the registers that Side 0's left. -/
theorem State.seamServe_both {a b : SeamOp} (h0 : s.side0.twin.req = some a) (h1 : s.side1.twin.req = some b)
    (hheld : s.host.held = false) :
    let h := (s.host.seamOp SideId.s0.num a).1
    (s.seamServe .s0).seamServe .s1 = { s with
      host := (h.seamOp SideId.s1.num b).1
      side0 := s.side0.served (a.may (s.host.get F.HP_SEAM_TOKEN_OWNER) SideId.s0.num && decide (a = .seize))
      side1 := s.side1.served (b.may (h.get F.HP_SEAM_TOKEN_OWNER) SideId.s1.num && decide (b = .seize)) } := by
  intro h
  have hheld1 : h.held = false := (HostRegion.seamOp_held ..).trans hheld
  rw [State.seamServe_of_req (sd := .s0) h0 hheld]
  exact State.seamServe_of_req (sd := .s1) h1 hheld1

end

/-! ### What a command of the Seam leaves -/

/-- A write of one field of the host region, which the Collector then follows, leaves every other field. -/
theorem State.fieldsOnly_followed {u old : State} {h : HostRegion} {f : Fld} {v : Nat} (hu : u.host = h.set f v) :
    h.FieldsOnly (u.followed old) [f] := by
  refine ⟨?bare, fun g hg => ?get⟩
  case bare => rw [State.followed_bare, hu]; rfl
  case get => rw [State.followed_get, hu, HostRegion.get_set_other _ _ (hg f (List.mem_singleton_self f))]

section
variable {s : State} {sd : SideId} {op : SeamOp} {c : Instr}

/-- R218: a request that meets no other and is carried out. -/
theorem exists_exec_of_seam_may (hexec : exec c s = s.answer (s.seamArrive sd op false)) (hheld : s.host.held = false)
    (hreq : (s.side sd).twin.req = some op) (hmay : op.may (s.host.get F.HP_SEAM_TOKEN_OWNER) sd.num = true) :
    ∃ t, exec c s = .next t ∧
      (t.host.get F.HP_SEAM_TOKEN_OWNER = op.target sd.num ∧
        t.host.get F.HP_SEAM_TOKEN_EPOCH = (s.host.get F.HP_SEAM_TOKEN_EPOCH + 1) % 65536 ∧
        t.host.get F.HP_SEAM_LAST_TO = op.target sd.num ∧ t.host.get F.HP_SEAM_LAST_FROM = s.host.get F.HP_SEAM_TOKEN_OWNER) ∧
      t.side sd.other = s.side sd.other ∧ t.side sd = (s.side sd).served (decide (op = .seize)) := by
  have hk := (HostRegion.seamOp_of_may hmay).1
  refine ⟨_, hexec, ?_⟩
  rw [State.seamArrive_alone hreq, State.seamServe_of_req hreq hheld, hmay]
  simp [hk.token, hk.epoch, hk.lastTo, hk.lastFrom]

/-- R218: a request that meets no other and is refused. -/
theorem exists_exec_of_seam_not_may (hexec : exec c s = s.answer (s.seamArrive sd op false)) (hheld : s.host.held = false)
    (hreq : (s.side sd).twin.req = some op) (hmay : op.may (s.host.get F.HP_SEAM_TOKEN_OWNER) sd.num = false) :
    ∃ t, exec c s = .next t ∧
      (t.host.get F.HP_SEAM_STAT_REFUSED = 1 ∧ s.host.FieldsOnly t.host [F.HP_SEAM_STAT_REFUSED]) ∧
      t.side sd.other = s.side sd.other ∧ t.side sd = (s.side sd).served false := by
  refine ⟨_, hexec, ?_⟩
  rw [State.seamArrive_alone hreq, State.seamServe_of_req hreq hheld, hmay, State.settle_host]
  have hhost : (s.onHost fun h => (h.seamOp sd.num op).1).host = s.host.set F.HP_SEAM_STAT_REFUSED 1 :=
    congrArg Prod.fst (HostRegion.seamOp_of_not_may hmay)
  exact ⟨⟨by simp [HostRegion.seamOp_of_not_may hmay], State.fieldsOnly_followed ((State.setSide_host ..).trans hhost)⟩, by simp⟩

/-- The four commands of a request that meets the other Side's. -/
theorem exec_seam_met (s : State) (sd : SideId) :
    ∀ c ∈ [(Instr.seamGrant sd true, SeamOp.grant), (.seamSeize sd true, .seize), (.seamTransfer sd true, .transfer),
      (.seamRelease sd true, .release)], exec c.1 s = s.answer (s.seamArrive sd c.2 true) := by
  simp only [List.forall_mem_cons]
  exact ⟨rfl, rfl, rfl, rfl, fun _ h => absurd h List.not_mem_nil⟩

/-- R219: the requests of both Sides in one cycle: Side 0's first, then Side 1's against the OWNER that it left. -/
theorem exists_exec_of_seam_met {other : SeamOp} (hexec : exec c s = s.answer (s.seamArrive sd op true)) (hheld : s.host.held = false)
    (hreq : (s.side sd).twin.req = some op) (hother : (s.side sd.other).twin.req = some other) :
    let o := s.host.get F.HP_SEAM_TOKEN_OWNER
    let a := if sd = .s0 then op else other
    let b := if sd = .s0 then other else op
    let o1 := a.after o 0
    ∃ t, exec c s = .next t ∧ t.host.get F.HP_SEAM_TOKEN_OWNER = b.after o1 1 ∧ t.host.get F.HP_SEAM_STAT_SAME_CYCLE = 1 ∧
      t.host.get F.HP_SEAM_TOKEN_EPOCH = (s.host.get F.HP_SEAM_TOKEN_EPOCH + (a.may o 0).toNat + (b.may o1 1).toNat) % 65536 ∧
      ((a.may o 0 && b.may o1 1) = false → t.host.get F.HP_SEAM_STAT_REFUSED = 1) ∧
      t.side0 = s.side0.served (a.may o 0 && decide (a = .seize)) ∧ t.side1 = s.side1.served (b.may o1 1 && decide (b = .seize)) := by
  intro o a b o1
  have h0 : s.side0.twin.req = some a := by cases sd <;> assumption
  have h1 : s.side1.twin.req = some b := by cases sd <;> assumption
  refine ⟨_, hexec, ?_⟩
  let u := s.onHost fun h => h.set F.HP_SEAM_STAT_SAME_CYCLE 1
  have howner : u.host.get F.HP_SEAM_TOKEN_OWNER = o := HostRegion.get_set_other _ _ (by decide)
  have hepoch : u.host.get F.HP_SEAM_TOKEN_EPOCH = s.host.get F.HP_SEAM_TOKEN_EPOCH := HostRegion.get_set_other _ _ (by decide)
  have hsame : u.host.get F.HP_SEAM_STAT_SAME_CYCLE = 1 := HostRegion.get_set_same ..
  rw [State.seamArrive_met hreq hother hheld, State.seamServe_both (s := u) h0 h1 hheld]
  simp only [State.settle_host, State.followed_get, State.settle_side0, State.settle_side1, HostRegion.seamOp_owner,
    HostRegion.seamOp_epoch, HostRegion.seamOp_refused, HostRegion.seamOp_sameCycle, howner, hepoch, hsame, Nat.mod_add_mod]
  refine ⟨rfl, trivial, rfl, fun hno => ?refused, rfl, rfl⟩
  case refused =>
    change (a.may o SideId.s0.num && b.may (a.after o SideId.s0.num) SideId.s1.num) = false at hno
    cases hb : b.may (a.after o SideId.s0.num) SideId.s1.num with
    | false => rfl
    | true =>
      rw [hb, Bool.and_true] at hno
      rw [hno]
      rfl

/-- R218: CLEAR is carried out when neither Side is the Lead. -/
theorem exists_exec_seamClear (hheld : s.host.held = false) (h0 : s.side0.mode ≠ .lead) (h1 : s.side1.mode ≠ .lead)
    (hne : s.host.get F.HP_SEAM_TOKEN_OWNER ≠ 3) :
    ∃ t, exec .seamClear s = .next t ∧
      (t.host.get F.HP_SEAM_TOKEN_OWNER = 3 ∧ t.host.get F.HP_SEAM_TOKEN_EPOCH = (s.host.get F.HP_SEAM_TOKEN_EPOCH + 1) % 65536 ∧
        t.host.get F.HP_SEAM_LAST_TO = 3 ∧ t.host.get F.HP_SEAM_LAST_FROM = s.host.get F.HP_SEAM_TOKEN_OWNER) ∧ SidesKept s t := by
  have howner : (s.host.set F.HP_SEAM_CTRL_CLEAR 1).get F.HP_SEAM_TOKEN_OWNER = s.host.get F.HP_SEAM_TOKEN_OWNER :=
    HostRegion.get_set_other _ _ (by decide)
  have hepoch : (s.host.set F.HP_SEAM_CTRL_CLEAR 1).get F.HP_SEAM_TOKEN_EPOCH = s.host.get F.HP_SEAM_TOKEN_EPOCH :=
    HostRegion.get_set_other _ _ (by decide)
  have hk := HostRegion.handed_setOwner 4 (howner ▸ hne) (by decide)
  refine ⟨_, rfl, ?_⟩
  simp [State.seamClear, hheld, h0, h1, hk.token, hk.epoch, hk.lastTo, hk.lastFrom, howner, hepoch, SidesKept]

/-- R218: CLEAR is refused while a Side is the Lead. -/
theorem exists_exec_seamClear_of_lead (hheld : s.host.held = false) (hlead : s.side0.mode = .lead ∨ s.side1.mode = .lead) :
    ∃ t, exec .seamClear s = .next t ∧ t.host.get F.HP_SEAM_STAT_REFUSED = 1 ∧
      t.host.get F.HP_SEAM_TOKEN_OWNER = s.host.get F.HP_SEAM_TOKEN_OWNER ∧ SidesKept s t := by
  refine ⟨_, rfl, ?_⟩
  simp [State.seamClear, hheld, hlead, SidesKept, HostRegion.get_set, Fld.key]

end

/-! ### The statement -/

/-- Settles O15: each operation by whether it finds OWNER as it requires, CLEAR by the modes, and two requests by the one served first. -/
theorem seamOperations : Obligations.SeamOperations := by
  unfold Obligations.SeamOperations
  intro s sd hheld o may after changed refused sides
  refine ⟨?grant, ?seize, ?transfer, ?release, exists_exec_seamClear hheld, exists_exec_seamClear_of_lead hheld, ?met⟩
  case grant | transfer | release =>
    exact fun hreq => ⟨fun ho => exists_exec_of_seam_may rfl hheld hreq (decide_eq_true ho),
      fun ho => exists_exec_of_seam_not_may rfl hheld hreq (decide_eq_false ho)⟩
  case seize =>
    exact fun hreq => ⟨fun ho => exists_exec_of_seam_may rfl hheld hreq (decide_eq_true ho),
      fun ho => exists_exec_of_seam_not_may rfl hheld hreq (decide_eq_false (not_not_intro ho))⟩
  case met => exact fun c hc other => exists_exec_of_seam_met (exec_seam_met s sd c hc) hheld

end Sys2Proof.Machine

/-!
SUPPORT. CLAIM and EOI at the host Collector: what each makes of the Collector, and that the Collector's following of the change then
reaches source 1 alone, whose level tells the two errors (R392, R396, R397).
-/
namespace Sys2Proof.Machine

open Sys2Proof

/-! ### CLAIM and EOI of a Collector -/

section
variable {c : Collector} {host : Bool} {k : Nat}

theorem Collector.claim_of_picks (hk : c.Picks host k) (hroom : c.stack.length < 16) :
    c.claim host = ({ c.put host k { c.src host k with insvc := true, pend := (c.src host k).pend && (c.src host k).level } with
      stack := (c.rp, k) :: c.stack, rp := (c.src host k).prio }, k) := by
  simp only [Collector.claim, (c.best_eq_some host k).2 hk, if_neg (Nat.not_le.mpr hroom)]
  rfl

theorem Collector.claim_of_full (hk : c.Picks host k) (hfull : 16 ≤ c.stack.length) :
    c.claim host = ({ c with stackErr := true }, 0) := by
  simp only [Collector.claim, (c.best_eq_some host k).2 hk, if_pos hfull]

theorem Collector.claim_of_quiet (hquiet : ∀ k, (c.src host k).qualifies c.rp = false) : c.claim host = (c, 0) := by
  simp only [Collector.claim, (c.best_eq_none host).2 hquiet]

theorem Collector.eoi_of_nil (v : Nat) (hstack : c.stack = []) : c.eoi host v = { c with stackErr := true } := by
  simp only [Collector.eoi, hstack]

theorem Collector.eoi_of_cons (v : Nat) {p : Nat} {rest : List (Nat × Nat)} (hstack : c.stack = (p, k) :: rest) :
    c.eoi host v = { c.put host k { c.src host k with insvc := false } with
      stack := rest, rp := p, eoiMismatch := c.eoiMismatch || decide (v ≠ k) } := by
  simp only [Collector.eoi, hstack]
  rfl

end

section
variable (c : Collector) (host : Bool)

/-- A change of a source that leaves its input leaves every source's input. -/
theorem Collector.put_raw {k : Nat} {x : ColSrc} (hx : x.raw = (c.src host k).raw) (j : Nat) :
    ((c.put host k x).src host j).raw = (c.src host j).raw := by
  rw [Collector.src_put]
  split
  case isTrue hj => rw [hx, hj]
  case isFalse => rfl

theorem Collector.claim_raw (j : Nat) : ((c.claim host).1.src host j).raw = (c.src host j).raw := by
  unfold Collector.claim
  split
  · rfl
  · split
    · rfl
    · exact c.put_raw host (x := { c.src host _ with insvc := true, pend := _ }) rfl j

theorem Collector.eoi_raw (v j : Nat) : ((c.eoi host v).src host j).raw = (c.src host j).raw := by
  unfold Collector.eoi
  split
  · rfl
  · exact c.put_raw host (x := { c.src host _ with insvc := false }) rfl j

end

/-- R396: a level-sensed source keeps its PEND when it is claimed. -/
theorem ColSrc.pend_and_level (x : ColSrc) : (x.pend && x.level) = if 2 ≤ x.sense then false else x.pend := by
  unfold ColSrc.level
  split
  case isTrue hedge => rw [decide_eq_false (by omega), Bool.and_false]
  case isFalse hlevel => rw [decide_eq_true (by omega), Bool.and_true]

/-! ### What the following of a CLAIM or an EOI leaves -/

/-- An input of a source does not put it in service or end its service. -/
theorem ColSrc.trigger_insvc (x : ColSrc) (n : Nat) : (x.trigger n).insvc = x.insvc := by
  unfold ColSrc.trigger
  simp only [apply_ite ColSrc.insvc, ite_self]

theorem ColSrc.input_insvc (x : ColSrc) (r f : Nat) (l : Bool) : (x.input r f l).insvc = x.insvc := by
  unfold ColSrc.input
  simp only [apply_ite ColSrc.insvc, ColSrc.trigger_insvc, ite_self]

/-- `d` is `c` but for inputs of source 1, and for the error flags and REQ. -/
structure Collector.SameButErrors (c d : Collector) : Prop where
  stack : d.stack = c.stack
  rp : d.rp = c.rp
  src : ∀ j, j ≠ 1 → d.src true j = c.src true j
  insvc : ∀ j, (d.src true j).insvc = (c.src true j).insvc

theorem Collector.SameButErrors.refl (c : Collector) : c.SameButErrors c := ⟨rfl, rfl, fun _ _ => rfl, fun _ => rfl⟩

theorem HostRegion.input_sameButErrors (h : HostRegion) (r f : Nat) (l : Bool) : h.col.SameButErrors (h.input 1 r f l).col := by
  unfold HostRegion.input
  split
  case isTrue => exact .refl _
  case isFalse =>
    refine ⟨rfl, rfl, fun j hj => (Collector.src_put ..).trans (if_neg hj), fun j => ?insvc⟩
    change ((h.col.put true 1 _).src true j).insvc = _
    rw [Collector.src_put]
    split
    case isTrue hj => rw [ColSrc.input_insvc, hj]
    case isFalse => rfl

/-- `k` is `h` after a change that leaves what the host Collector's level sources other than source 1 follow: the inputs of the
sources, and every register field but HP_EOI. -/
structure HostRegion.LevelsKept (h k : HostRegion) : Prop where
  held : k.held = h.held
  raw : ∀ j, (k.col.src true j).raw = (h.col.src true j).raw
  get : ∀ f : Fld, f.key ≠ F.HP_EOI_SOURCE.key → k.get f = h.get f

section
variable (h : HostRegion)

theorem HostRegion.claim_col : h.claim.col = { (h.col.claim true).1 with req := (h.col.claim true).1.reqNow true } := rfl
theorem HostRegion.claim_regs : h.claim.regs = h.regs := rfl
theorem HostRegion.claim_lastRead : h.claim.lastRead = leBytes 4 (h.col.claim true).2 := rfl

theorem HostRegion.endOfInterrupt_col (v : Nat) :
    (h.endOfInterrupt v).col = { h.col.eoi true v with req := (h.col.eoi true v).reqNow true } := rfl

theorem HostRegion.claim_levelsKept : h.LevelsKept h.claim := ⟨rfl, h.col.claim_raw true, fun _ _ => rfl⟩

theorem HostRegion.endOfInterrupt_levelsKept (v : Nat) : h.LevelsKept (h.endOfInterrupt v) :=
  ⟨rfl, h.col.eoi_raw true v, fun _ hf => HostRegion.get_set_other h v hf⟩

end

section
variable {s : State} {f : HostRegion → HostRegion}

/-- The condition of a level source other than source 1. -/
theorem State.colLevel_onHost (hf : s.host.LevelsKept (f s.host)) {k : Nat} (hne : k ≠ 1) :
    (s.onHost f).colLevel k = s.colLevel k := by
  have hflag : ∀ g : Fld, g.key ≠ F.HP_EOI_SOURCE.key → (f s.host).flag g = s.host.flag g := fun g hg => by
    simp only [HostRegion.flag, hf.get g hg]
  unfold State.colLevel
  split
  case h_1 => exact absurd rfl hne
  -- Sources 19 and 27 follow the modes, and a source that is not listed has no condition; the others follow register fields.
  case h_7 | h_8 | h_11 => rfl
  all_goals simp (disch := decide) only [State.onHost, hflag]

/-- One step of the host Collector's following: source `k` takes its condition, unless it stands at it. -/
def State.follow (u : State) (h : HostRegion) (k : Nat) : HostRegion :=
  if (h.col.src true k).raw = u.colLevel k then h else h.input k (u.colLevel k).toNat (!u.colLevel k).toNat (u.colLevel k)

theorem State.foldl_follow_of_levels (u : State) (h : HostRegion) (l : List Nat) (hl : ∀ k ∈ l, (h.col.src true k).raw = u.colLevel k) :
    l.foldl u.follow h = h := by
  induction l with
  | nil => rfl
  | cons k l ih =>
    obtain ⟨hk, hrest⟩ := List.forall_mem_cons.1 hl
    rw [List.foldl_cons, State.follow, if_pos hk, ih hrest]

/-- While the modes stay, the following is that of the level sources, source 1 first. -/
theorem State.followed_of_mode {u old : State} (h0 : old.side0.mode = u.side0.mode) (h1 : old.side1.mode = u.side1.mode) :
    u.followed old = levelSources.tail.foldl u.follow (u.follow u.host 1) := by
  have hcons : levelSources = 1 :: levelSources.tail := rfl
  simp only [State.followed, h0, h1, if_true]
  rw [hcons, List.foldl_cons]
  rfl

/-- After such a change the Collector's following is that of source 1. -/
theorem State.followed_onHost (hheld : s.host.held = false) (hlevels : LevelsFollow s) (hf : s.host.LevelsKept (f s.host)) :
    (s.onHost f).followed s = (s.onHost f).follow (f s.host) 1 := by
  have hraw (k : Nat) (hk : k ∈ levelSources) (hne : k ≠ 1) :
      (((s.onHost f).follow (f s.host) 1).col.src true k).raw = (s.onHost f).colLevel k := by
    rw [State.colLevel_onHost hf hne, ← hlevels hheld k hk, ← hf.raw k, State.follow]
    split
    case isTrue => rfl
    case isFalse => rw [HostRegion.input_raw _ _ _ _ _ _ (hf.held.trans hheld), if_neg hne]
  rw [State.followed_of_mode (u := s.onHost f) (old := s) rfl rfl]
  exact State.foldl_follow_of_levels _ _ _ fun k hk =>
    hraw k (List.mem_of_mem_tail hk) (ne_of_mem_of_not_mem hk (by decide))

/-- While the error flags stand, the Collector follows nothing. -/
theorem State.followed_onHost_of_errors (hheld : s.host.held = false) (hlevels : LevelsFollow s)
    (hf : s.host.LevelsKept (f s.host)) (hstack : (f s.host).col.stackErr = s.host.col.stackErr)
    (heoi : (f s.host).col.eoiMismatch = s.host.col.eoiMismatch) : (s.onHost f).followed s = f s.host := by
  have hlevel : (s.onHost f).colLevel 1 = s.colLevel 1 := by
    simp only [State.colLevel, State.onHost, hstack, heoi]
  rw [State.followed_onHost hheld hlevels hf, State.follow, if_pos]
  rw [hf.raw, hlevel]
  exact hlevels hheld 1 (by decide)

theorem State.followed_onHost_sameButErrors (hheld : s.host.held = false) (hlevels : LevelsFollow s)
    (hf : s.host.LevelsKept (f s.host)) : (f s.host).col.SameButErrors ((s.onHost f).followed s).col := by
  rw [State.followed_onHost hheld hlevels hf, State.follow]
  split
  case isTrue => exact .refl _
  case isFalse => exact HostRegion.input_sameButErrors ..

end

/-! ### The commands -/

theorem leBytes_four_zero : leBytes 4 0 = [0, 0, 0, 0] := by decide

theorem HostRegion.held_of_open {h : HostRegion} (hopen : h.open = true) : h.held = false := by
  simp only [HostRegion.open, Bool.and_eq_true, Bool.not_eq_true'] at hopen
  exact hopen.1

section
variable {s : State} {f : HostRegion → HostRegion}

theorem State.hostWrite_of_open (hopen : s.host.open = true) : s.hostWrite f = .next ((s.onHost f).settle s) := if_pos hopen

theorem State.sidesKept_onHost : SidesKept s ((s.onHost f).settle s) :=
  ⟨State.settle_side0 .., State.settle_side1 .., State.settle_pending ..⟩

theorem State.settle_claim_regs : ((s.onHost HostRegion.claim).settle s).host.regs = s.host.regs := by
  rw [State.settle_host, State.followed_regs, State.onHost, HostRegion.claim_regs]

/-- An EOI writes its source into HP_EOI and no other register. -/
theorem State.endOfInterrupt_fieldsOnly (v : Nat) :
    s.host.FieldsOnly ((s.onHost fun h => h.endOfInterrupt v).followed s) [F.HP_EOI_SOURCE] := by
  refine ⟨?bare, fun g hg => ?get⟩
  case bare => rw [State.followed_bare]; rfl
  case get => exact (State.followed_get ..).trans (HostRegion.get_set_other _ _ (hg _ (List.mem_singleton_self _)))

variable (hopen : s.host.open = true) (hlevels : LevelsFollow s) {k : Nat}
include hopen hlevels

/-- R396: a CLAIM with room on the stack. -/
theorem exists_exec_claim_of_picks (hk : s.host.col.Picks true k) (hroom : s.host.col.stack.length < 16) :
    ∃ t, exec (.collectorClaim .host) s = .next t ∧ (t.host.regs = s.host.regs ∧ SidesKept s t) ∧
      t.host.lastRead = leBytes 4 k ∧ t.host.col.stack = (s.host.col.rp, k) :: s.host.col.stack ∧
      t.host.col.rp = (s.host.col.src true k).prio ∧
      t.host.col.src true k = { s.host.col.src true k with
        insvc := true, pend := if 2 ≤ (s.host.col.src true k).sense then false else (s.host.col.src true k).pend } ∧
      ∀ j, j ≠ k → t.host.col.src true j = s.host.col.src true j := by
  have hclaim := Collector.claim_of_picks hk hroom
  have hhost : (s.onHost HostRegion.claim).followed s = s.host.claim :=
    State.followed_onHost_of_errors (HostRegion.held_of_open hopen) hlevels s.host.claim_levelsKept
      (by rw [HostRegion.claim_col, hclaim]; rfl) (by rw [HostRegion.claim_col, hclaim]; rfl)
  refine ⟨_, State.hostWrite_of_open hopen, ⟨State.settle_claim_regs, State.sidesKept_onHost⟩, ?_⟩
  rw [State.settle_host, hhost, HostRegion.claim_lastRead, HostRegion.claim_col, hclaim, ← ColSrc.pend_and_level]
  exact ⟨rfl, rfl, rfl, (Collector.src_put ..).trans (if_pos rfl), fun j hj => (Collector.src_put ..).trans (if_neg hj)⟩

/-- R396: a CLAIM with the stack full. -/
theorem exists_exec_claim_of_full (hk : s.host.col.Picks true k) (hfull : 16 ≤ s.host.col.stack.length) :
    ∃ t, exec (.collectorClaim .host) s = .next t ∧ (t.host.regs = s.host.regs ∧ SidesKept s t) ∧
      t.host.lastRead = [0, 0, 0, 0] ∧ t.host.col.stackErr = true ∧ t.host.col.stack = s.host.col.stack ∧
      t.host.col.rp = s.host.col.rp ∧ ∀ j, j ≠ 1 → t.host.col.src true j = s.host.col.src true j := by
  have hclaim := Collector.claim_of_full hk hfull
  have hsame := State.followed_onHost_sameButErrors (HostRegion.held_of_open hopen) hlevels s.host.claim_levelsKept
  rw [HostRegion.claim_col, hclaim] at hsame
  refine ⟨_, State.hostWrite_of_open hopen, ⟨State.settle_claim_regs, State.sidesKept_onHost⟩, ?_⟩
  rw [State.settle_host]
  refine ⟨?read, ?error, hsame.stack, hsame.rp, hsame.src⟩
  case read => rw [State.followed_lastRead, State.onHost, HostRegion.claim_lastRead, hclaim, leBytes_four_zero]
  case error => rw [(State.followed_errors ..).1, State.onHost, HostRegion.claim_col, hclaim]

/-- R396: a CLAIM that finds no source. -/
theorem exists_exec_claim_of_quiet (hquiet : ∀ k, (s.host.col.src true k).qualifies s.host.col.rp = false) :
    ∃ t, exec (.collectorClaim .host) s = .next t ∧ (t.host.regs = s.host.regs ∧ SidesKept s t) ∧
      t.host.lastRead = [0, 0, 0, 0] ∧ t.host.col = { s.host.col with req := false } := by
  have hclaim := Collector.claim_of_quiet hquiet
  have hhost : (s.onHost HostRegion.claim).followed s = s.host.claim :=
    State.followed_onHost_of_errors (HostRegion.held_of_open hopen) hlevels s.host.claim_levelsKept
      (by rw [HostRegion.claim_col, hclaim]) (by rw [HostRegion.claim_col, hclaim])
  have hreq : s.host.col.reqNow true = false := congrArg Option.isSome ((s.host.col.best_eq_none true).2 hquiet)
  refine ⟨_, State.hostWrite_of_open hopen, ⟨State.settle_claim_regs, State.sidesKept_onHost⟩, ?_⟩
  rw [State.settle_host, hhost, HostRegion.claim_lastRead, HostRegion.claim_col, hclaim, hreq]
  exact ⟨leBytes_four_zero, rfl⟩

/-- R397: an EOI with an entry on the stack. -/
theorem exists_exec_eoi_of_cons (v : BitVec 8) {p : Nat} {rest : List (Nat × Nat)} (hstack : s.host.col.stack = (p, k) :: rest) :
    ∃ t, exec (.collectorEoi .host v) s = .next t ∧ t.host.col.stack = rest ∧ t.host.col.rp = p ∧
      (t.host.col.src true k).insvc = false ∧
      t.host.col.eoiMismatch = (s.host.col.eoiMismatch || decide (v.toNat ≠ k)) ∧
      (∀ j, j ≠ k → j ≠ 1 → t.host.col.src true j = s.host.col.src true j) ∧ SidesKept s t ∧
      s.host.FieldsOnly t.host [F.HP_EOI_SOURCE] := by
  have heoi := Collector.eoi_of_cons (host := true) v.toNat hstack
  have hsrc := Collector.src_put s.host.col true k (x := { s.host.col.src true k with insvc := false })
  have hsame := State.followed_onHost_sameButErrors (f := fun h => h.endOfInterrupt v.toNat) (HostRegion.held_of_open hopen) hlevels
    (s.host.endOfInterrupt_levelsKept v.toNat)
  rw [HostRegion.endOfInterrupt_col, heoi] at hsame
  refine ⟨_, State.hostWrite_of_open hopen, ?_⟩
  rw [State.settle_host]
  refine ⟨hsame.stack, hsame.rp, ?service, ?mismatch, fun j hj hne => ?other, State.sidesKept_onHost,
    State.endOfInterrupt_fieldsOnly v.toNat⟩
  case service => exact (hsame.insvc k).trans (congrArg ColSrc.insvc ((hsrc k).trans (if_pos rfl)))
  case mismatch => rw [(State.followed_errors ..).2, State.onHost, HostRegion.endOfInterrupt_col, heoi]
  case other => exact (hsame.src j hne).trans ((hsrc j).trans (if_neg hj))

/-- R397: an EOI on an empty stack. -/
theorem exists_exec_eoi_of_nil (v : BitVec 8) (hstack : s.host.col.stack = []) :
    ∃ t, exec (.collectorEoi .host v) s = .next t ∧ t.host.col.stack = [] ∧ t.host.col.rp = s.host.col.rp ∧
      t.host.col.stackErr = true ∧ (∀ j, j ≠ 1 → t.host.col.src true j = s.host.col.src true j) ∧ SidesKept s t ∧
      s.host.FieldsOnly t.host [F.HP_EOI_SOURCE] := by
  have heoi := Collector.eoi_of_nil (host := true) v.toNat hstack
  have hsame := State.followed_onHost_sameButErrors (f := fun h => h.endOfInterrupt v.toNat) (HostRegion.held_of_open hopen) hlevels
    (s.host.endOfInterrupt_levelsKept v.toNat)
  rw [HostRegion.endOfInterrupt_col, heoi] at hsame
  refine ⟨_, State.hostWrite_of_open hopen, ?_⟩
  rw [State.settle_host]
  refine ⟨hsame.stack.trans hstack, hsame.rp, ?error, hsame.src, State.sidesKept_onHost,
    State.endOfInterrupt_fieldsOnly v.toNat⟩
  case error => rw [(State.followed_errors ..).1, State.onHost, HostRegion.endOfInterrupt_col, heoi]

end

/-! ### The statement -/

/-- Settles O14: a CLAIM by what it finds and by the room on the stack, an EOI by the stack's top. -/
theorem hostCollector : Obligations.HostCollector := by
  unfold Obligations.HostCollector
  intro s hopen hlevels c kept
  exact ⟨fun _ => exists_exec_claim_of_picks hopen hlevels, fun _ => exists_exec_claim_of_full hopen hlevels,
    exists_exec_claim_of_quiet hopen hlevels, fun v => ⟨fun _ _ _ => exists_exec_eoi_of_cons hopen hlevels v,
      exists_exec_eoi_of_nil hopen hlevels v⟩⟩

end Sys2Proof.Machine
